-- ==== Sys2Proof/Word.lean ====
section
/-! DEFINITION. The word type of the part's buses and the plainest readings of a word. -/

namespace Sys2Proof

/-- A bus word: 32 bits (R139, 00_scope.md "All words are 32 bits"). -/
abbrev Word := BitVec 32

/-- A half of a word, and the width of the free-running 16-bit counts (12). -/
abbrev Half := BitVec 16

/-- A byte of memory. -/
abbrev Byte := BitVec 8

end Sys2Proof
end

