-- ==== Sys2Proof/Syntax.lean ====
section
/-! DEFINITION. The commands of the P318: one constructor of Instr per row of spec/opcode_table.json, with the operands
that its environment supplies. -/

namespace Sys2Proof

/-- The two lens-shift axes (12.4: 0 H, 1 V). -/
inductive AxisId where
  | h
  | v
deriving DecidableEq, Repr

/-- The three fans (R81: 0 INTAKE, 1 EXHAUST, 2 SOURCE). -/
inductive FanId where
  | intake
  | exhaust
  | source
deriving DecidableEq, Repr

/-- The four temperature channels (R97). -/
inductive ChannelId where
  | source
  | panel
  | board
  | inlet
deriving DecidableEq, Repr

/-- FLOOR or CEILING (R2). -/
inductive Orientation where
  | floor
  | ceiling
deriving DecidableEq, Repr

/-- The five pairs of R147. -/
inductive PairId where
  | positionH
  | positionV
  | intake
  | exhaust
  | source
deriving DecidableEq, Repr

/-- One of the eight request slots (R156). -/
abbrev SlotId := Fin 8

/-- The levels of one axis's three encoder inputs (R17, R19). -/
structure EncLevels where
  a : Bool
  b : Bool
  i : Bool
deriving DecidableEq, Repr

/-- The strap levels REGION[3:0] and ORIENT (R141, R16). -/
structure Straps where
  region : BitVec 4
  orient : Orientation
deriving DecidableEq, Repr

/-- The levels found on the inputs when power is applied. -/
structure PinLevels where
  straps : Straps
  supplyLow : Bool
  interlock : Bool
  encH : EncLevels
  encV : EncLevels
deriving DecidableEq, Repr

/-- The fields a host chooses in the header write that posts a request of a given kind (12.3): slot, tag, body length, abort
flag, and bits 11:0, which R180 says are not examined. -/
structure Post where
  slot : SlotId
  tag : BitVec 8
  len : BitVec 4
  abort : Bool
  low : BitVec 12
deriving DecidableEq, Repr

/-- The commands, one per row of spec/opcode_table.json, in the table's order. -/
inductive Instr where
  | powerOnReset (pins : PinLevels)
  | systemReset (straps : Straps)
  | resetRelease
  | hostRead (addr : Word)
  | hostWrite (addr : Word) (data : Word) (be : BitVec 4)
  | memoryAnswer
  | memoryTimeout
  | pairLowRead (pair : PairId)
  | acknowledge
  | endOfService (data : Word) (be : BitVec 4)
  | abort (kind : BitVec 6) (p : Post)
  | nop (p : Post)
  | axisHome (p : Post)
  | axisMoveTo (p : Post)
  | axisMoveBy (p : Post)
  | axisStop (p : Post)
  | axisReport (p : Post)
  | axisSetup (p : Post)
  | place (p : Post)
  | orient (p : Post)
  | keystone (p : Post)
  | corners (p : Post)
  | fanCurve (p : Post)
  | thresholds (p : Post)
  | thermalResume (p : Post)
  | fanFloor (p : Post)
  | fanReport (p : Post)
  | powerDown (p : Post)
  | powerUp (p : Post)
  | noticeSetup (p : Post)
  | encoderEdge (axis : AxisId) (levels : EncLevels)
  | filterAccept (axis : AxisId) (inputs : EncLevels)
  | motionPeriod (axis : AxisId)
  | stall (axis : AxisId)
  | budgetTimeout (axis : AxisId)
  | settleEnd (axis : AxisId)
  | stoppingEnd (axis : AxisId)
  | stopSlow (axis : AxisId)
  | homeTimeout (axis : AxisId)
  | interlockAsserted
  | interlockReleased
  | supplyLowAsserted
  | supplyLowDeasserted
  | fanTick
  | kickEnd (fan : FanId)
  | tachEdge (fan : FanId) (elapsed : Word)
  | tachWindowExpiry (fan : FanId)
  | cleanTimerExpiry (fan : FanId)
  | temperatureReading (channel : ChannelId) (code : Int)
  | heartbeatTimeout
  | minimumMet
  | cooldownTimeout
  | fsync
  | retirementTimeout
deriving DecidableEq, Repr

end Sys2Proof
end

