-- ==== Sys2Proof/Decode.lean ====
section
/-! DEFINITION. decodeTableWord: no row of spec/opcode_table.json gives bits, so no word spells a command. -/

namespace Sys2Proof

/-- The command that a word spells by the table's bits. Every row of the table has an empty list of fields and no pattern, so
no word spells one. -/
def decodeTableWord (_nbits _w : Nat) : Option Instr := none

end Sys2Proof
end

