-- ==== Sys2Proof/Config.lean ====
section
/-! DEFINITION. What the manual fixes for the part once (durations, ratings, limits), and the one free value. -/

namespace Sys2Proof.Config

/-- FREE VALUE (log 11). R154: "A buffer entry being drained may or may not reach memory" when a reset begins. Applied to
the counter State.free. -/
opaque orphanDrainReaches : Nat → Bool

/-- The memory timeout of R153, in microseconds. -/
def memoryTimeoutUs : Nat := 10
/-- Entries of the posted write buffer (R148). -/
def bufferSize : Nat := 16
/-- The most host grants in a row while the buffer holds entries (R150). -/
def streakLimit : Nat := 4
/-- The retirement timer of R74, in ms. -/
def retirementMs : Nat := 100
/-- Words of a bank that the part writes (R68). -/
def bankWords : Nat := 71
/-- The search timer of R25, in ms. -/
def searchMs : Nat := 12000
/-- Driven periods without a count that make a stall (R49). -/
def stallPeriods : Nat := 50
/-- Periods of a settle (R50). -/
def settlePeriods : Nat := 20
/-- Corrections a move may begin (R50). -/
def maxCorrections : Nat := 3
/-- Quiet periods that end STOPPING (R52). -/
def quietPeriods : Nat := 10
/-- Periods after which STOPPING ends all the same (R52). -/
def stopPeriods : Nat := 500
/-- The hold time that ends a move (R48), in ms. -/
def holdLimitMs : Nat := 2000
/-- The noise tally of ENCODER_NOISE and OK_NOISY (R50, R51). -/
def noisyTally : Nat := 64
/-- Where the 16-bit counts stop (R21, R48, R145, R178). -/
def countCap : Nat := 65535
/-- The kick timer of R87, in ms. -/
def kickMs : Nat := 500
/-- The tach window of R89, in microseconds. -/
def tachWindowUs : Nat := 400000
/-- The clean timer of R92, in ms. -/
def cleanMs : Nat := 10000
/-- The shortest accepted tachometer period (R88), in microseconds. -/
def glitchUs : Nat := 500
/-- Microseconds of a minute over the two pulses of a revolution (R88). -/
def rpmNumerator : Nat := 30000000
/-- The fall of a fan at a tick (R84). -/
def fallStep : Nat := 5
/-- The minimum running duty (R82). -/
def minRunningDuty : Nat := 20
/-- The blind duty (R82). -/
def blindDuty : Nat := 40
/-- The cool-down minimum (R82). -/
def cooldownDuty : Nat := 60
/-- The sampling interval outside STANDBY (R98), in ms. -/
def readingMs : Nat := 250
/-- The sampling interval in STANDBY (R98), in ms. -/
def readingStandbyMs : Nat := 2000
/-- The heartbeat timer (R112), in ms. -/
def heartbeatMs : Nat := 2000
/-- The minimum of a cool-down (R131), in ms. -/
def cooldownMinMs : Nat := 60000
/-- The end of a cool-down by timeout (R132), in ms. -/
def cooldownMaxMs : Nat := 300000
/-- The SOURCE code at or below which a cool-down may end (R131). -/
def cooledCode : Int := 90
/-- The lowest valid code (R97). -/
def codeMin : Int := -80
/-- The highest valid code (R97). -/
def codeMax : Int := 300
/-- The capacity while SUPPLY_LOW is asserted and while it is not (R117). -/
def capacity (supplyLow : Bool) : Nat := if supplyLow then 40 else 64
/-- Records of the event ring (R175). -/
def ringSize : Nat := 32
/-- The occupancy that raises EVENT (R176). -/
def eventMark : Nat := 16

/-- The supply a fan draws at 100 % duty (R81). -/
def rating : FanId → Nat
  | .intake => 10
  | .exhaust => 10
  | .source => 14

end Sys2Proof.Config
end

