-- ==== Sys2Proof/Machine/State.lean ====
section
/-! DEFINITION. The state of the part as plain data, one structure per block of 00_scope.md "Block overview", and the state
right after reset. -/

namespace Sys2Proof.Machine

/-- No command of this part stops the machine: axis FAULT, channel FAULT, FAILED fans, refused requests and refused writes
are states and results that the manual defines. So there is no fault reason. -/
inductive Fault where
deriving DecidableEq, Repr

/-- Why a command has no meaning in this model. -/
inductive Refusal where
  /-- Answered only by an arm of `exec` whose row has no meaning yet; safe, because the model stops there. -/
  | notModelled (mnemonic : String)
deriving DecidableEq, Repr

/-- One value per axis. -/
structure PerAxis (α : Type) where
  h : α
  v : α
deriving DecidableEq, Repr

/-- One value per fan. -/
structure PerFan (α : Type) where
  intake : α
  exhaust : α
  source : α
deriving DecidableEq, Repr

/-- One value per temperature channel. -/
structure PerChannel (α : Type) where
  source : α
  panel : α
  board : α
  inlet : α
deriving DecidableEq, Repr

/-- One value per pair of R147. -/
structure PerPair (α : Type) where
  positionH : α
  positionV : α
  intake : α
  exhaust : α
  source : α
deriving DecidableEq, Repr

/-! ### Results (R166, 12.3) -/

/-- Result classes. -/
inductive ResClass where
  | done
  | refused
  | ended
deriving DecidableEq, Repr

/-- Result codes, in the numbering of 12.3. -/
inductive ResCode where
  | ok
  | okNoisy
  | already
  | badKind
  | badLength
  | badValue
  | notHomed
  | outOfRange
  | axisFaulted
  | axisBusy
  | placementBusy
  | meshLimit
  | interlocked
  | thermalBlock
  | hostLost
  | powerState
  | aborted
  | stopped
  | superseded
  | stall
  | slip
  | homeFail
  | settleFail
  | budgetTimeout
  | cancelled
  | cooldownTimeout
deriving DecidableEq, Repr

/-- A result class and code. -/
structure Result where
  cls : ResClass
  code : ResCode
deriving DecidableEq, Repr

/-! ### Clocks, pins, reset -/

/-- The uptime counter (R146), the 1 MHz timer (R88) and the fan tick (R84). -/
structure Clock where
  /-- ms since the release of power-on reset. -/
  uptime : Word
  /-- microseconds since the last whole ms of uptime (model's own, log 4). -/
  usInMs : Nat
  /-- the free-running 1 MHz timer. -/
  usTimer : Word
  /-- ms to the next whole second of uptime; 0 in the ms of one whose tick is not taken yet. -/
  fanTick : Nat
deriving DecidableEq, Repr

/-- Whether RESET holds the part. -/
inductive ResetState where
  | running
  /-- RESET asserted while power is applied. -/
  | system
  /-- power applied, RESET not yet released. -/
  | powerOn
deriving DecidableEq, Repr

/-- Levels of the straps and level inputs that the part reads. -/
structure Pins where
  straps : Straps
  supplyLow : Bool
  interlock : Bool
deriving DecidableEq, Repr

/-! ### Memory path unit (09) -/

/-- Who queued a buffer entry, with what the producer is told at its leaving (R148, R149). -/
inductive Producer where
  | slotBody
  | slotHeader
  /-- `mark`: the P update of the record that brought the occupancy to 16 (R176). -/
  | eventWriter (mark : Bool)
  | meshWord
  | meshSelector
deriving DecidableEq, Repr

/-- One entry of the posted write buffer (R148). -/
structure Entry where
  offset : Nat
  data : Word
  producer : Producer
deriving DecidableEq, Repr

/-- A host access at the system bus port (R139). -/
inductive HostAccess where
  | read (addr : Word)
  | write (addr : Word) (data : Word) (be : BitVec 4)
deriving DecidableEq, Repr

/-- What the part returned to the master that last completed an access (R139). -/
inductive Reply where
  | readData (data : Word)
  | writeDone
deriving DecidableEq, Repr

/-- What the slot unit decided at the grant of a forwarded write (R158). -/
inductive SlotAct where
  /-- not a slot word, or a slot word that is neither a post nor an abort -/
  | plain
  | post
  | abort
deriving DecidableEq, Repr

/-- The memory cycles of R140, and a cycle that a reset left to end at the memory (R154). -/
inductive CycleKind where
  | hostRead (addr : Word)
  /-- `superseded`: the slot unit has queued a part write to the word since the grant (R159). -/
  | hostWrite (addr : Word) (data : Word) (be : BitVec 4) (act : SlotAct) (superseded : Bool)
  | drain
  | selector
  /-- left over by a reset, to end at the memory; its answer is handed to no one. -/
  | orphan
deriving DecidableEq, Repr

/-- A memory cycle and what is left of its 10 microsecond timer (R153). -/
structure Cycle where
  kind : CycleKind
  left : Nat
deriving DecidableEq, Repr

/-- The memory path unit. -/
structure PathUnit where
  region : BitVec 4
  buffer : List Entry
  port : Option Cycle
  host : Option HostAccess
  reply : Option Reply
  streak : Nat
  selPending : Bool
  refusals : Nat
  lastRefused : Nat
  holds : PerPair (Option Word)
deriving DecidableEq, Repr

/-! ### Slot unit (10) -/

/-- Where a request held by the part stands (R156). -/
inductive Holder where
  | axisQueue (a : AxisId)
  | axisRunning (a : AxisId)
  | stopWait (a : AxisId)
  | placement
  | meshWait
  | power
  | completing
deriving DecidableEq, Repr

/-- The part's view of one slot (R156). -/
inductive SlotView where
  | host
  | part (kind : BitVec 6) (tag : BitVec 8) (abortTaken : Bool) (holder : Holder)
deriving DecidableEq, Repr

/-- A completion on the slot unit's queue (R165). -/
structure Completion where
  slot : SlotId
  result : Result
  body : List Word
deriving DecidableEq, Repr

/-- How far the head completion has been written (R165): words queued in this pass, of those still in the buffer, and whether
one was dropped. The mesh generator keeps the same three for its 71 words (R72). -/
structure Progress where
  queued : Nat
  inBuffer : Nat
  dropped : Bool
deriving DecidableEq, Repr

/-- The slot unit. -/
structure SlotUnit where
  views : Vector SlotView 8
  shadow : Vector (Vector Word 16) 8
  queue : List Completion
  writer : Progress
deriving DecidableEq, Repr

/-! ### Axis controllers (02, 03) -/

/-- Counting modes (R18). -/
inductive CountMode where
  | x1
  | x2
  | x4
deriving DecidableEq, Repr

/-- Motion classes, with zero for no desire and no allotment (R119). -/
inductive Class where
  | zero
  | creep
  | near
  | far
deriving DecidableEq, Repr

/-- A duty set (12.4). -/
structure Duties where
  far : Nat
  near : Nat
  creep : Nat
deriving DecidableEq, Repr

/-- The ENCODER field of an axis configuration (12.4). -/
structure EncoderCfg where
  mode : CountMode
  /-- filter time in microseconds, 0 for off -/
  filter : Nat
  phaseA : Bool
  phaseB : Bool
  homePositive : Bool
deriving DecidableEq, Repr

/-- The nine fields of an axis configuration (R31). `lift` is none on H. -/
structure AxisCfg where
  encoder : EncoderCfg
  homeValue : Int
  limits : Int × Int
  span : Nat
  /-- near, creep, dead -/
  bands : Nat × Nat × Nat
  /-- gain, center -/
  gainCenter : Nat × Int
  park : Int
  primary : Duties
  lift : Option Duties
deriving DecidableEq, Repr

/-- One encoder input: pin level, filtered level, and the time left of a level change being timed (R19). -/
structure EncInput where
  raw : Bool
  filtered : Bool
  timing : Option Nat
deriving DecidableEq, Repr

/-- The three encoder inputs of an axis. The decoder state of R17 is the filtered levels of A and B. -/
structure Encoder where
  a : EncInput
  b : EncInput
  i : EncInput
deriving DecidableEq, Repr

/-- Axis states (R37). -/
inductive AxisState where
  | idle
  | homing
  | moving
  | settling
  | stopping
  | fault
deriving DecidableEq, Repr

/-- Kinds of a move (R37). -/
inductive MoveKind where
  | directMove
  | home
  | placement
  | park
deriving DecidableEq, Repr

/-- The current move record (R37), with the settle count of R50, the search origin of R25 and the travel at failure of R28. -/
structure Move where
  kind : MoveKind
  /-- the slot of a direct request; none for a placement or park move -/
  owner : Option SlotId
  target : Int
  limit : Class
  result : Option Result
  corrections : Nat
  tally : Nat
  noiseReported : Bool
  limited : Nat
  holdTime : Nat
  stallCount : Nat
  settleCount : Nat
  quiet : Nat
  stops : Nat
  origin : Word
  failTravel : Int
deriving DecidableEq, Repr

/-- A direct request (3.2), with the operands that its slot holds. -/
inductive DirectReq where
  | home
  | moveTo (target : Int) (limit : Class)
  | moveBy (delta : Int) (limit : Class)
deriving DecidableEq, Repr

/-- A request on an axis queue (R41). -/
structure Queued where
  slot : SlotId
  req : DirectReq
deriving DecidableEq, Repr

/-- The bridge output (R37, R47) with the class and duty set behind it (R123). -/
structure Drive where
  positive : Bool
  duty : Nat
  cls : Class
  lift : Bool
deriving DecidableEq, Repr

/-- Fault codes of an axis (R35). -/
inductive FaultCode where
  | none
  | stall
deriving DecidableEq, Repr

/-- An axis controller. -/
structure Axis where
  enc : Encoder
  counter : Word
  posTime : Word
  homed : Bool
  rejected : Nat
  phaseErrors : Nat
  cfg : AxisCfg
  st : AxisState
  faultCode : FaultCode
  move : Option Move
  searchTimer : Option Nat
  queue : List Queued
  stopWait : List SlotId
  pendingPark : Bool
  target : Int
  drive : Drive
  lastDuty : Nat
  prevCount : Word
  periodTimer : Nat
deriving DecidableEq, Repr

/-! ### Placement unit (01) -/

/-- Placement status (R1). -/
inductive PlStatus where
  | detached
  | moving
  | applying
  | settled
  | failed
deriving DecidableEq, Repr

/-- The placement record and the orientation in force (R1). -/
structure Placement where
  status : PlStatus
  reqX : Int
  reqY : Int
  optical : PerAxis Int
  targets : PerAxis Int
  remX : Int
  remY : Int
  /-- progress: true is SETTLED -/
  settled : PerAxis Bool
  needed : Half
  firstFailure : Option ResCode
  noisy : Bool
  ref : Option SlotId
  orientation : Orientation
deriving DecidableEq, Repr

/-! ### Mesh generator (04) -/

/-- A displacement in whole pixels (R61). -/
structure Disp where
  dx : Int
  dy : Int
deriving DecidableEq, Repr

/-- The corner record (R61). -/
structure Corners where
  tl : Disp
  tr : Disp
  bl : Disp
  br : Disp
deriving DecidableEq, Repr

/-- What a mesh is computed from: corners, translation in mesh terms, orientation (R61, R67). -/
structure MeshParams where
  corners : Corners
  translation : Disp
  orientation : Orientation
deriving DecidableEq, Repr

/-- Bank marks (R69). -/
inductive BankMark where
  | free
  | selected
  | retiring
deriving DecidableEq, Repr

/-- The two banks (R68). -/
inductive Bank where
  | a
  | b
deriving DecidableEq, Repr

/-- Generator states (R70). -/
inductive MeshState where
  | idle
  | waitRetire
  | building
  | flipPending
deriving DecidableEq, Repr

/-- The snapshot of the build in progress (R70). -/
structure Snapshot where
  params : MeshParams
  gen : Half
  bank : Bank
deriving DecidableEq, Repr

/-- An entry of the waiting list (R76). -/
structure Waiting where
  slot : SlotId
  needed : Half
deriving DecidableEq, Repr

/-- The mesh generator. -/
structure Mesh where
  corners : Corners
  /-- applied translation (tx, ty), y upward -/
  applied : Disp
  st : MeshState
  awaitRead : Bool
  gen : Half
  markA : BankMark
  markB : BankMark
  dirty : Bool
  snapshot : Option Snapshot
  progress : Progress
  /-- FLIP_PENDING: the selector is to be queued again after a drop (R73) -/
  requeueSelector : Bool
  retireTimer : Option Nat
  missingRun : Bool
  waiting : List Waiting
  last : MeshParams
deriving DecidableEq, Repr

/-! ### Fan controller (05) -/

/-- Fan states (R81). -/
inductive FanState where
  | off
  | kick
  | run
  | failed
deriving DecidableEq, Repr

/-- The record of a fan (R81). -/
structure Fan where
  st : FanState
  demand : Nat
  commanded : Nat
  drive : Nat
  floor : Nat
  curve : Nat
  retries : Nat
  rpm : Nat
  capTime : Word
  capValid : Bool
  kickTimer : Option Nat
  /-- microseconds since the tach window was last restarted (R89); none while it does not run. It goes on past 400000 until its
  expiry is taken, so that a late edge is told from one within the window (R88). -/
  tachWindow : Option Nat
  cleanTimer : Option Nat
deriving DecidableEq, Repr

/-! ### Thermal monitor (06) -/

/-- Levels (R97). -/
inductive Level where
  | normal
  | warm
  | hot
  | critical
deriving DecidableEq, Repr

/-- Thresholds and hysteresis of a channel, in codes (R97). -/
structure Thresholds where
  warm : Int
  hot : Int
  critical : Int
  hyst : Int
deriving DecidableEq, Repr

/-- The record of a channel (R97). -/
structure Channel where
  latest : Int
  latestValid : Bool
  reading : Int
  seen : Bool
  invalidStreak : Nat
  validStreak : Nat
  fault : Bool
  level : Level
  thr : Thresholds
  timer : Nat
deriving DecidableEq, Repr

/-- A fan curve: governing channel and breakpoints (temperature, duty) (R108). -/
structure Curve where
  channel : ChannelId
  points : List (Int × Nat)
deriving DecidableEq, Repr

/-- Heartbeat monitor states (R112). -/
inductive Heartbeat where
  | disarmed
  | armed
  | lost
deriving DecidableEq, Repr

/-- The thermal monitor. -/
structure Thermal where
  channels : PerChannel Channel
  overall : Level
  cutLatch : Bool
  hb : Heartbeat
  hbTimer : Option Nat
  lastBeat : Word
  lostAt : Word
  curvesFloor : PerFan Curve
  curvesCeiling : PerFan Curve
deriving DecidableEq, Repr

/-! ### Supply budget unit (07) -/

/-- The supply budget unit. Fan draws are computed from the drive duties (R118). -/
structure Budget where
  capacity : Nat
  desire : PerAxis Class
  order : List AxisId
  allot : PerAxis Class
deriving DecidableEq, Repr

/-! ### Power sequencer (08) -/

/-- Modes (R126). -/
inductive Mode where
  | run
  | cooldown
  | standby
deriving DecidableEq, Repr

/-- Kinds of a cool-down (R126). -/
inductive CoolKind where
  | shutdown
  | recool
deriving DecidableEq, Repr

/-- Park progress of an axis (R126). -/
inductive Park where
  | notAsked
  | waiting
  | result (r : Result)
deriving DecidableEq, Repr

/-- The power sequencer. -/
structure Power where
  mode : Mode
  kind : CoolKind
  elapsed : Nat
  minMet : Bool
  park : PerAxis Park
  ref : Option SlotId
deriving DecidableEq, Repr

/-! ### Notice controller and event writer (11) -/

/-- The eight notice sources, highest priority first (R169). -/
inductive NoticeSource where
  | thermal
  | fan
  | axisV
  | axisH
  | power
  | completion
  | mesh
  | event
deriving DecidableEq, Repr

/-- The notice controller. `stack` has the latest acknowledged source first. -/
structure Notice where
  enable : BitVec 8
  pend : BitVec 8
  stack : List NoticeSource
  base : Nat
deriving DecidableEq, Repr

/-- A placed record on the outgoing list: its ring slot, its four words, P after it, and the occupancy mark (R175, R176). -/
structure Record where
  ring : Nat
  w0 : Word
  w1 : Word
  w2 : Word
  w3 : Word
  pAfter : Half
  mark : Bool
deriving DecidableEq, Repr

/-- The event writer. -/
structure EventWriter where
  p : Half
  c : Half
  q : Half
  overrun : Bool
  lost : Nat
  out : List Record
  fed : Nat
  claimZero : Bool
deriving DecidableEq, Repr

/-! ### The whole part -/

/-- The state of the part, of the memory behind it, and the queue of commands that wait. -/
structure State where
  /-- commands waiting, first in, first out -/
  pending : List Instr
  /-- counter of the free value (log 11) -/
  free : Nat
  clock : Clock
  /-- whether RESET holds the part -/
  hold : ResetState
  pins : Pins
  /-- the SRAM: strictly rising byte addresses, no entry equal to what an unlisted byte reads as -/
  mem : List Host.Cell
  path : PathUnit
  slots : SlotUnit
  axes : PerAxis Axis
  placement : Placement
  mesh : Mesh
  fans : PerFan Fan
  thermal : Thermal
  budget : Budget
  power : Power
  notice : Notice
  events : EventWriter
deriving DecidableEq, Repr

/-! ### Reset -/

namespace Initial

def none5 : PerPair (Option Word) :=
  { positionH := none, positionV := none, intake := none, exhaust := none, source := none }

def progress : Progress := { queued := 0, inBuffer := 0, dropped := false }

/-- R167. -/
def slots : SlotUnit :=
  { views := Vector.replicate 8 .host
    shadow := Vector.replicate 8 (Vector.replicate 16 0)
    queue := []
    writer := progress }

/-- R34. -/
def cfgH : AxisCfg :=
  { encoder := { mode := .x4, filter := 1, phaseA := true, phaseB := true, homePositive := false }
    homeValue := 0
    limits := (-20000, 20000)
    span := 48000
    bands := (2000, 200, 4)
    gainCenter := (20, 0)
    park := 0
    primary := { far := 90, near := 55, creep := 30 }
    lift := none }

/-- R34. -/
def cfgV : AxisCfg :=
  { cfgH with
    primary := { far := 80, near := 45, creep := 25 }
    lift := some { far := 100, near := 65, creep := 35 } }

def driveOff : Drive := { positive := false, duty := 0, cls := .zero, lift := false }

def encInput (level : Bool) : EncInput := { raw := level, filtered := level, timing := none }

def encoder (l : EncLevels) : Encoder := { a := encInput l.a, b := encInput l.b, i := encInput l.i }

/-- R36, R60 at power-on reset. -/
def axis (cfg : AxisCfg) (l : EncLevels) : Axis :=
  { enc := encoder l
    counter := 0
    posTime := 0
    homed := false
    rejected := 0
    phaseErrors := 0
    cfg := cfg
    st := .idle
    faultCode := .none
    move := none
    searchTimer := none
    queue := []
    stopWait := []
    pendingPark := false
    target := 0
    drive := driveOff
    lastDuty := 0
    prevCount := 0
    periodTimer := 1 }

/-- R16 at power-on reset. -/
def placement (o : Orientation) : Placement :=
  { status := .detached
    reqX := 0
    reqY := 0
    optical := { h := 0, v := 0 }
    targets := { h := 0, v := 0 }
    remX := 0
    remY := 0
    settled := { h := false, v := false }
    needed := 0
    firstFailure := none
    noisy := false
    ref := none
    orientation := o }

def zeroDisp : Disp := { dx := 0, dy := 0 }

def zeroCorners : Corners := { tl := zeroDisp, tr := zeroDisp, bl := zeroDisp, br := zeroDisp }

/-- R78 at power-on reset. -/
def mesh (o : Orientation) : Mesh :=
  { corners := zeroCorners
    applied := zeroDisp
    st := .idle
    awaitRead := true
    gen := 0
    markA := .free
    markB := .free
    dirty := true
    snapshot := none
    progress := progress
    requeueSelector := false
    retireTimer := none
    missingRun := false
    waiting := []
    last := { corners := zeroCorners, translation := zeroDisp, orientation := o } }

/-- R96 at power-on reset, held. -/
def fan : Fan :=
  { st := .off
    demand := 0
    commanded := 0
    drive := 0
    floor := 0
    curve := 0
    retries := 0
    rpm := 0
    capTime := 0
    capValid := false
    kickTimer := none
    tachWindow := none
    cleanTimer := none }

/-- R102. -/
def thresholds (c : ChannelId) : Thresholds :=
  match c with
  | .source => { warm := 140, hot := 170, critical := 190, hyst := 6 }
  | .panel => { warm := 110, hot := 130, critical := 150, hyst := 6 }
  | .board => { warm := 120, hot := 150, critical := 180, hyst := 6 }
  | .inlet => { warm := 70, hot := 80, critical := 90, hyst := 6 }

/-- R116 at power-on reset. -/
def channel (c : ChannelId) : Channel :=
  { latest := 0
    latestValid := false
    reading := 0
    seen := false
    invalidStreak := 0
    validStreak := 0
    fault := false
    level := .normal
    thr := thresholds c
    timer := 250 }

/-- R111, set FLOOR. -/
def curvesFloor : PerFan Curve :=
  { intake := { channel := .inlet, points := [(40, 25), (60, 45), (76, 70)] }
    exhaust := { channel := .board, points := [(70, 25), (100, 45), (120, 70)] }
    source := { channel := .source, points := [(80, 30), (120, 50), (160, 80)] } }

/-- R111, set CEILING. -/
def curvesCeiling : PerFan Curve :=
  { intake := { channel := .inlet, points := [(40, 30), (60, 50), (76, 75)] }
    exhaust := { channel := .panel, points := [(70, 30), (90, 50), (110, 75)] }
    source := { channel := .source, points := [(80, 35), (120, 55), (160, 85)] } }

/-- R116 at power-on reset. -/
def thermal : Thermal :=
  { channels :=
      { source := channel .source, panel := channel .panel, board := channel .board, inlet := channel .inlet }
    overall := .normal
    cutLatch := false
    hb := .disarmed
    hbTimer := none
    lastBeat := 0
    lostAt := 0
    curvesFloor := curvesFloor
    curvesCeiling := curvesCeiling }

/-- R125. -/
def budget (capacity : Nat) : Budget :=
  { capacity := capacity, desire := { h := .zero, v := .zero }, order := [], allot := { h := .zero, v := .zero } }

/-- R126, R137 at power-on reset. -/
def power : Power :=
  { mode := .run
    kind := .shutdown
    elapsed := 0
    minMet := false
    park := { h := .notAsked, v := .notAsked }
    ref := none }

/-- R174. -/
def notice : Notice := { enable := 0, pend := 0, stack := [], base := 0 }

/-- R179, before the claim for P = 0 is made. -/
def events : EventWriter :=
  { p := 0, c := 0, q := 0, overrun := false, lost := 0, out := [], fed := 0, claimZero := false }

/-- R154 at power-on reset, before release. -/
def path (region : BitVec 4) : PathUnit :=
  { region := region
    buffer := []
    port := none
    host := none
    reply := none
    streak := 0
    selPending := false
    refusals := 0
    lastRefused := 0xFFFF
    holds := none5 }

/-- A fan right after release: commanded the blind duty and kicking (R96, R82, R87). -/
def fanKicking : Fan :=
  { fan with st := .kick, demand := 40, commanded := 40, drive := 100, kickTimer := some 500 }

end Initial

/-- The machine right after power-on reset and its release (log 3): the reset-time selector read holds the port (R155), the
claim for P = 0 stands in the buffer (R179), and the three fans kick (R96). -/
def State.reset : State :=
  { pending := []
    free := 0
    clock := { uptime := 0, usInMs := 0, usTimer := 0, fanTick := 1000 }
    hold := .running
    pins := { straps := { region := 0, orient := .floor }, supplyLow := false, interlock := false }
    mem := []
    path :=
      { Initial.path 0 with
        buffer := [{ offset := 0x100, data := 0, producer := .eventWriter false }]
        port := some { kind := .selector, left := 10 } }
    slots := Initial.slots
    axes :=
      { h := Initial.axis Initial.cfgH { a := false, b := false, i := false }
        v := Initial.axis Initial.cfgV { a := false, b := false, i := false } }
    placement := Initial.placement .floor
    mesh := Initial.mesh .floor
    fans := { intake := Initial.fanKicking, exhaust := Initial.fanKicking, source := Initial.fanKicking }
    thermal := Initial.thermal
    budget := Initial.budget 64
    power := Initial.power
    notice := Initial.notice
    events := Initial.events }

end Sys2Proof.Machine
end

