-- ==== Sys2Proof/Machine/Ops.lean ====
section
/-! DEFINITION. Named operations over the state that more than one block uses: per-axis, per-fan and per-channel access, the
memory behind the port, the passing of time, notices, events, slots and completions. The part has no exception entry; raising
a notice or an event is its nearest kin, and stands here once. -/

namespace Sys2Proof.Machine

/-! ### Access -/

def PerAxis.get {α : Type} (p : PerAxis α) : AxisId → α
  | .h => p.h
  | .v => p.v

def PerAxis.set {α : Type} (p : PerAxis α) (a : AxisId) (x : α) : PerAxis α :=
  match a with
  | .h => { p with h := x }
  | .v => { p with v := x }

def PerAxis.map {α β : Type} (f : α → β) (p : PerAxis α) : PerAxis β := { h := f p.h, v := f p.v }

def PerFan.get {α : Type} (p : PerFan α) : FanId → α
  | .intake => p.intake
  | .exhaust => p.exhaust
  | .source => p.source

def PerFan.set {α : Type} (p : PerFan α) (f : FanId) (x : α) : PerFan α :=
  match f with
  | .intake => { p with intake := x }
  | .exhaust => { p with exhaust := x }
  | .source => { p with source := x }

def PerFan.map {α β : Type} (f : α → β) (p : PerFan α) : PerFan β :=
  { intake := f p.intake, exhaust := f p.exhaust, source := f p.source }

def PerChannel.get {α : Type} (p : PerChannel α) : ChannelId → α
  | .source => p.source
  | .panel => p.panel
  | .board => p.board
  | .inlet => p.inlet

def PerChannel.set {α : Type} (p : PerChannel α) (c : ChannelId) (x : α) : PerChannel α :=
  match c with
  | .source => { p with source := x }
  | .panel => { p with panel := x }
  | .board => { p with board := x }
  | .inlet => { p with inlet := x }

def PerChannel.map {α β : Type} (f : α → β) (p : PerChannel α) : PerChannel β :=
  { source := f p.source, panel := f p.panel, board := f p.board, inlet := f p.inlet }

def PerPair.get {α : Type} (p : PerPair α) : PairId → α
  | .positionH => p.positionH
  | .positionV => p.positionV
  | .intake => p.intake
  | .exhaust => p.exhaust
  | .source => p.source

def PerPair.set {α : Type} (p : PerPair α) (k : PairId) (x : α) : PerPair α :=
  match k with
  | .positionH => { p with positionH := x }
  | .positionV => { p with positionV := x }
  | .intake => { p with intake := x }
  | .exhaust => { p with exhaust := x }
  | .source => { p with source := x }

/-- The other axis (R10). -/
def otherAxis : AxisId → AxisId
  | .h => .v
  | .v => .h

def State.axis (s : State) (a : AxisId) : Axis := s.axes.get a

def State.setAxis (s : State) (a : AxisId) (x : Axis) : State := { s with axes := s.axes.set a x }

def State.fan (s : State) (f : FanId) : Fan := s.fans.get f

def State.setFan (s : State) (f : FanId) (x : Fan) : State := { s with fans := s.fans.set f x }

def State.channel (s : State) (c : ChannelId) : Channel := s.thermal.channels.get c

def State.setChannel (s : State) (c : ChannelId) (x : Channel) : State :=
  { s with thermal := { s.thermal with channels := s.thermal.channels.set c x } }

/-- The position of an axis as a signed count (R22). -/
def State.position (s : State) (a : AxisId) : Int := (s.axis a).counter.toInt

/-- A count that stops at 65535 (R21, R48, R145, R178). -/
def satSucc (n : Nat) : Nat := min Config.countCap (n + 1)

/-- A signed value as a 32-bit two's complement word (12). -/
def signedWord (i : Int) : Word := BitVec.ofInt 32 i

/-- A natural number as a word. -/
def natWord (n : Nat) : Word := BitVec.ofNat 32 n

def boolNat (b : Bool) : Nat := if b then 1 else 0

/-! ### The memory behind the memory port (R140) -/

/-- The SRAM's contents as listed (byte address, byte) pairs. -/
abbrev Memory := List Host.Cell

/-- What a byte that nothing has written reads as (log 1). -/
def Memory.blank : Byte := 0

def Memory.get : Memory → Nat → Byte
  | [], _ => Memory.blank
  | (a, b) :: rest, k => if a = k then b else Memory.get rest k

/-- Write one byte, keeping addresses rising and dropping an entry that equals an unlisted byte. -/
def Memory.set : Memory → Nat → Byte → Memory
  | [], k, v => if v = Memory.blank then [] else [(k, v)]
  | (a, b) :: rest, k, v =>
    if k < a then (if v = Memory.blank then (a, b) :: rest else (k, v) :: (a, b) :: rest)
    else if k = a then (if v = Memory.blank then rest else (k, v) :: rest)
    else (a, b) :: Memory.set rest k v

/-- The canonical form: addresses strictly rising, no entry equal to what an unlisted address reads as. -/
def Memory.wf : Memory → Bool
  | [] => true
  | (a, b) :: rest => (b != Memory.blank) && rest.all (fun c => decide (a < c.1)) && Memory.wf rest

/-- The byte address of the word that an access names; the low two bits are ignored (R139). -/
def wordBase (addr : Word) : Nat := addr.toNat / 4 * 4

/-- A word read: byte k of the word lies at the word's base plus k (log 2). -/
def Memory.readWord (m : Memory) (base : Nat) : Word :=
  Memory.get m (base + 3) ++ Memory.get m (base + 2) ++ Memory.get m (base + 1) ++ Memory.get m base

/-- Byte k of a word. -/
def byteOf (w : Word) (k : Nat) : Byte := (w >>> (8 * k)).setWidth 8

/-- Write byte k of the word when its byte enable is set. -/
def Memory.setLane (m : Memory) (base : Nat) (w : Word) (be : BitVec 4) (k : Nat) : Memory :=
  if be.getLsbD k then Memory.set m (base + k) (byteOf w k) else m

/-- A word write with byte enables (R139). -/
def Memory.writeWord (m : Memory) (base : Nat) (w : Word) (be : BitVec 4) : Memory :=
  Memory.setLane (Memory.setLane (Memory.setLane (Memory.setLane m base w be 0) base w be 1) base w be 2) base w be 3

/-- A word with the enabled bytes of another put in (R157, R158). -/
def mergeWord (old new : Word) (be : BitVec 4) : Word :=
  let lane (k : Nat) : Byte := if be.getLsbD k then byteOf new k else byteOf old k
  lane 3 ++ lane 2 ++ lane 1 ++ lane 0

/-! ### The optics region (R141) -/

/-- The upper 18 bits of an address of the region. The base S × 0x0100_0000 + 0x00FF_C000 of the 16 KiB region is aligned to the
region's size: bits 31:28 are 0, bits 27:24 are S, and bits 23:14 are ones. -/
def regionTag (region : BitVec 4) : BitVec 18 := 0#4 ++ region ++ 0x3FF#10

/-- The offset of an address in the region, or none outside it: the address less the base, divided by four. -/
def State.offsetOf (s : State) (addr : Word) : Option Nat :=
  if addr.extractLsb' 14 18 = regionTag s.path.region then some (addr.extractLsb' 2 12).toNat else none

/-- The byte address of an offset. -/
def State.addrOf (s : State) (offset : Nat) : Word := regionTag s.path.region ++ BitVec.ofNat 12 offset ++ 0#2

/-! ### Time -/

/-- What is left of a running timer after n of its units. -/
def countDown (n : Nat) (t : Option Nat) : Option Nat := t.map (fun k => k - n)

def EncInput.pass (us : Nat) (x : EncInput) : EncInput := { x with timing := countDown us x.timing }

def Axis.pass (us ms : Nat) (x : Axis) : Axis :=
  { x with
    enc := { a := x.enc.a.pass us, b := x.enc.b.pass us, i := x.enc.i.pass us }
    searchTimer := countDown ms x.searchTimer
    periodTimer := x.periodTimer - ms }

def Fan.pass (us ms : Nat) (f : Fan) : Fan :=
  { f with
    kickTimer := countDown ms f.kickTimer
    tachWindow := f.tachWindow.map (fun n => n + us)
    cleanTimer := countDown ms f.cleanTimer }

def Channel.pass (ms : Nat) (c : Channel) : Channel := { c with timer := c.timer - ms }

def Power.pass (ms : Nat) (p : Power) : Power :=
  if p.mode = .cooldown then { p with elapsed := min Config.cooldownMaxMs (p.elapsed + ms) } else p

def Cycle.pass (us : Nat) (c : Cycle) : Cycle := { c with left := c.left - us }

/-- The time to the next whole second of uptime after some more ms (R84). It starts anew at each whole second, and stands at 0 in
the ms of one until its tick is taken. -/
def fanTickAfter (left ms : Nat) : Nat := if ms = 0 then left else (left + 999 * ms) % 1000

/-- Time passes: every clock and timer moves on by `us` microseconds, and nothing expires (log 6). The 1 MHz timer counts from
power-on (R88); the rest counts from the release of power-on reset (R146) and runs through a system reset. The filter timers,
the memory timeout and the tach windows count microseconds. The model's choice (log 30): a timer that the manual gives in ms
counts the boundaries of the uptime ms that pass, wherever within a ms it was started. -/
def State.pass (us : Nat) (s : State) : State :=
  if us = 0 then s
  else
    let timer := s.clock.usTimer + natWord us
    if s.hold = .powerOn then { s with clock := { s.clock with usTimer := timer } }
    else
      let t := s.clock.usInMs + us
      let ms := t / 1000
      { s with
        clock :=
          { uptime := s.clock.uptime + natWord ms
            usInMs := t % 1000
            usTimer := timer
            fanTick := fanTickAfter s.clock.fanTick ms }
        path := { s.path with port := s.path.port.map (Cycle.pass us) }
        axes := s.axes.map (Axis.pass us ms)
        fans := s.fans.map (Fan.pass us ms)
        thermal :=
          { s.thermal with
            channels := s.thermal.channels.map (Channel.pass ms)
            hbTimer := countDown ms s.thermal.hbTimer }
        mesh := { s.mesh with retireTimer := countDown ms s.mesh.retireTimer }
        power := s.power.pass ms }

/-- Milliseconds pass. -/
def State.passMs (ms : Nat) (s : State) : State := s.pass (1000 * ms)

/-! ### Notices (R169) -/

/-- Priority and index of a source. -/
def NoticeSource.prio : NoticeSource → Nat
  | .thermal => 0
  | .fan => 1
  | .axisV => 2
  | .axisH => 3
  | .power => 4
  | .completion => 5
  | .mesh => 6
  | .event => 7

/-- The bit of a source in the enable and pending flags. -/
def NoticeSource.bit (n : NoticeSource) : BitVec 8 := BitVec.ofNat 8 (2 ^ n.prio)

/-- The AXIS_H or AXIS_V source. -/
def axisSource : AxisId → NoticeSource
  | .h => .axisH
  | .v => .axisV

/-- A cause sets its source pending (R169); while RESET is asserted it sets none (R174). -/
def State.raiseNotice (s : State) (n : NoticeSource) : State :=
  if s.hold = .running then { s with notice := { s.notice with pend := s.notice.pend ||| n.bit } } else s

/-! ### Events (R175 to R178) -/

/-- Event kinds that carry a small subject, with their numbers (12.6). -/
inductive EventKind where
  | stall
  | slip
  | encoderNoise
  | stopSlow
  | fanStall
  | fanFailed
  | channelFault
  | thermalLevel
  | hostLost
  | hostBack
  | supplyLow
  | supplyOk
  | interlockOn
  | interlockOff
  | frameSyncMissing
  | eosEmpty
  | overrun
deriving DecidableEq, Repr

def EventKind.number : EventKind → Nat
  | .stall => 1
  | .slip => 2
  | .encoderNoise => 3
  | .stopSlow => 4
  | .fanStall => 5
  | .fanFailed => 6
  | .channelFault => 7
  | .thermalLevel => 8
  | .hostLost => 9
  | .hostBack => 10
  | .supplyLow => 11
  | .supplyOk => 12
  | .interlockOn => 13
  | .interlockOff => 14
  | .frameSyncMissing => 15
  | .eosEmpty => 16
  | .overrun => 17

/-- The event code of a kind with a small subject: the number in bits 14:8, the subject in bits 7:0 (12.6). -/
def eventCode (k : EventKind) (subject : Nat) : Half := BitVec.ofNat 16 (k.number * 256 + subject)

/-- The event code of FOREIGN_WRITE (12.6). -/
def foreignCode (offset : Nat) : Half := BitVec.ofNat 16 (0x8000 + offset)

/-- The event code of MEMORY_TIMEOUT; no offset stands for an access outside the region (12.6). -/
def timeoutCode (offset : Option Nat) : Half :=
  match offset with
  | some o => BitVec.ofNat 16 (0xA000 + o)
  | none => 0xBFFF

/-- The event code of CONSUMER_BAD (12.6). -/
def consumerBadCode : Half := 0xC101

/-- The occupancy of the ring (R175). -/
def EventWriter.occupancy (e : EventWriter) : Nat := (e.p - e.c).toNat

/-- Place a record (R175) and mark it when it brings the occupancy from 15 to 16 (R176). -/
def State.placeRecord (s : State) (code : Half) (va vb : Word) : State :=
  let e := s.events
  let r : Record :=
    { ring := e.p.toNat % Config.ringSize
      w0 := e.p ++ code
      w1 := va
      w2 := vb
      w3 := s.clock.uptime
      pAfter := e.p + 1
      mark := decide (e.occupancy + 1 = Config.eventMark) }
  { s with events := { e with p := e.p + 1, out := e.out ++ [r] } }

/-- An event is lost (R178); the first of an overrun raises EVENT. -/
def State.loseEvent (s : State) : State :=
  let t := { s with events := { s.events with lost := satSucc s.events.lost, overrun := true } }
  if s.events.overrun then t else t.raiseNotice .event

/-- The writer takes an event (R175, R178). While RESET is asserted it takes none (R179). -/
def State.raiseCode (s : State) (code : Half) (va vb : Word) : State :=
  if s.hold ≠ .running then s
  else if Config.ringSize ≤ s.events.occupancy then s.loseEvent
  else if s.events.overrun then
    let t := s.placeRecord (eventCode .overrun 0) (natWord s.events.lost) 0
    let t := { t with events := { t.events with overrun := false, lost := 0 } }
    if Config.ringSize ≤ t.events.occupancy then t.loseEvent else t.placeRecord code va vb
  else s.placeRecord code va vb

/-- Raise an event of a kind with a small subject. -/
def State.raiseEvent (s : State) (k : EventKind) (subject : Nat) (va vb : Word) : State :=
  s.raiseCode (eventCode k subject) va vb

/-! ### Slots (R156, R157, R165) -/

def State.view (s : State) (k : SlotId) : SlotView := s.slots.views[k]

def State.setView (s : State) (k : SlotId) (v : SlotView) : State :=
  { s with slots := { s.slots with views := s.slots.views.set k v } }

/-- Move a request held by the part to another holder (R156). -/
def State.setHolder (s : State) (k : SlotId) (h : Holder) : State :=
  match s.view k with
  | .host => s
  | .part kind tag taken _ => s.setView k (.part kind tag taken h)

/-- A word of the slot shadow; word 0 is the header. -/
def State.shadowWord (s : State) (k : SlotId) (w : Fin 16) : Word := (s.slots.shadow[k])[w]

def State.setShadow (s : State) (k : SlotId) (w : Fin 16) (x : Word) : State :=
  { s with slots := { s.slots with shadow := s.slots.shadow.set k ((s.slots.shadow[k]).set w x) } }

/-- The slot that a slot offset lies in. -/
def slotOfOffset (offset : Nat) : SlotId := ⟨offset / 16 % 8, Nat.mod_lt _ (by decide)⟩

/-- The word of its slot that a slot offset names. -/
def wordOfOffset (offset : Nat) : Fin 16 := ⟨offset % 16, Nat.mod_lt _ (by decide)⟩

/-- The offset of word w of a slot. -/
def slotOffset (k : SlotId) (w : Nat) : Nat := 16 * k.val + w

/-- An owning unit hands over the result of a request (R165): the holder becomes COMPLETING and the completion joins the
slot unit's queue. -/
def State.complete (s : State) (k : SlotId) (r : Result) (body : List Word) : State :=
  let t := s.setHolder k .completing
  { t with slots := { t.slots with queue := t.slots.queue ++ [{ slot := k, result := r, body := body }] } }

/-- Complete the request that a reference names, if it names one. -/
def State.completeRef (s : State) (ref : Option SlotId) (r : Result) (body : List Word) : State :=
  match ref with
  | none => s
  | some k => s.complete k r body

def doneOk : Result := { cls := .done, code := .ok }
def doneAlready : Result := { cls := .done, code := .already }
def refusedWith (c : ResCode) : Result := { cls := .refused, code := c }
def endedWith (c : ResCode) : Result := { cls := .ended, code := c }

end Sys2Proof.Machine
end

