-- ==== Sys2Proof/Machine/Flags.lean ====
section
/-! DEFINITION. Conditions and lines that the part computes from its state: levels, the overall level, autonomous mode, the fan
draw, the lines NOTICE, DIM, CUT and RELEASE, and the numeric codes of states. -/

namespace Sys2Proof.Machine

/-! ### Codes (12.3, 12.8) -/

def ResClass.number : ResClass → Nat
  | .done => 1
  | .refused => 2
  | .ended => 3

def ResCode.number : ResCode → Nat
  | .ok => 0
  | .okNoisy => 1
  | .already => 2
  | .badKind => 3
  | .badLength => 4
  | .badValue => 5
  | .notHomed => 6
  | .outOfRange => 7
  | .axisFaulted => 8
  | .axisBusy => 9
  | .placementBusy => 10
  | .meshLimit => 11
  | .interlocked => 12
  | .thermalBlock => 13
  | .hostLost => 14
  | .powerState => 15
  | .aborted => 16
  | .stopped => 17
  | .superseded => 18
  | .stall => 19
  | .slip => 20
  | .homeFail => 21
  | .settleFail => 22
  | .budgetTimeout => 23
  | .cancelled => 24
  | .cooldownTimeout => 25

def AxisState.number : AxisState → Nat
  | .idle => 0
  | .homing => 1
  | .moving => 2
  | .settling => 3
  | .stopping => 4
  | .fault => 5

def FanState.number : FanState → Nat
  | .off => 0
  | .kick => 1
  | .run => 2
  | .failed => 3

def Level.rank : Level → Nat
  | .normal => 0
  | .warm => 1
  | .hot => 2
  | .critical => 3

def PlStatus.number : PlStatus → Nat
  | .detached => 0
  | .moving => 1
  | .applying => 2
  | .settled => 3
  | .failed => 4

def MeshState.number : MeshState → Nat
  | .idle => 0
  | .waitRetire => 1
  | .building => 2
  | .flipPending => 3

def BankMark.number : BankMark → Nat
  | .free => 0
  | .selected => 1
  | .retiring => 2

def Mode.number : Mode → Nat
  | .run => 0
  | .cooldown => 1
  | .standby => 2

/-- The budget class codes of 12.8; the order is also the order of speed. -/
def Class.rank : Class → Nat
  | .zero => 0
  | .creep => 1
  | .near => 2
  | .far => 3

def Heartbeat.number : Heartbeat → Nat
  | .disarmed => 0
  | .armed => 1
  | .lost => 2

def orientationNumber : Orientation → Nat
  | .floor => 0
  | .ceiling => 1

def FaultCode.number : FaultCode → Nat
  | .none => 0xFF
  | .stall => ResCode.stall.number

def axisNumber : AxisId → Nat
  | .h => 0
  | .v => 1

def fanNumber : FanId → Nat
  | .intake => 0
  | .exhaust => 1
  | .source => 2

def channelNumber : ChannelId → Nat
  | .source => 0
  | .panel => 1
  | .board => 2
  | .inlet => 3

/-- The code that names a bank in the selector (R68). -/
def Bank.number : Bank → Nat
  | .a => 1
  | .b => 2

/-! ### Levels (R103) -/

def Level.max (x y : Level) : Level := if x.rank < y.rank then y else x

/-- The highest of the four channel levels (R103, R104). -/
def State.highestLevel (s : State) : Level :=
  let c := s.thermal.channels
  (c.source.level.max c.panel.level).max (c.board.level.max c.inlet.level)

def State.anyChannelFault (s : State) : Bool :=
  let c := s.thermal.channels
  c.source.fault || c.panel.fault || c.board.fault || c.inlet.fault

def State.anyFanFailed (s : State) : Bool :=
  decide (s.fans.intake.st = .failed) || decide (s.fans.exhaust.st = .failed) || decide (s.fans.source.st = .failed)

/-- The overall level that the channels, their faults and the failed fans give (R103). -/
def State.overallNow (s : State) : Level :=
  if s.anyChannelFault || s.anyFanFailed then s.highestLevel.max .hot else s.highestLevel

/-- Autonomous mode: the heartbeat monitor is LOST (R112). -/
def State.autonomous (s : State) : Bool := decide (s.thermal.hb = .lost)

/-! ### Lines -/

/-- DIM (R105). -/
def State.dim (s : State) : Bool :=
  decide (s.thermal.overall = .hot) || decide (s.thermal.overall = .critical) || s.autonomous

/-- CUT (R105). -/
def State.cut (s : State) : Bool := s.thermal.cutLatch || decide (s.power.mode ≠ .run)

/-- RELEASE (R127). -/
def State.release (s : State) : Bool := decide (s.power.mode = .standby)

/-- All sources, highest priority first. -/
def allSources : List NoticeSource := [.thermal, .fan, .axisV, .axisH, .power, .completion, .mesh, .event]

/-- A source outranks the top of the stack, or the stack is empty (R170). -/
def Notice.outranksTop (n : Notice) (x : NoticeSource) : Bool :=
  match n.stack with
  | [] => true
  | top :: _ => decide (x.prio < top.prio)

/-- Enabled, pending and above the top of the stack (R171). -/
def Notice.qualifies (n : Notice) (x : NoticeSource) : Bool :=
  n.enable.getLsbD x.prio && n.pend.getLsbD x.prio && n.outranksTop x

/-- The highest-priority source that qualifies (R171). -/
def Notice.best (n : Notice) : Option NoticeSource := allSources.find? n.qualifies

/-- NOTICE (R170). -/
def Notice.line (n : Notice) : Bool := n.best.isSome

/-! ### Supply (R118, R119) -/

/-- The draw of a fan at a drawing duty (R118). -/
def fanDraw (f : FanId) (duty : Nat) : Nat := (duty * Config.rating f + 99) / 100

/-- The total fan draw. The drawing duty of a fan is its drive duty (R86). -/
def State.totalDraw (s : State) : Nat :=
  fanDraw .intake s.fans.intake.drive + fanDraw .exhaust s.fans.exhaust.drive + fanDraw .source s.fans.source.drive

/-- The reservation of a class (R119). -/
def Class.reserve : Class → Nat
  | .zero => 0
  | .creep => 4
  | .near => 8
  | .far => 16

/-- The slower of two classes (R46). -/
def Class.slower (x y : Class) : Class := if y.rank < x.rank then y else x

/-! ### Axis conditions -/

/-- HOMING, MOVING or SETTLING: the states in which a stop cause finds a move to end (R53). -/
def AxisState.active : AxisState → Bool
  | .homing => true
  | .moving => true
  | .settling => true
  | _ => false

/-- HOMING or MOVING. -/
def AxisState.driving : AxisState → Bool
  | .homing => true
  | .moving => true
  | _ => false

/-- The budget-hold condition (R37). -/
def State.holding (s : State) (a : AxisId) : Bool :=
  (s.axis a).st.driving && decide (s.budget.allot.get a = .zero) && decide (s.budget.desire.get a ≠ .zero)

/-- The index condition of R23. -/
def Axis.indexCondition (x : Axis) : Bool :=
  x.enc.i.filtered && (x.enc.a.filtered == x.cfg.encoder.phaseA) && (x.enc.b.filtered == x.cfg.encoder.phaseB)

/-- The placement unit holds a reference (R32, R40). -/
def State.placementHeld (s : State) : Bool :=
  match s.placement.status with
  | .moving => true
  | .applying => true
  | .failed => s.placement.ref.isSome
  | _ => false

/-- The axis runs a placement move (R10). -/
def Axis.runsPlacement (x : Axis) : Bool :=
  match x.move with
  | some m => decide (m.kind = .placement)
  | none => false

/-- The axis runs a park move (R132). -/
def Axis.runsPark (x : Axis) : Bool :=
  match x.move with
  | some m => decide (m.kind = .park)
  | none => false

/-- Check 8 of R6 for one axis: a direct request running or queued, or STOPPING. -/
def Axis.busy (x : Axis) : Bool :=
  (match x.move with
    | some m => decide (m.kind = .directMove) || decide (m.kind = .home)
    | none => false)
  || !x.queue.isEmpty || decide (x.st = .stopping)

/-! ### Modulo comparison of generations (R9, R76) -/

/-- A drained generation g reaches a needed generation n. -/
def reaches (g n : Half) : Bool := decide ((g - n).toNat < 32768)

end Sys2Proof.Machine
end

