-- ==== Sys2Proof/Machine/Operands.lean ====
section
/-! DEFINITION. The layouts of slot headers and request bodies (12.3, 12.4), and the length and static rules that the slot unit
applies to a post (R160, R180 and the rule of each kind). -/

namespace Sys2Proof.Machine

/-! ### Request kinds (12.3) -/

inductive Kind where
  | nop
  | axisHome
  | axisMoveTo
  | axisMoveBy
  | axisStop
  | axisReport
  | axisSetup
  | place
  | keystone
  | corners
  | orient
  | fanCurve
  | thresholds
  | fanFloor
  | fanReport
  | thermalResume
  | powerDown
  | powerUp
  | noticeSetup
deriving DecidableEq, Repr

def Kind.number : Kind → BitVec 6
  | .nop => 1
  | .axisHome => 2
  | .axisMoveTo => 3
  | .axisMoveBy => 4
  | .axisStop => 5
  | .axisReport => 6
  | .axisSetup => 7
  | .place => 8
  | .keystone => 9
  | .corners => 10
  | .orient => 11
  | .fanCurve => 12
  | .thresholds => 13
  | .fanFloor => 14
  | .fanReport => 15
  | .thermalResume => 16
  | .powerDown => 17
  | .powerUp => 18
  | .noticeSetup => 19

def allKinds : List Kind :=
  [.nop, .axisHome, .axisMoveTo, .axisMoveBy, .axisStop, .axisReport, .axisSetup, .place, .keystone, .corners, .orient,
    .fanCurve, .thresholds, .fanFloor, .fanReport, .thermalResume, .powerDown, .powerUp, .noticeSetup]

/-- The kind that a kind code names; 0 and 20 to 63 name none (12.3). -/
def kindOfCode (c : BitVec 6) : Option Kind := allKinds.find? (fun k => k.number == c)

/-! ### The slot header (12.3) -/

def headerOwner (w : Word) : Bool := w.getLsbD 31
def headerAbort (w : Word) : Bool := w.getLsbD 30
def headerKind (w : Word) : BitVec 6 := w.extractLsb' 24 6
def headerTag (w : Word) : BitVec 8 := w.extractLsb' 16 8
def headerLen (w : Word) : Nat := (w.extractLsb' 12 4).toNat

/-- The header a host writes to hand a slot over. -/
def postHeader (kind : BitVec 6) (p : Post) : Word := 1#1 ++ BitVec.ofBool p.abort ++ kind ++ p.tag ++ p.len ++ p.low

/-- The header of a completion: owner HOST, abort clear, bits 9:8 zero (R165, R180). -/
def completionHeader (kind : BitVec 6) (tag : BitVec 8) (len : Nat) (r : Result) : Word :=
  0#2 ++ kind ++ tag ++ BitVec.ofNat 4 len ++ BitVec.ofNat 2 r.cls.number ++ 0#2 ++ BitVec.ofNat 8 r.code.number

/-! ### Fields of a word -/

def lowHalf (w : Word) : Int := (w.setWidth 16).toInt
def highHalf (w : Word) : Int := (w.extractLsb' 16 16).toInt
def byteNat (w : Word) (k : Nat) : Nat := (byteOf w k).toNat

/-- Two signed values in the halves of a word (12.7). -/
def packHalves (low high : Int) : Word := BitVec.ofInt 16 high ++ BitVec.ofInt 16 low

def inRange (lo hi i : Int) : Bool := decide (lo ≤ i) && decide (i ≤ hi)

/-- Body word n of a request, counted from 1. -/
def bodyWord (body : List Word) (n : Nat) : Word := body.getD (n - 1) 0

/-- The body that the slot unit hands to the owning unit: shadow words 1 to the body length (R157). -/
def State.body (s : State) (k : SlotId) (len : Nat) : List Word :=
  (List.range len).map (fun i => s.shadowWord k ⟨(i + 1) % 16, Nat.mod_lt _ (by decide)⟩)

/-! ### Shared codes (12.4) -/

def axisOfWord (w : Word) : AxisId := if w = 0 then .h else .v

def fanOfWord (w : Word) : FanId := if w = 0 then .intake else if w = 1 then .exhaust else .source

def channelOfWord (w : Word) : ChannelId :=
  if w = 0 then .source else if w = 1 then .panel else if w = 2 then .board else .inlet

def orientationOfWord (w : Word) : Orientation := if w = 0 then .floor else .ceiling

def classOfWord (w : Word) : Class := if w = 0 then .far else if w = 1 then .near else .creep

def isFlag (w : Word) : Bool := decide (w.toNat ≤ 1)

/-! ### AXIS_SETUP (R31 to R33) -/

/-- The mask bits 0 to 8 that are set, in ascending order. -/
def setupBits (mask : Word) : List Nat := (List.range 9).filter (fun b => mask.getLsbD b)

/-- The present fields with their words (R31). -/
def setupFields (body : List Word) : List (Nat × Word) := (setupBits (bodyWord body 2)).zip (body.drop 2)

/-- The static range of a field word (2.6, 12.4, R180). -/
def setupFieldOk (bit : Nat) (w : Word) : Bool :=
  match bit with
  | 0 => decide (w.toNat < 128) && decide (w.toNat % 4 ≠ 0)
  | 1 => inRange (-32768) 32767 w.toInt
  | 2 => true
  | 3 => decide (1 ≤ w.toNat) && decide (w.toNat ≤ 1048575)
  | 4 =>
    let near := (w.setWidth 16).toNat
    decide (1 ≤ near) && decide (near ≤ 32767) && decide (1 ≤ byteNat w 2) && decide (1 ≤ byteNat w 3)
  | 5 => decide (byteNat w 1 = 0) && decide (1 ≤ byteNat w 0) && decide (byteNat w 0 ≤ 64)
  | 6 => inRange (-32768) 32767 w.toInt
  | 7 => decide (byteNat w 3 = 0) && decide (byteNat w 0 ≤ 100) && decide (byteNat w 1 ≤ 100) && decide (byteNat w 2 ≤ 100)
  | 8 => decide (byteNat w 3 = 0) && decide (byteNat w 0 ≤ 100) && decide (byteNat w 1 ≤ 100) && decide (byteNat w 2 ≤ 100)
  | _ => false

/-- The ENCODER field word (12.4). -/
def encoderOfWord (w : Word) : EncoderCfg :=
  { mode := if w.toNat % 4 = 1 then .x1 else if w.toNat % 4 = 2 then .x2 else .x4
    filter := match w.toNat / 4 % 4 with
      | 0 => 0
      | 1 => 1
      | 2 => 2
      | _ => 4
    phaseA := w.getLsbD 4
    phaseB := w.getLsbD 5
    homePositive := w.getLsbD 6 }

def dutiesOfWord (w : Word) : Duties := { far := byteNat w 0, near := byteNat w 1, creep := byteNat w 2 }

/-- The configuration with one field replaced (R32). -/
def setupApply (c : AxisCfg) (f : Nat × Word) : AxisCfg :=
  match f.1 with
  | 0 => { c with encoder := encoderOfWord f.2 }
  | 1 => { c with homeValue := f.2.toInt }
  | 2 => { c with limits := (lowHalf f.2, highHalf f.2) }
  | 3 => { c with span := f.2.toNat }
  | 4 => { c with bands := ((f.2.setWidth 16).toNat, byteNat f.2 2, byteNat f.2 3) }
  | 5 => { c with gainCenter := (byteNat f.2 0, highHalf f.2) }
  | 6 => { c with park := f.2.toInt }
  | 7 => { c with primary := dutiesOfWord f.2 }
  | 8 => { c with lift := some (dutiesOfWord f.2) }
  | _ => c

/-- The candidate configuration (R32). -/
def setupCandidate (c : AxisCfg) (body : List Word) : AxisCfg := (setupFields body).foldl setupApply c

def Duties.ordered (d : Duties) : Bool := decide (d.creep ≤ d.near) && decide (d.near ≤ d.far)

/-- The check of a candidate as a whole (R32). -/
def AxisCfg.valid (c : AxisCfg) : Bool :=
  decide (c.limits.1 < c.limits.2)
    && inRange c.limits.1 c.limits.2 c.homeValue
    && inRange c.limits.1 c.limits.2 c.park
    && decide (c.bands.2.1 < c.bands.1)
    && decide (c.bands.2.2 < c.bands.2.1)
    && c.primary.ordered
    && (match c.lift with
      | none => true
      | some d => d.ordered)

/-- The fields whose values differ, in the bit order of 2.6. -/
def AxisCfg.changes (old new : AxisCfg) : List Bool :=
  [decide (old.encoder ≠ new.encoder), decide (old.homeValue ≠ new.homeValue), decide (old.limits ≠ new.limits),
    decide (old.span ≠ new.span), decide (old.bands ≠ new.bands), decide (old.gainCenter ≠ new.gainCenter),
    decide (old.park ≠ new.park), decide (old.primary ≠ new.primary), decide (old.lift ≠ new.lift)]

/-- The bits of a list, the first in bit 0. -/
def bitsNat : List Bool → Nat
  | [] => 0
  | b :: rest => boolNat b + 2 * bitsNat rest

/-! ### FAN_CURVE (R110) -/

/-- The breakpoints of a FAN_CURVE body. -/
def curvePoints (body : List Word) : List (Int × Nat) :=
  (body.drop 4).map (fun w => (lowHalf w, (w.extractLsb' 16 16).toNat))

/-- Temperatures strictly rising. -/
def risingPoints : List (Int × Nat) → Bool
  | [] => true
  | [_] => true
  | p :: q :: rest => decide (p.1 < q.1) && risingPoints (q :: rest)

/-! ### CORNERS (R63) -/

def dispOfWord (w : Word) : Disp := { dx := lowHalf w, dy := highHalf w }

def dispInRange (d : Disp) : Bool := inRange (-240) 240 d.dx && inRange (-180) 180 d.dy

def cornersOfBody (body : List Word) : Corners :=
  { tl := dispOfWord (bodyWord body 1)
    tr := dispOfWord (bodyWord body 2)
    bl := dispOfWord (bodyWord body 3)
    br := dispOfWord (bodyWord body 4) }

/-- The corner record of a KEYSTONE (R62). -/
def keystoneCorners (v h : Int) : Corners :=
  { tl := { dx := v, dy := h }, tr := { dx := -v, dy := 0 }, bl := { dx := 0, dy := -h }, br := { dx := 0, dy := 0 } }

/-! ### The post checks (R160) -/

/-- The length rule of each kind (12.4 and the kind's rule). -/
def lengthOk (k : Kind) (body : List Word) : Bool :=
  let n := body.length
  match k with
  | .nop => decide (n = 0)
  | .axisHome => decide (n = 1)
  | .axisMoveTo => decide (n = 3)
  | .axisMoveBy => decide (n = 3)
  | .axisStop => decide (n = 1)
  | .axisReport => decide (n = 2)
  | .axisSetup => decide (2 ≤ n) && decide (n = 2 + (setupBits (bodyWord body 2)).length)
  | .place => decide (n = 2)
  | .keystone => decide (n = 2)
  | .corners => decide (n = 4)
  | .orient => decide (n = 1)
  | .fanCurve => decide (4 ≤ n) && decide (n = 4 + (bodyWord body 4).toNat)
  | .thresholds => decide (n = 5)
  | .fanFloor => decide (n = 2)
  | .fanReport => decide (n = 2)
  | .thermalResume => decide (n = 0)
  | .powerDown => decide (n = 1)
  | .powerUp => decide (n = 0)
  | .noticeSetup => decide (n = 2)

/-- The static rule of each kind (12.4, R180 and the kind's rule). -/
def staticOk (k : Kind) (body : List Word) : Bool :=
  let w := bodyWord body
  match k with
  | .nop => true
  | .axisHome => isFlag (w 1)
  | .axisMoveTo => isFlag (w 1) && decide ((w 3).toNat ≤ 2)
  | .axisMoveBy => isFlag (w 1) && decide ((w 3).toNat ≤ 2)
  | .axisStop => isFlag (w 1)
  | .axisReport => isFlag (w 1) && isFlag (w 2)
  | .axisSetup =>
    isFlag (w 1) && decide ((w 2).toNat < 512) && !((w 2).getLsbD 8 && decide (w 1 = 0))
      && (setupFields body).all (fun f => setupFieldOk f.1 f.2)
  | .place => inRange (-1920) 1920 (w 1).toInt && inRange (-1080) 1080 (w 2).toInt
  | .keystone => inRange (-240) 240 (w 1).toInt && inRange (-180) 180 (w 2).toInt
  | .corners =>
    let c := cornersOfBody body
    dispInRange c.tl && dispInRange c.tr && dispInRange c.bl && dispInRange c.br
  | .orient => isFlag (w 1)
  | .fanCurve =>
    isFlag (w 1) && decide ((w 2).toNat ≤ 2) && decide ((w 3).toNat ≤ 3) && decide (1 ≤ (w 4).toNat)
      && decide ((w 4).toNat ≤ 8)
      && (curvePoints body).all (fun p => inRange Config.codeMin Config.codeMax p.1 && decide (p.2 ≤ 100))
      && risingPoints (curvePoints body)
  | .thresholds =>
    decide ((w 1).toNat ≤ 3)
      && inRange Config.codeMin Config.codeMax (w 2).toInt
      && inRange Config.codeMin Config.codeMax (w 3).toInt
      && inRange Config.codeMin Config.codeMax (w 4).toInt
      && decide ((w 2).toInt < (w 3).toInt) && decide ((w 3).toInt < (w 4).toInt)
      && decide (2 ≤ (w 5).toNat) && decide ((w 5).toNat ≤ 40)
  | .fanFloor => decide ((w 1).toNat ≤ 2) && decide ((w 2).toNat ≤ 100)
  | .fanReport => decide ((w 1).toNat ≤ 2) && isFlag (w 2)
  | .thermalResume => true
  | .powerDown => isFlag (w 1)
  | .powerUp => true
  | .noticeSetup => decide ((w 1).toNat ≤ 255) && decide ((w 2).toNat ≤ 240) && decide ((w 2).toNat % 16 = 0)

/-- The code with which the slot unit refuses a post of a known kind, if it does: length, abort flag, static values, in this
order (R160). -/
def postCheck (k : Kind) (abort : Bool) (body : List Word) : Option ResCode :=
  if !lengthOk k body then some .badLength
  else if abort then some .badValue
  else if !staticOk k body then some .badValue
  else none

end Sys2Proof.Machine
end

