-- ==== Sys2Proof/Machine/Budget.lean ====
section
/-! DEFINITION. The supply budget unit (07): allotment, the budget order, and what a changed allotment does to a driving axis. -/

namespace Sys2Proof.Machine

/-- The largest class whose reservation is within the desire's and within the remainder (R121). -/
def grantClass (desire : Class) (remainder : Nat) : Class :=
  if 3 ≤ desire.rank ∧ 16 ≤ remainder then .far
  else if 2 ≤ desire.rank ∧ 8 ≤ remainder then .near
  else if 1 ≤ desire.rank ∧ 4 ≤ remainder then .creep
  else .zero

/-- The axes served in budget order from what is left (R121). -/
def serveOrder (desire : PerAxis Class) : List AxisId → Nat → PerAxis Class → PerAxis Class
  | [], _, acc => acc
  | a :: rest, remainder, acc =>
    let g := grantClass (desire.get a) remainder
    serveOrder desire rest (remainder - g.reserve) (acc.set a g)

/-- The allotments of the present inputs (R121); an axis not on the list is allotted zero. -/
def State.allotNow (s : State) : PerAxis Class :=
  serveOrder s.budget.desire s.budget.order (s.budget.capacity - s.totalDraw) { h := .zero, v := .zero }

/-- The duty of a class in a duty set. -/
def Duties.get (d : Duties) : Class → Nat
  | .zero => 0
  | .creep => d.creep
  | .near => d.near
  | .far => d.far

/-- The duty set of an axis: primary or lift (R47). -/
def AxisCfg.duties (c : AxisCfg) (lift : Bool) : Duties :=
  if lift then (match c.lift with
    | some d => d
    | none => c.primary)
  else c.primary

/-- The drive turned off: duty 0, class zero. The direction output is left as it is (log 4). -/
def Drive.off (d : Drive) : Drive := { d with duty := 0, cls := .zero }

/-- The drive at a class, same direction and duty set (R47, R123). -/
def Axis.driveAt (x : Axis) (positive lift : Bool) (c : Class) : Axis :=
  if c = .zero then { x with drive := Drive.off { x.drive with positive := positive, lift := lift } }
  else
    let duty := (x.cfg.duties lift).get c
    { x with drive := { positive := positive, duty := duty, cls := c, lift := lift }, lastDuty := duty }

/-- R123: an allotment below the class being driven lowers the drive at once. -/
def Axis.takeAllotment (x : Axis) (c : Class) : Axis :=
  if x.st.driving = true ∧ c.rank < x.drive.cls.rank then x.driveAt x.drive.positive x.drive.lift c else x

/-- The unit recomputes both allotments and hands the axes what changed (R122, R123). -/
def State.rebudget (s : State) : State :=
  let al := s.allotNow
  { s with
    budget := { s.budget with allot := al }
    axes := { h := s.axes.h.takeAllotment al.h, v := s.axes.v.takeAllotment al.v } }

/-- A change of an axis's desire (R119). -/
def State.setDesire (s : State) (a : AxisId) (c : Class) : State :=
  State.rebudget { s with budget := { s.budget with desire := s.budget.desire.set a c } }

/-- An axis joins at the young end with a desire (R120). -/
def State.joinOrder (s : State) (a : AxisId) (c : Class) : State :=
  State.rebudget
    { s with
      budget :=
        { s.budget with
          order := s.budget.order.filter (fun b => decide (b ≠ a)) ++ [a]
          desire := s.budget.desire.set a c } }

/-- An axis leaves the order, desiring zero (R119, R120). -/
def State.leaveOrder (s : State) (a : AxisId) : State :=
  State.rebudget
    { s with
      budget :=
        { s.budget with
          order := s.budget.order.filter (fun b => decide (b ≠ a))
          desire := s.budget.desire.set a .zero } }

/-- An edge of SUPPLY_LOW (R117). While RESET is asserted the unit takes no edge; the level is taken at the release. -/
def State.supplyEdge (s : State) (low : Bool) : State :=
  if s.pins.supplyLow = low then s
  else
    let t := { s with pins := { s.pins with supplyLow := low } }
    if s.hold ≠ .running then t
    else
      let cap := Config.capacity low
      let t := State.rebudget { t with budget := { t.budget with capacity := cap } }
      t.raiseEvent (if low then .supplyLow else .supplyOk) 0 (natWord cap) (natWord t.totalDraw)

end Sys2Proof.Machine
end

