-- ==== Sys2Proof/Machine/Encoder.lean ====
section
/-! DEFINITION. An axis entering STOPPING, and the encoder side of an axis: filtering, decoding, counting, noise, the index
event, homing's end and the slip check (02, R53). -/

namespace Sys2Proof.Machine

/-! ### Entering STOPPING (R53) -/

/-- The axis sets the move's result if it is unset, turns the drive off, drops its timers and counts, and enters STOPPING. -/
def Axis.toStopping (x : Axis) (r : Result) : Axis :=
  { x with
    st := .stopping
    searchTimer := none
    drive := x.drive.off
    move := x.move.map (fun m =>
      { m with result := some (m.result.getD r), quiet := 0, stops := 0, settleCount := 0 }) }

/-- Enter STOPPING with a result; the desire falls to zero (R119). -/
def State.enterStopping (s : State) (a : AxisId) (r : Result) : State :=
  State.setDesire (s.setAxis a ((s.axis a).toStopping r)) a .zero

/-- A stop cause (R53): it acts on an axis in HOMING, MOVING or SETTLING. -/
def State.stopCause (s : State) (a : AxisId) (c : ResCode) : State :=
  if (s.axis a).st.active then s.enterStopping a (endedWith c) else s

/-- A stop cause that reaches both axes, H first. -/
def State.stopBoth (s : State) (c : ResCode) : State := (s.stopCause .h c).stopCause .v c

/-! ### Noise (R21, R51) -/

/-- One rejected edge or phase error added to the noise tally of the running move, and the ENCODER_NOISE event of R51. -/
def State.addNoise (s : State) (a : AxisId) : State :=
  let x := s.axis a
  match x.move with
  | none => s
  | some m =>
    if m.result.isSome then s
    else
      let n := m.tally + 1
      if m.kind ≠ .home ∧ Config.noisyTally ≤ n ∧ m.noiseReported = false then
        (s.setAxis a { x with move := some { m with tally := n, noiseReported := true } }).raiseEvent .encoderNoise
          (axisNumber a) (natWord n) (signedWord m.target)
      else s.setAxis a { x with move := some { m with tally := n } }

/-- A rejected edge (R19). -/
def State.rejectEdge (s : State) (a : AxisId) : State :=
  let x := s.axis a
  (s.setAxis a { x with rejected := satSucc x.rejected }).addNoise a

/-- A phase error (R20). -/
def State.phaseError (s : State) (a : AxisId) : State :=
  let x := s.axis a
  (s.setAxis a { x with phaseErrors := satSucc x.phaseErrors }).addNoise a

/-! ### The quadrature decoder (R17, R18) -/

/-- What a decoder update is (R17). -/
inductive Transition where
  | same
  | forward (changedA : Bool)
  | reverse (changedA : Bool)
  | phaseError
deriving DecidableEq, Repr

/-- The table of R17. -/
def classify : Bool × Bool → Bool × Bool → Transition
  | (false, false), (true, false) => .forward true
  | (true, false), (true, true) => .forward false
  | (true, true), (false, true) => .forward true
  | (false, true), (false, false) => .forward false
  | (true, false), (false, false) => .reverse true
  | (true, true), (true, false) => .reverse false
  | (false, true), (true, true) => .reverse true
  | (false, false), (false, true) => .reverse false
  | (false, false), (true, true) => .phaseError
  | (true, true), (false, false) => .phaseError
  | (true, false), (false, true) => .phaseError
  | (false, true), (true, false) => .phaseError
  | (false, false), (false, false) => .same
  | (false, true), (false, true) => .same
  | (true, false), (true, false) => .same
  | (true, true), (true, true) => .same

/-- Whether the mode counts a transition; `b` is the level of B, which does not change when A does (R18). -/
def CountMode.counts (m : CountMode) (changedA b : Bool) : Bool :=
  match m with
  | .x4 => true
  | .x2 => changedA
  | .x1 => changedA && !b

/-- The change of the counter at a decoder update (R18): +1, -1 or 0. -/
def countDelta (m : CountMode) (old new : Bool × Bool) : Int :=
  match classify old new with
  | .forward c => if m.counts c old.2 then 1 else 0
  | .reverse c => if m.counts c old.2 then -1 else 0
  | .same => 0
  | .phaseError => 0

/-- The counter takes a value, and the position time records the uptime (R22). -/
def State.setCounter (s : State) (a : AxisId) (w : Word) : State :=
  s.setAxis a { s.axis a with counter := w, posTime := s.clock.uptime }

/-! ### The index event (R23, R26, R27, R30) -/

/-- The home is found (R26). -/
def State.homeFound (s : State) (a : AxisId) : State :=
  let t := s.setCounter a (signedWord (s.axis a).cfg.homeValue)
  (t.setAxis a { t.axis a with homed := true }).enterStopping a doneOk

/-- The slip check of R30. -/
def State.slipCheck (s : State) (a : AxisId) : State :=
  let x := s.axis a
  if (x.counter.toInt - x.cfg.homeValue).natAbs ≤ 2 * x.cfg.bands.2.2 then s
  else
    ((s.setAxis a { x with homed := false }).raiseEvent .slip (axisNumber a) x.counter
      (signedWord x.cfg.homeValue)).enterStopping a (endedWith .slip)

/-- A qualified index event is taken according to the axis state (R23); while RESET is asserted it is not taken (R60). -/
def State.indexEvent (s : State) (a : AxisId) : State :=
  if s.hold ≠ .running then s
  else
    match (s.axis a).st with
    | .homing => s.homeFound a
    | .moving => if (s.axis a).homed then s.slipCheck a else s
    | .settling => if (s.axis a).homed then s.slipCheck a else s
    | .idle => s
    | .stopping => s
    | .fault => s

/-- The travel in the home direction (R26). The model's choice (log 36): the difference of the two signed counts is formed
without wrapping, also where the counter has wrapped during the search (R22). -/
def Axis.travel (x : Axis) : Int :=
  match x.move with
  | none => 0
  | some m =>
    if x.cfg.encoder.homePositive then x.counter.toInt - m.origin.toInt else m.origin.toInt - x.counter.toInt

/-- A homing search fails (R27); the travel is kept for the completion (R28). -/
def State.homeFail (s : State) (a : AxisId) : State :=
  let x := s.axis a
  (s.setAxis a { x with move := x.move.map (fun m => { m with failTravel := x.travel }) }).enterStopping a
    (endedWith .homeFail)

/-- The span comparison of R27 after a counted transition. -/
def State.spanCheck (s : State) (a : AxisId) : State :=
  let x := s.axis a
  if x.st = .homing ∧ (x.cfg.span : Int) < x.travel then s.homeFail a else s

/-! ### Decoder update and filter (R17, R19) -/

/-- One decoder update with new filtered levels: count or note a phase error, then take an index event, then compare the span.
-/
def State.decoderUpdate (s : State) (a : AxisId) (l : EncLevels) : State :=
  let x := s.axis a
  let old := (x.enc.a.filtered, x.enc.b.filtered)
  let new := (l.a, l.b)
  let enc : Encoder :=
    { a := { x.enc.a with filtered := l.a }, b := { x.enc.b with filtered := l.b }, i := { x.enc.i with filtered := l.i } }
  let s1 := s.setAxis a { x with enc := enc }
  let d := countDelta x.cfg.encoder.mode old new
  let s2 :=
    if classify old new = .phaseError then s1.phaseError a
    else if d = 0 then s1
    else s1.setCounter a (x.counter + signedWord d)
  let s3 := if (s1.axis a).indexCondition && !x.indexCondition then s2.indexEvent a else s2
  if d = 0 then s3 else s3.spanCheck a

/-- What a level on an input does to it: the input, whether an edge was rejected, whether the level is accepted at once. -/
def EncInput.edge (x : EncInput) (filter : Nat) (level : Bool) : EncInput × Bool × Bool :=
  if level = x.raw then (x, false, false)
  else
    match x.timing with
    | some _ => ({ x with raw := level, timing := none }, true, false)
    | none => if filter = 0 then ({ x with raw := level }, false, true) else ({ x with raw := level, timing := some filter }, false, false)

/-- Reject n edges. -/
def State.rejectEdges (s : State) (a : AxisId) : Nat → State
  | 0 => s
  | n + 1 => State.rejectEdges (s.rejectEdge a) a n

/-- A level change on the encoder inputs of an axis (R19). Before the release of power-on reset the filtered levels are not
yet taken, so only the pin levels move (R36). -/
def State.encoderLevels (s : State) (a : AxisId) (l : EncLevels) : State :=
  let x := s.axis a
  if s.hold = .powerOn then
    s.setAxis a
      { x with
        enc := { a := { x.enc.a with raw := l.a }, b := { x.enc.b with raw := l.b }, i := { x.enc.i with raw := l.i } } }
  else
    let f := x.cfg.encoder.filter
    let ea := x.enc.a.edge f l.a
    let eb := x.enc.b.edge f l.b
    let ei := x.enc.i.edge f l.i
    let s1 := s.setAxis a { x with enc := { a := ea.1, b := eb.1, i := ei.1 } }
    let s2 := s1.rejectEdges a (boolNat ea.2.1 + boolNat eb.2.1 + boolNat ei.2.1)
    if ea.2.2 || eb.2.2 || ei.2.2 then
      s2.decoderUpdate a
        { a := if ea.2.2 then l.a else x.enc.a.filtered
          b := if eb.2.2 then l.b else x.enc.b.filtered
          i := if ei.2.2 then l.i else x.enc.i.filtered }
    else s2

/-- The longest time left among the named inputs that are being timed. -/
def Encoder.leftOf (e : Encoder) (m : EncLevels) : Nat :=
  let left (named : Bool) (x : EncInput) : Nat := if named then x.timing.getD 0 else 0
  max (left m.a e.a) (max (left m.b e.b) (left m.i e.i))

/-- The named inputs whose level change is being timed are accepted at one decoder update (R17, R19). -/
def State.acceptInputs (s : State) (a : AxisId) (m : EncLevels) : State :=
  let x := s.axis a
  let takes (named : Bool) (e : EncInput) : Bool := named && e.timing.isSome
  let ta := takes m.a x.enc.a
  let tb := takes m.b x.enc.b
  let ti := takes m.i x.enc.i
  if (ta || tb || ti) = false then s
  else
    let clear (t : Bool) (e : EncInput) : EncInput := if t then { e with timing := none } else e
    let s1 := s.setAxis a { x with enc := { a := clear ta x.enc.a, b := clear tb x.enc.b, i := clear ti x.enc.i } }
    s1.decoderUpdate a
      { a := if ta then x.enc.a.raw else x.enc.a.filtered
        b := if tb then x.enc.b.raw else x.enc.b.filtered
        i := if ti then x.enc.i.raw else x.enc.i.filtered }

end Sys2Proof.Machine
end

