-- ==== Sys2Proof/Machine/Mesh.lean ====
section
/-! DEFINITION. The mesh generator (04): node values, the validity check, builds, retirement, the waiting list and the selector
read-back. Flips, which reach the placement unit, stand in Placement.lean. -/

namespace Sys2Proof.Machine

/-! ### Node values (R65, R66) -/

/-- sum / 3 rounded to the nearest whole number, by magnitude (R65). -/
def third (sum : Int) : Int :=
  let q : Int := ((sum.natAbs + 1) / 3 : Nat)
  if sum < 0 then -q else q

/-- The weighted sum of one component at node (c, r) (R65). -/
def cornerSum (tl tr bl br : Int) (c r : Nat) : Int :=
  (8 - c : Int) * (6 - r) * tl + (c : Int) * (6 - r) * tr + (8 - c : Int) * r * bl + (c : Int) * r * br

/-- The screen value of node (c, r), in sixteenths of a pixel (R65). -/
def screenNode (p : MeshParams) (c r : Nat) : Disp :=
  let k := p.corners
  { dx := third (cornerSum k.tl.dx k.tr.dx k.bl.dx k.br.dx c r) + 16 * p.translation.dx
    dy := third (cornerSum k.tl.dy k.tr.dy k.bl.dy k.br.dy c r) + 16 * p.translation.dy }

/-- The panel value of node (c, r) (R66). -/
def panelNode (p : MeshParams) (c r : Nat) : Disp :=
  match p.orientation with
  | .floor => screenNode p c r
  | .ceiling =>
    let d := screenNode p (8 - c) (6 - r)
    { dx := -d.dx, dy := -d.dy }

/-- The panel position of node (c, r) (R66). -/
def panelX (p : MeshParams) (c r : Nat) : Int := 3840 * c + (panelNode p c r).dx
def panelY (p : MeshParams) (c r : Nat) : Int := 2880 * r + (panelNode p c r).dy

/-- All column and row pairs of the 9 by 7 grid. -/
def allNodes : List (Nat × Nat) := (List.range 7).flatMap (fun r => (List.range 9).map (fun c => (c, r)))

/-- Condition 1 of R67. -/
def meshBounds (p : MeshParams) : Bool :=
  allNodes.all (fun n => inRange 0 30720 (panelX p n.1 n.2) && inRange 0 17280 (panelY p n.1 n.2))

/-- Condition 2 of R67. -/
def meshRows (p : MeshParams) : Bool :=
  (List.range 7).all (fun r => (List.range 8).all (fun c => decide (panelX p c r < panelX p (c + 1) r)))

/-- Condition 3 of R67. -/
def meshColumns (p : MeshParams) : Bool :=
  (List.range 9).all (fun c => (List.range 6).all (fun r => decide (panelY p c r < panelY p c (r + 1))))

/-- The validity check (R67). -/
def meshValid (p : MeshParams) : Bool := meshBounds p && meshRows p && meshColumns p

/-- A placement translation (tx, ty) with y upward, in mesh terms (R61). -/
def meshTerms (tx ty : Int) : Disp := { dx := tx, dy := -ty }

/-! ### Words of a bank and the selector (R68, 12.7) -/

def dispWord (d : Disp) : Word := packHalves d.dx d.dy

/-- Word k of the bank of a build. -/
def bankWord (sn : Snapshot) (k : Nat) : Word :=
  if k = 0 then sn.gen.setWidth 32
  else if k = 1 then natWord (orientationNumber sn.params.orientation)
  else if k = 2 then dispWord sn.params.corners.tl
  else if k = 3 then dispWord sn.params.corners.tr
  else if k = 4 then dispWord sn.params.corners.bl
  else if k = 5 then dispWord sn.params.corners.br
  else if k = 6 then dispWord sn.params.translation
  else if k = 7 then natWord (63 + 9 * 256 + 7 * 4096)
  else dispWord (panelNode sn.params ((k - 8) % 9) ((k - 8) / 9))

/-- The first offset of a bank (R68). -/
def Bank.offset : Bank → Nat
  | .a => 0x400
  | .b => 0x480

def selectorOffset : Nat := 0x103

/-- The selector word: bank code in bits 7:0, generation in bits 23:8 (12.7). -/
def selectorWord (bank : Bank) (gen : Half) : Word := 0#8 ++ gen ++ BitVec.ofNat 8 bank.number

/-- The bank and generation that a selector word names, if it names a bank (R181). -/
def readSelector (w : Word) : Option (Bank × Half) :=
  if w.extractLsb' 24 8 ≠ 0 then none
  else if w.extractLsb' 0 8 = 1 then some (.a, w.extractLsb' 8 16)
  else if w.extractLsb' 0 8 = 2 then some (.b, w.extractLsb' 8 16)
  else none

/-! ### Bank marks and builds (R69 to R75) -/

def Mesh.mark (m : Mesh) : Bank → BankMark
  | .a => m.markA
  | .b => m.markB

def Mesh.setMark (m : Mesh) (k : Bank) (x : BankMark) : Mesh :=
  match k with
  | .a => { m with markA := x }
  | .b => { m with markB := x }

def otherBank : Bank → Bank
  | .a => .b
  | .b => .a

/-- The bank a build targets (R71): the bank that is not SELECTED, or bank A when neither is. -/
def Mesh.target (m : Mesh) : Bank := if m.markA = .selected then .b else .a

/-- The generation of the first flip that includes a change taken now (R75). -/
def Mesh.neededGen (m : Mesh) : Half :=
  match m.st with
  | .idle => m.gen + 1
  | .waitRetire => m.gen + 1
  | .building => m.gen + 2
  | .flipPending => m.gen + 2

/-- The parameters in force, with the translation in mesh terms (R61). -/
def State.meshParams (s : State) : MeshParams :=
  { corners := s.mesh.corners
    translation := meshTerms s.mesh.applied.dx s.mesh.applied.dy
    orientation := s.placement.orientation }

/-- The generator takes its snapshot and enters BUILDING (R71). -/
def State.takeSnapshot (s : State) : State :=
  { s with
    mesh :=
      { s.mesh with
        st := .building
        dirty := false
        snapshot := some { params := s.meshParams, gen := s.mesh.gen + 1, bank := s.mesh.target }
        progress := Initial.progress
        requeueSelector := false } }

/-- R71: in IDLE with the dirty flag set, and in WAIT_RETIRE when the target has retired, begin a build or wait. After a reset
the generator does not act until the selector read is answered (R78). -/
def State.meshRun (s : State) : State :=
  let wants := decide (s.mesh.st = .idle) || decide (s.mesh.st = .waitRetire)
  if wants && s.mesh.dirty && !s.mesh.awaitRead then
    if s.mesh.mark s.mesh.target = .free then s.takeSnapshot
    else { s with mesh := { s.mesh with st := .waitRetire } }
  else s

/-- A change of a mesh parameter sets the dirty flag; found in IDLE it is taken at once (R70, R71). -/
def State.markDirty (s : State) : State := State.meshRun { s with mesh := { s.mesh with dirty := true } }

/-- A RETIRING bank becomes FREE (R74). -/
def Mesh.retire (m : Mesh) : Mesh :=
  { m with
    markA := if m.markA = .retiring then .free else m.markA
    markB := if m.markB = .retiring then .free else m.markB
    retireTimer := none }

def Mesh.anyRetiring (m : Mesh) : Bool := decide (m.markA = .retiring) || decide (m.markB = .retiring)

/-- The code of the RETIRING bank (R74). -/
def Mesh.retiringCode (m : Mesh) : Nat := if m.markA = .retiring then Bank.a.number else Bank.b.number

/-- FSYNC (R74). -/
def State.takeFsync (s : State) : State :=
  State.meshRun { s with mesh := { s.mesh.retire with missingRun := false } }

/-- The retirement timer expires with a bank RETIRING (R74). -/
def State.retireExpiry (s : State) : State :=
  let code := s.mesh.retiringCode
  let t := { s with mesh := { s.mesh.retire with missingRun := true } }
  let t := if s.mesh.missingRun then t else t.raiseEvent .frameSyncMissing 0 (natWord code) (s.mesh.gen.setWidth 32)
  t.meshRun

/-! ### The waiting list (R76, R77) and the requests (R62 to R64) -/

/-- End every request on the waiting list that the generation reaches, in list order (R76). -/
def State.endReached (s : State) (g : Half) : List Waiting → State
  | [] => s
  | w :: rest =>
    State.endReached (if reaches g w.needed then s.complete w.slot doneOk [g.setWidth 32] else s) g rest

/-- Put a request on the waiting list with a needed generation (R64, R14). -/
def State.joinWaiting (s : State) (k : SlotId) (needed : Half) : State :=
  State.setHolder { s with mesh := { s.mesh with waiting := s.mesh.waiting ++ [{ slot := k, needed := needed }] } } k .meshWait

/-- R64: check and take a replacement corner record. -/
def State.takeCornerRecord (s : State) (k : SlotId) (c : Corners) : State :=
  let first : MeshParams :=
    { corners := c, translation := meshTerms s.mesh.applied.dx s.mesh.applied.dy, orientation := s.placement.orientation }
  let second : MeshParams :=
    { corners := c, translation := meshTerms s.placement.remX s.placement.remY, orientation := s.placement.orientation }
  let pendingPlacement := decide (s.placement.status = .moving) || decide (s.placement.status = .applying)
  if meshValid first && (!pendingPlacement || meshValid second) then
    let needed := s.mesh.neededGen
    State.markDirty (State.joinWaiting { s with mesh := { s.mesh with corners := c } } k needed)
  else s.complete k (refusedWith .meshLimit) []

/-- A posted KEYSTONE that passed its checks (R62). -/
def State.takeKeystone (s : State) (k : SlotId) (body : List Word) : State :=
  s.takeCornerRecord k (keystoneCorners (bodyWord body 1).toInt (bodyWord body 2).toInt)

/-- A posted CORNERS that passed its checks (R63). -/
def State.takeCorners (s : State) (k : SlotId) (body : List Word) : State := s.takeCornerRecord k (cornersOfBody body)

/-- An abort of a request on the waiting list (R77). -/
def State.abortWaiting (s : State) (k : SlotId) : State :=
  State.complete
    { s with mesh := { s.mesh with waiting := s.mesh.waiting.filter (fun w => decide (w.slot ≠ k)) } } k
    (endedWith .aborted) [s.mesh.gen.setWidth 32]

/-! ### The selector read-back (R78, R79, R181) -/

/-- The answer to the reset-time selector read; none is a timeout. -/
def State.selectorAnswer (s : State) (w : Option Word) : State :=
  let found := w.bind readSelector
  let m := s.mesh
  let m :=
    match found with
    | some (bank, g) =>
      Mesh.setMark (Mesh.setMark { m with gen := g, retireTimer := some Config.retirementMs } bank .selected)
        (otherBank bank) .retiring
    | none => { m with gen := 0, markA := .free, markB := .free, retireTimer := none }
  State.meshRun { s with mesh := { m with awaitRead := false } }

end Sys2Proof.Machine
end

