-- ==== Sys2Proof/Machine/Fans.lean ====
section
/-! DEFINITION. The fan controller's records (05): demand, commanded duty, state and drive, tachometer; and the curves that the
thermal monitor hands it (6.5). What follows from a fan's failure stands in Thermal.lean. -/

namespace Sys2Proof.Machine

/-! ### Curves (R108, R109) -/

/-- The interpolated duty between two breakpoints, an exact half rounded to the higher duty (R108). -/
def interpolate (p q : Int × Nat) (t : Int) : Nat :=
  let den := q.1 - p.1
  let num := (p.2 : Int) * den + ((q.2 : Int) - p.2) * (t - p.1)
  ((2 * num + den) / (2 * den)).toNat

/-- The duty of a curve at a reading (R108). -/
def curveAt : List (Int × Nat) → Int → Nat
  | [], _ => 0
  | [p], _ => p.2
  | p :: q :: rest, t =>
    if t ≤ p.1 then p.2 else if t < q.1 then interpolate p q t else curveAt (q :: rest) t

/-- The curves of a set. -/
def Thermal.curves (t : Thermal) : Orientation → PerFan Curve
  | .floor => t.curvesFloor
  | .ceiling => t.curvesCeiling

/-- The curve of a fan in the set in force (R2, R108). -/
def State.curveOf (s : State) (f : FanId) : Curve := (s.thermal.curves s.placement.orientation).get f

/-- The governing channel of a fan (R82). -/
def State.governing (s : State) (f : FanId) : Channel := s.channel (s.curveOf f).channel

/-! ### Demand and commanded duty (R82, R83) -/

/-- The level floor (R82, R104). -/
def Level.floor : Level → Nat
  | .normal => 0
  | .warm => 40
  | .hot => 80
  | .critical => 100

/-- The largest of the terms that apply (R82). -/
def State.largestTerm (s : State) (f : FanId) : Nat :=
  let x := s.fan f
  let g := s.governing f
  [x.curve, s.thermal.overall.floor, if s.power.mode = .cooldown then Config.cooldownDuty else 0, x.floor,
    if g.fault then 100 else 0, if s.autonomous then 100 else 0, if g.seen then 0 else Config.blindDuty].foldl max 0

/-- The demand of a fan (R82). -/
def State.demandOf (s : State) (f : FanId) : Nat :=
  if s.power.mode = .standby then 0
  else
    let m := s.largestTerm f
    if m = 0 then 0 else max m Config.minRunningDuty

/-- State and drive duty follow the commanded duty (R86, R87): a fan in OFF with a commanded duty above 0 kicks, one in KICK or
RUN with a commanded duty of 0 goes to OFF. -/
def Fan.follow (standby : Bool) (f : Fan) : Fan :=
  match f.st with
  | .off =>
    if f.commanded = 0 then { f with drive := 0 }
    else { f with st := .kick, kickTimer := some Config.kickMs, drive := 100 }
  | .kick =>
    if f.commanded = 0 then { f with st := .off, kickTimer := none, cleanTimer := none, drive := 0 }
    else { f with drive := 100 }
  | .run =>
    if f.commanded = 0 then { f with st := .off, kickTimer := none, cleanTimer := none, drive := 0 }
    else { f with drive := f.commanded }
  | .failed => { f with drive := if standby then 0 else 100 }

/-- A fan takes a demand (R83): a rise at once, a fall left to the ticks; in STANDBY the commanded duty is 0 at once (R85). -/
def Fan.takeDemand (standby : Bool) (d : Nat) (f : Fan) : Fan :=
  Fan.follow standby { f with demand := d, commanded := if standby then 0 else max f.commanded d }

def State.standby (s : State) : Bool := decide (s.power.mode = .standby)

/-- A fan's record changes, and the budget unit takes its drawing duty with a recomputation of its own (R86, R118, R122). -/
def State.drawFan (s : State) (f : FanId) (x : Fan) : State := State.rebudget (s.setFan f x)

/-- One fan's demand is recomputed (R83). -/
def State.refreshFan (s : State) (f : FanId) : State := s.drawFan f ((s.fan f).takeDemand s.standby (s.demandOf f))

/-- Every fan's demand is recomputed, each fan in turn (R83). The rule gives the three no order; the model takes INTAKE, EXHAUST,
SOURCE (log 33). -/
def State.refreshFans (s : State) : State := ((s.refreshFan .intake).refreshFan .exhaust).refreshFan .source

/-- The fall of one fan at a tick (R84). -/
def Fan.tick (standby : Bool) (f : Fan) : Fan :=
  if f.commanded ≤ f.demand then f
  else
    let d := max (f.commanded - Config.fallStep) f.demand
    Fan.follow standby { f with commanded := if d < Config.minRunningDuty then 0 else d }

/-- The fall of one fan at a tick, its drawing duty handed over (R84, R86). -/
def State.tickFan (s : State) (f : FanId) : State := s.drawFan f ((s.fan f).tick s.standby)

/-- The fan tick (R84), the fans in the order of log 33. -/
def State.tickFans (s : State) : State := ((s.tickFan .intake).tickFan .exhaust).tickFan .source

/-- The kick timer expires in KICK (R87): RUN, a fresh tach window, capture valid cleared, the clean timer started. -/
def Fan.kickEnd (f : Fan) : Fan :=
  { f with
    st := .run
    drive := f.commanded
    kickTimer := none
    tachWindow := some 0
    capValid := false
    cleanTimer := some Config.cleanMs }

/-! ### Tachometer (R88, R89) -/

/-- A tachometer edge at a timer value (R88); an accepted one restarts the tach window. -/
def Fan.edge (f : Fan) (timer : Word) : Fan :=
  if f.capValid = false then
    { f with capTime := timer, capValid := true, tachWindow := some 0 }
  else
    let period := (timer - f.capTime).toNat
    if period < Config.glitchUs then f
    else { f with rpm := Config.rpmNumerator / period, capTime := timer, tachWindow := some 0 }

/-- The tach window expires (R89). -/
def Fan.silence (f : Fan) : Fan := { f with rpm := 0, capValid := false, tachWindow := none }

/-! ### Requests (R93) -/

/-- A posted FAN_FLOOR that passed its checks (R93). -/
def State.takeFanFloor (s : State) (k : SlotId) (body : List Word) : State :=
  let f := fanOfWord (bodyWord body 1)
  let t := State.refreshFans (s.setFan f { s.fan f with floor := (bodyWord body 2).toNat })
  t.complete k doneOk [natWord (t.fan f).demand, natWord (t.fan f).commanded]

end Sys2Proof.Machine
end

