-- ==== Sys2Proof/Machine/Thermal.lean ====
section
/-! DEFINITION. The thermal monitor (06): readings, levels, the overall level and its readers, the cut latch, the heartbeat
monitor; and a fan's stall and failure, which the monitor is told of (R90, R91). -/

namespace Sys2Proof.Machine

/-! ### The overall level (R103, R104, R106) -/

/-- The overall level is recomputed; a change raises THERMAL_LEVEL and is handed to the readers, and entering CRITICAL sets the
cut latch, stops the axes and raises THERMAL. -/
def State.updateOverall (s : State) (subject : Nat) : State :=
  let new := s.overallNow
  let old := s.thermal.overall
  if new = old then s
  else
    let t := { s with thermal := { s.thermal with overall := new } }
    let t := t.raiseEvent .thermalLevel subject (natWord new.rank) (natWord old.rank)
    let t := t.refreshFans
    if new = .critical then
      let t := { t with thermal := { t.thermal with cutLatch := true } }
      (t.stopBoth .thermalBlock).raiseNotice .thermal
    else t

/-! ### Stall and failure of a fan (R90, R91) -/

/-- A stall: the tach window expired in RUN. -/
def State.fanStall (s : State) (f : FanId) : State :=
  let x := s.fan f
  let n := x.retries + 1
  let raised (t : State) : State :=
    t.raiseEvent .fanStall (fanNumber f) (natWord n) (natWord x.commanded)
  if n ≤ 3 then
    raised
      (s.drawFan f
        (Fan.follow s.standby { x with retries := n, cleanTimer := none, st := .kick, kickTimer := some Config.kickMs }))
  else
    let t := s.drawFan f (Fan.follow s.standby { x with retries := n, cleanTimer := none, st := .failed })
    let t := raised t
    let t := t.raiseEvent .fanFailed (fanNumber f) (natWord 4) (natWord x.commanded)
    (t.raiseNotice .fan).updateOverall (4 + fanNumber f)

/-- The tach window of a fan expires (R89). -/
def State.tachSilence (s : State) (f : FanId) : State :=
  let x := s.fan f
  let t := s.setFan f x.silence
  if x.st = .run then t.fanStall f else t

/-- A posted FAN_REPORT that passed its checks (R94). -/
def State.takeFanReport (s : State) (k : SlotId) (body : List Word) : State :=
  let f := fanOfWord (bodyWord body 1)
  let x := s.fan f
  let result := [natWord x.st.number, natWord x.commanded, natWord x.rpm, natWord x.retries]
  let t :=
    if bodyWord body 2 = 0 then s
    else if x.st = .failed then
      (s.drawFan f (Fan.follow s.standby { x with st := .off, retries := 0 })).updateOverall (4 + fanNumber f)
    else s.setFan f { x with retries := 0 }
  t.complete k doneOk result

/-! ### Channel levels (R99, R100) -/

/-- The highest level whose threshold a reading reaches. -/
def Thresholds.reached (t : Thresholds) (r : Int) : Level :=
  if t.critical ≤ r then .critical else if t.hot ≤ r then .hot else if t.warm ≤ r then .warm else .normal

/-- The threshold of a level. -/
def Thresholds.at (t : Thresholds) : Level → Int
  | .normal => t.warm
  | .warm => t.warm
  | .hot => t.hot
  | .critical => t.critical

/-- The level one step lower. -/
def Level.lower : Level → Level
  | .normal => .normal
  | .warm => .normal
  | .hot => .warm
  | .critical => .hot

/-- The level after a valid reading (R100): rise, fall by one, or hold. -/
def nextLevel (t : Thresholds) (old : Level) (r : Int) : Level :=
  if old.rank < (t.reached r).rank then t.reached r
  else if old ≠ .normal ∧ r < t.at old - t.hyst then old.lower
  else old

def validCode (code : Int) : Bool := inRange Config.codeMin Config.codeMax code

/-- The channel record after a completed reading (R99, R100). -/
def Channel.take (c : Channel) (code : Int) : Channel :=
  if validCode code then
    let n := min 4 (c.validStreak + 1)
    { c with
      latest := code
      latestValid := true
      reading := code
      seen := true
      invalidStreak := 0
      validStreak := n
      fault := c.fault && decide (n < 4)
      level := nextLevel c.thr c.level code }
  else
    let n := min 2 (c.invalidStreak + 1)
    { c with
      latest := code
      latestValid := false
      validStreak := 0
      invalidStreak := n
      fault := c.fault || decide (n = 2) }

/-- The interval of a reading by mode (R98). -/
def Mode.interval : Mode → Nat
  | .run => Config.readingMs
  | .cooldown => Config.readingMs
  | .standby => Config.readingStandbyMs

/-- Every channel's timer restarts at an interval (R98). -/
def State.restartTimers (s : State) (ms : Nat) : State :=
  { s with thermal := { s.thermal with channels := s.thermal.channels.map (fun c => { c with timer := ms }) } }

/-- The new curve demand of a fan from a valid reading of a channel, if that channel governs it (R109). -/
def State.curveDemand (s : State) (c : ChannelId) (f : FanId) : Nat :=
  if (s.curveOf f).channel = c then curveAt (s.curveOf f).points (s.channel c).reading else (s.fan f).curve

/-- Curve demands handed over at a valid reading (R109). -/
def State.handCurves (s : State) (c : ChannelId) : State :=
  { s with
    fans :=
      { intake := { s.fans.intake with curve := s.curveDemand c .intake }
        exhaust := { s.fans.exhaust with curve := s.curveDemand c .exhaust }
        source := { s.fans.source with curve := s.curveDemand c .source } } }

/-- A completed reading up to the overall level (R99 to R106, R109). The model's choices where no rule gives an order: the record
of CHANNEL_FAULT before that of THERMAL_LEVEL (log 38), and the fans' new demands from the curves and the fault before those from
the overall level (log 39). One more (log 43): a reading that clears a fault and moves the level recomputes the overall level once,
after both. -/
def State.channelReading (s : State) (c : ChannelId) (code : Int) : State :=
  let x := s.channel c
  let y := x.take code
  let t := s.setChannel c { y with timer := s.power.mode.interval }
  let t :=
    if y.fault && !x.fault then
      t.raiseEvent .channelFault (channelNumber c) (signedWord y.latest) (signedWord y.reading)
    else t
  let t := if validCode code then t.handCurves c else t
  t.refreshFans.updateOverall (channelNumber c)

/-! ### Requests (R101, R107, R110) -/

/-- A posted THRESHOLDS that passed its checks (R101). -/
def State.takeThresholds (s : State) (k : SlotId) (body : List Word) : State :=
  let c := channelOfWord (bodyWord body 1)
  let thr : Thresholds :=
    { warm := (bodyWord body 2).toInt
      hot := (bodyWord body 3).toInt
      critical := (bodyWord body 4).toInt
      hyst := ((bodyWord body 5).toNat : Int) }
  let t := s.setChannel c { s.channel c with thr := thr }
  t.complete k doneOk [natWord (s.channel c).level.rank]

/-- A posted THERMAL_RESUME that passed its checks (R107). -/
def State.takeThermalResume (s : State) (k : SlotId) : State :=
  let body := [natWord s.thermal.overall.rank]
  if s.thermal.cutLatch = false then s.complete k doneAlready body
  else if s.thermal.overall = .hot ∨ s.thermal.overall = .critical ∨ s.power.mode ≠ .run then
    s.complete k (refusedWith .thermalBlock) body
  else State.complete { s with thermal := { s.thermal with cutLatch := false } } k doneOk body

/-- A set with one fan's curve replaced. -/
def Thermal.setCurve (t : Thermal) (o : Orientation) (f : FanId) (c : Curve) : Thermal :=
  match o with
  | .floor => { t with curvesFloor := t.curvesFloor.set f c }
  | .ceiling => { t with curvesCeiling := t.curvesCeiling.set f c }

/-- A posted FAN_CURVE that passed its checks (R110). -/
def State.takeFanCurve (s : State) (k : SlotId) (body : List Word) : State :=
  let o := orientationOfWord (bodyWord body 1)
  let f := fanOfWord (bodyWord body 2)
  let c : Curve := { channel := channelOfWord (bodyWord body 3), points := curvePoints body }
  let t := { s with thermal := s.thermal.setCurve o f c }
  let t :=
    if o = s.placement.orientation then
      let g := t.channel c.channel
      State.refreshFans (t.setFan f { t.fan f with curve := if g.seen then curveAt c.points g.reading else 0 })
    else t
  t.complete k doneOk [natWord (t.fan f).curve]

/-! ### The heartbeat monitor (R112 to R114) -/

/-- A heartbeat write is classified (R112, R114). -/
def State.heartbeatWrite (s : State) : State :=
  let armed (s : State) : State :=
    { s with
      thermal :=
        { s.thermal with hb := .armed, hbTimer := some Config.heartbeatMs, lastBeat := s.clock.uptime } }
  match s.thermal.hb with
  | .disarmed =>
    if s.power.mode = .standby then { s with thermal := { s.thermal with lastBeat := s.clock.uptime } } else armed s
  | .armed => armed s
  | .lost =>
    let t := (armed s).raiseEvent .hostBack 0 (s.clock.uptime - s.thermal.lostAt) 0
    t.refreshFans

/-- The heartbeat timer expires in ARMED (R113). -/
def State.hostLost (s : State) : State :=
  let t := { s with thermal := { s.thermal with hb := .lost, hbTimer := none, lostAt := s.clock.uptime } }
  let t := t.raiseEvent .hostLost 0 s.thermal.lastBeat 0
  t.refreshFans.stopBoth .hostLost

/-- The monitor becomes DISARMED, without an event (R112, R114). -/
def State.disarm (s : State) : State := { s with thermal := { s.thermal with hb := .disarmed, hbTimer := none } }

end Sys2Proof.Machine
end

