-- ==== Sys2Proof/Machine/Power.lean ====
section
/-! DEFINITION. The power sequencer (08): the end of a cool-down, re-cool, park reports, POWER_UP. -/

namespace Sys2Proof.Machine

/-- The park result word of a POWER_DOWN body (R133, 12.3): class in bits 9:8, code in bits 7:0, 0 for NOT_ASKED. -/
def parkWord : Park → Word
  | .notAsked => 0
  | .waiting => 0
  | .result r => natWord (r.cls.number * 256 + r.code.number)

/-- The three-word body of R133. -/
def State.coolBody (s : State) : List Word :=
  [parkWord s.power.park.h, parkWord s.power.park.v, natWord s.power.elapsed]

/-- The cool-down record of a RECOOL cool-down, in COOLDOWN (R134). -/
def recoolPower : Power :=
  { mode := .cooldown
    kind := .recool
    elapsed := 0
    minMet := false
    park := { h := .notAsked, v := .notAsked }
    ref := none }

/-- A re-cool begins from STANDBY (R134). -/
def State.recool (s : State) : State :=
  let t := State.restartTimers { s with power := recoolPower } Config.readingMs
  t.refreshFans.raiseNotice .power

/-- STANDBY is entered (R133). -/
def State.enterStandby (s : State) : State :=
  let t := State.disarm { s with power := { s.power with mode := .standby } }
  let t := t.restartTimers Config.readingStandbyMs
  t.refreshFans.raiseNotice .power

/-- The end of a cool-down (R133): the POWER_DOWN completes, then STANDBY, or at once a re-cool when a channel is HOT. -/
def State.endCooldown (s : State) (r : Result) : State :=
  let t := s.completeRef s.power.ref r s.coolBody
  let t := { t with power := { t.power with ref := none } }
  if Level.hot.rank ≤ t.highestLevel.rank then
    let t := State.disarm { t with power := recoolPower }
    t.refreshFans.raiseNotice .power
  else t.enterStandby

/-- The three conditions of R131. -/
def State.coolDone (s : State) : Bool :=
  decide (s.power.mode = .cooldown) && s.power.minMet && !s.thermal.channels.source.fault
    && decide (s.thermal.channels.source.reading ≤ Config.cooledCode)
    && decide (s.power.park.h ≠ .waiting) && decide (s.power.park.v ≠ .waiting)

/-- A check of R131; none is made while RESET is asserted (R137). -/
def State.checkCooldown (s : State) : State :=
  if s.hold = .running ∧ s.coolDone = true then s.endCooldown doneOk else s

/-- Record an axis's park progress. -/
def State.setPark (s : State) (a : AxisId) (p : Park) : State :=
  { s with power := { s.power with park := s.power.park.set a p } }

/-- A park report (R130). The model's choice (log 31): any report that finds the progress WAITING is the park result, also that of
an earlier park still coasting when a new POWER_DOWN asks again. -/
def State.parkReport (s : State) (a : AxisId) (r : Result) : State :=
  if s.power.park.get a = .waiting then (s.setPark a (.result r)).checkCooldown else s

/-- The sequencer ends the park of an axis that is WAITING, without waiting for the axis (R132, R135). -/
def State.settlePark (s : State) (a : AxisId) (c : ResCode) : State :=
  if s.power.park.get a = .waiting then
    let t := s.setAxis a { s.axis a with pendingPark := false }
    let t := if (t.axis a).runsPark then t.stopCause a c else t
    t.setPark a (.result (endedWith c))
  else s

/-- Elapsed reaches 300000 in a cool-down (R132). -/
def State.cooldownExpiry (s : State) : State :=
  ((s.settlePark .h .cooldownTimeout).settlePark .v .cooldownTimeout).endCooldown (endedWith .cooldownTimeout)

/-- A posted POWER_UP that passed its checks (R135). -/
def State.takePowerUp (s : State) (k : SlotId) : State :=
  match s.power.mode with
  | .run => s.complete k doneAlready []
  | .standby =>
    let t := State.restartTimers { s with power := { s.power with mode := .run } } Config.readingMs
    t.refreshFans.complete k doneOk []
  | .cooldown =>
    let t := (s.settlePark .h .cancelled).settlePark .v .cancelled
    let t := t.completeRef t.power.ref (endedWith .cancelled) t.coolBody
    let t := { t with power := { t.power with ref := none, mode := .run } }
    t.refreshFans.complete k doneOk []

/-- A completed temperature reading, whole (R99, R131, R134). While RESET is asserted a reading is not taken, but its interval
timer runs on (R116). -/
def State.takeReading (s : State) (c : ChannelId) (code : Int) : State :=
  if s.hold ≠ .running then
    if s.hold = .system then s.setChannel c { s.channel c with timer := s.power.mode.interval } else s
  else
    let t := s.channelReading c code
    let t := if c = .source then t.checkCooldown else t
    if s.power.mode = .standby ∧ s.highestLevel ≠ t.highestLevel ∧ Level.hot.rank ≤ t.highestLevel.rank then t.recool
    else t

end Sys2Proof.Machine
end

