-- ==== Sys2Proof/Machine/Placement.lean ====
section
/-! DEFINITION. The placement unit (01): the split, PLACE, ORIENT, the reports of placement moves, aborts; the starts of moves
that the axes run for others; and the flip of a mesh build, which the placement unit is told of (R73). -/

namespace Sys2Proof.Machine

/-! ### Starting a move (R25, R43, R44) -/

/-- A move record as it stands at its start. -/
def freshMove (kind : MoveKind) (owner : Option SlotId) (target : Int) (limit : Class) (origin : Word) : Move :=
  { kind := kind
    owner := owner
    target := target
    limit := limit
    result := none
    corrections := 0
    tally := 0
    noiseReported := false
    limited := 0
    holdTime := 0
    stallCount := 0
    settleCount := 0
    quiet := 0
    stops := 0
    origin := origin
    failTravel := 0 }

/-- A direct, placement or park move starts (R43, R44): MOVING, young end of the budget order. It desires nothing before its
first motion period (R46). -/
def State.startMove (s : State) (a : AxisId) (kind : MoveKind) (owner : Option SlotId) (target : Int) (limit : Class) : State :=
  let x := s.axis a
  (s.setAxis a
    { x with st := .moving, move := some (freshMove kind owner target limit x.counter), target := target }).joinOrder a .zero

/-- The status leaves SETTLED or FAILED for DETACHED (R13). -/
def State.detach (s : State) : State :=
  if s.placement.status = .settled ∨ s.placement.status = .failed then
    { s with placement := { s.placement with status := .detached, ref := none } }
  else s

/-- A home starts (R25); an index condition that already holds is taken at once. -/
def State.startHome (s : State) (a : AxisId) (k : SlotId) : State :=
  let x := s.axis a
  let t :=
    (s.setAxis a
      { x with
        st := .homing
        homed := false
        searchTimer := some Config.searchMs
        move := some (freshMove .home (some k) x.target .creep x.counter) }).joinOrder a .creep
  let t := t.detach
  if x.indexCondition then t.indexEvent a else t

/-! ### The split (R3, R4) -/

/-- The sign of R3. -/
def sign (o : Orientation) : Int :=
  match o with
  | .floor => 1
  | .ceiling => -1

/-- The exact quotient rounded toward minus infinity, for a positive divisor. -/
def floorDiv (n : Int) (g : Nat) : Int := n / (g : Int)

/-- The exact quotient rounded toward plus infinity, for a positive divisor. -/
def ceilDiv (n : Int) (g : Nat) : Int := -((-n) / (g : Int))

/-- The split of one axis. -/
structure AxisSplit where
  optical : Int
  target : Int
  remainder : Int
deriving DecidableEq, Repr

/-- R4 for one axis; none is OUT_OF_RANGE. -/
def splitAxis (c : AxisCfg) (q : Int) : Option AxisSplit :=
  let gain := c.gainCenter.1
  let center := c.gainCenter.2
  let lo := ceilDiv (c.limits.1 - center) gain
  let hi := floorDiv (c.limits.2 - center) gain
  if hi < lo then none
  else
    let o := if q < lo then lo else if hi < q then hi else q
    some { optical := o, target := center + o * gain, remainder := q - o }

/-- The split of both axes. -/
structure Split where
  h : AxisSplit
  v : AxisSplit
deriving DecidableEq, Repr

/-- The split of a requested placement under an orientation (R3, R4). -/
def State.split (s : State) (o : Orientation) (x y : Int) : Option Split :=
  match splitAxis s.axes.h.cfg (sign o * x), splitAxis s.axes.v.cfg (sign o * y) with
  | some h, some v => some { h := h, v := v }
  | _, _ => none

/-- The screen remainder of a split (R3). -/
def Split.remX (p : Split) (o : Orientation) : Int := sign o * p.h.remainder
def Split.remY (p : Split) (o : Orientation) : Int := sign o * p.v.remainder

/-! ### Checks (R6) -/

/-- Checks 1 to 6 of R6, in order. -/
def State.placeCheck (s : State) : Option ResCode :=
  if s.power.mode ≠ .run then some .powerState
  else if s.autonomous then some .hostLost
  else if s.pins.interlock then some .interlocked
  else if s.thermal.overall = .critical then some .thermalBlock
  else if s.axes.h.st = .fault ∨ s.axes.v.st = .fault then some .axisFaulted
  else if s.axes.h.homed = false ∨ s.axes.v.homed = false then some .notHomed
  else none

/-- The reference is the slot of an ORIENT. -/
def State.refIsOrient (s : State) : Bool :=
  match s.placement.ref with
  | none => false
  | some k =>
    match s.view k with
    | .host => false
    | .part kind _ _ _ => kind == Kind.orient.number

/-- The status is MOVING or APPLYING. -/
def State.placementRuns (s : State) : Bool :=
  decide (s.placement.status = .moving) || decide (s.placement.status = .applying)

/-- Check 8 of R6. -/
def State.axesBusy (s : State) : Bool := s.axes.h.busy || s.axes.v.busy

/-- The candidate mesh of a split under an orientation (R6 check 10, R15). -/
def State.splitMesh (s : State) (o : Orientation) (p : Split) : MeshParams :=
  { corners := s.mesh.corners, translation := meshTerms (p.remX o) (p.remY o), orientation := o }

/-! ### The apply (R8) -/

/-- Both axes have settled: the remainder becomes the applied translation. -/
def State.applyPlacement (s : State) : State :=
  let needed := s.mesh.neededGen
  State.markDirty
    { s with
      mesh := { s.mesh with applied := { dx := s.placement.remX, dy := s.placement.remY } }
      placement := { s.placement with status := .applying, needed := needed } }

/-- Apply when the status is MOVING and both axes count as settled (R8). -/
def State.maybeApply (s : State) : State :=
  if s.placement.status = .moving ∧ s.placement.settled.h = true ∧ s.placement.settled.v = true then s.applyPlacement else s

/-! ### Taking the axes (R7, R11, R58) -/

def State.setProgress (s : State) (a : AxisId) (b : Bool) : State :=
  { s with placement := { s.placement with settled := s.placement.settled.set a b } }

/-- R58: the running placement move takes the new target. -/
def Axis.retarget (x : Axis) (target : Int) : Axis :=
  { x with
    target := target
    move := x.move.map (fun m =>
      { m with target := target, corrections := 0, tally := 0, noiseReported := false }) }

/-- One axis is taken against its target (R7, R11). The model's choice (log 35): an axis that still runs a park move, which the
checks of R6 let pass, is marked PENDING and starts no move for the placement, now or when the park ends. -/
def State.placeAxis (s : State) (a : AxisId) : State :=
  let x := s.axis a
  let target := s.placement.targets.get a
  if x.runsPlacement ∧ (x.st = .moving ∨ x.st = .settling) then (s.setAxis a (x.retarget target)).setProgress a false
  else if x.st = .idle then
    if (target - x.counter.toInt).natAbs ≤ x.cfg.bands.2.2 then s.setProgress a true
    else (s.setProgress a false).startMove a .placement none target .far
  else s.setProgress a false

/-- The record takes a split, and the reference becomes a slot (R7, R11, R15). -/
def State.takeSplit (s : State) (o : Orientation) (p : Split) (k : SlotId) : State :=
  State.setHolder
    { s with
      placement :=
        { s.placement with
          status := .moving
          optical := { h := p.h.optical, v := p.v.optical }
          targets := { h := p.h.target, v := p.v.target }
          remX := p.remX o
          remY := p.remY o
          needed := 0
          firstFailure := none
          noisy := false
          ref := some k } }
    k .placement

/-- The two-word body of R10. -/
def State.positions (s : State) : List Word := [s.axes.h.counter, s.axes.v.counter]

/-- A PLACE that passed all checks of R6 is taken: the earlier PLACE, if any, ends SUPERSEDED (R11), and the axes are taken H
first (R7). -/
def State.startPlace (s : State) (k : SlotId) (x y : Int) (p : Split) : State :=
  let t := if s.placementRuns then s.completeRef s.placement.ref (endedWith .superseded) s.positions else s
  let t := { t with placement := { t.placement with reqX := x, reqY := y } }
  (((t.takeSplit s.placement.orientation p k).placeAxis .h).placeAxis .v).maybeApply

/-- A posted PLACE that passed its static checks (R6). -/
def State.takePlace (s : State) (k : SlotId) (body : List Word) : State :=
  let x := (bodyWord body 1).toInt
  let y := (bodyWord body 2).toInt
  let o := s.placement.orientation
  match s.placeCheck with
  | some c => s.complete k (refusedWith c) []
  | none =>
    if s.placementRuns && s.refIsOrient then s.complete k (refusedWith .placementBusy) []
    else if s.axesBusy then s.complete k (refusedWith .axisBusy) []
    else
      match s.split o x y with
      | none => s.complete k (refusedWith .outOfRange) []
      | some p =>
        if meshValid (s.splitMesh o p) then s.startPlace k x y p else s.complete k (refusedWith .meshLimit) []

/-! ### ORIENT (R14, R15) -/

/-- A new orientation comes into force (R2); the fans whose governing channel changes form their demand anew (R82, log 25). -/
def State.setOrientation (s : State) (o : Orientation) : State :=
  State.refreshFans { s with placement := { s.placement with orientation := o } }

/-- ORIENT in DETACHED or FAILED (R14). -/
def State.orientOnly (s : State) (k : SlotId) (o : Orientation) : State :=
  let t := s.setOrientation o
  (t.joinWaiting k t.mesh.neededGen).markDirty

/-- ORIENT in SETTLED (R15). -/
def State.orientRerun (s : State) (k : SlotId) (o : Orientation) : State :=
  match s.placeCheck with
  | some c => s.complete k (refusedWith c) []
  | none =>
    if s.axesBusy then s.complete k (refusedWith .axisBusy) []
    else
      match s.split o s.placement.reqX s.placement.reqY with
      | none => s.complete k (refusedWith .outOfRange) []
      | some p =>
        if meshValid (s.splitMesh o p) then
          let t := (s.setOrientation o).takeSplit o p k
          (((t.placeAxis .h).placeAxis .v).markDirty).maybeApply
        else s.complete k (refusedWith .meshLimit) []

/-- A posted ORIENT that passed its static checks (R14). The model's choice (log 42): to the orientation in force it ends
DONE/ALREADY in every status, also while a placement runs. -/
def State.takeOrient (s : State) (k : SlotId) (body : List Word) : State :=
  let o := orientationOfWord (bodyWord body 1)
  if o = s.placement.orientation then s.complete k doneAlready []
  else
    match s.placement.status with
    | .moving => s.complete k (refusedWith .placementBusy) []
    | .applying => s.complete k (refusedWith .placementBusy) []
    | .detached => s.orientOnly k o
    | .failed => s.orientOnly k o
    | .settled => s.orientRerun k o

/-! ### Ends (R9, R10, R12) -/

/-- An axis is still running its placement move (R10). -/
def State.anyPlacementMove (s : State) : Bool := s.axes.h.runsPlacement || s.axes.v.runsPlacement

/-- In FAILED, the reference ends once no axis runs its placement move any more (R10, R12). -/
def State.endFailed (s : State) : State :=
  if s.placement.status = .failed ∧ s.anyPlacementMove = false then
    let t := s.completeRef s.placement.ref (endedWith (s.placement.firstFailure.getD .aborted)) s.positions
    { t with placement := { t.placement with ref := none } }
  else s

/-- The placement unit tells an axis that still runs its placement move to stop (R10, R12). -/
def State.stopPlacementMove (s : State) (a : AxisId) : State :=
  if (s.axis a).runsPlacement then s.stopCause a .stopped else s

/-- The placement fails (R10). -/
def State.failPlacement (s : State) (c : ResCode) : State :=
  let t := { s with placement := { s.placement with status := .failed, firstFailure := some c } }
  (t.stopPlacementMove .h).stopPlacementMove .v

/-- An axis reports the end of its placement move (R8, R10). -/
def State.placementReport (s : State) (a : AxisId) (r : Result) : State :=
  let t :=
    if r.cls = .done then
      let u := s.setProgress a true
      let u :=
        if r.code = .okNoisy then { u with placement := { u.placement with noisy := true } } else u
      u.maybeApply
    else if s.placement.status = .moving then s.failPlacement r.code
    else s
  t.endFailed

/-- The six-word body of R9. -/
def State.placedBody (s : State) : List Word :=
  let p := s.placement
  [signedWord (sign p.orientation * p.optical.h), signedWord (sign p.orientation * p.optical.v), signedWord p.remX,
    signedWord p.remY, s.axes.h.counter, s.axes.v.counter]

/-- A drained generation reaches the placement unit (R9). -/
def State.placementFlip (s : State) (g : Half) : State :=
  let p := s.placement
  if p.status = .applying ∧ reaches g p.needed = true then
    let r : Result := { cls := .done, code := if p.noisy then .okNoisy else .ok }
    let t := s.completeRef p.ref r s.placedBody
    { t with placement := { t.placement with status := .settled, ref := none } }
  else s

/-- The status becomes FAILED and the reference ends at once: an abort in APPLYING (R12), a POWER_DOWN in APPLYING (R10). -/
def State.failApplying (s : State) (c : ResCode) : State :=
  let t := s.completeRef s.placement.ref (endedWith c) s.positions
  { t with placement := { t.placement with status := .failed, ref := none } }

/-- An abort of the reference (R12). -/
def State.placementAbort (s : State) : State :=
  match s.placement.status with
  | .moving => (s.failPlacement .aborted).endFailed
  | .applying => s.failApplying .aborted
  | .failed => s
  | .settled => s
  | .detached => s

/-! ### The flip (R73) -/

/-- The selector of a build has drained: marks, G, last completed build, waiting list, placement unit, MESH, IDLE, R71. -/
def State.flip (s : State) : State :=
  match s.mesh.snapshot with
  | none => s
  | some sn =>
    let m := s.mesh
    let other := otherBank sn.bank
    let wasSelected := decide (m.mark other = .selected)
    let m := m.setMark sn.bank .selected
    let m := if wasSelected then { m.setMark other .retiring with retireTimer := some Config.retirementMs } else m
    let m := { m with gen := sn.gen, last := sn.params, snapshot := none }
    let w := m.waiting
    let m := { m with waiting := w.filter (fun e => !(reaches sn.gen e.needed)) }
    let t := State.endReached { s with mesh := m } sn.gen w
    let t := (t.placementFlip sn.gen).raiseNotice .mesh
    State.meshRun { t with mesh := { t.mesh with st := .idle, progress := Initial.progress, requeueSelector := false } }

end Sys2Proof.Machine
end

