-- ==== Sys2Proof/Machine/Moves.lean ====
section
/-! DEFINITION. Moves of the axes (03): handing over results, presenting requests and parks, the motion period, stall, settle,
stopping, interlock; and the requests AXIS_*, POWER_DOWN. -/

namespace Sys2Proof.Machine

/-! ### Handing a result over (R38, R28, R59) -/

/-- The five-word body of R59. -/
def moveBody (x : Axis) (m : Move) : List Word :=
  [x.counter, signedWord m.target, natWord m.corrections, natWord m.limited, natWord (min Config.countCap m.tally)]

/-- The body of R28: the travel at failure for HOME_FAIL only. -/
def homeBody (x : Axis) (m : Move) (r : Result) : List Word :=
  [x.counter, natWord (min Config.countCap m.tally)] ++ (if r.code = .homeFail then [signedWord m.failTravel] else [])

/-- The result of a move goes to its owner (R38). -/
def State.handOver (s : State) (a : AxisId) (m : Move) (r : Result) : State :=
  match m.kind with
  | .directMove => s.completeRef m.owner r (moveBody (s.axis a) m)
  | .home => s.completeRef m.owner r (homeBody (s.axis a) m r)
  | .placement => s.placementReport a r
  | .park => s.parkReport a r

/-- The axis at rest in a state, holding no move. -/
def Axis.atRest (x : Axis) (st : AxisState) : Axis :=
  { x with st := st, move := none, searchTimer := none, drive := x.drive.off }

/-- The axis leaves its move for IDLE or FAULT: it leaves the budget order and hands the result over (R38, R120). -/
def State.leaveMove (s : State) (a : AxisId) (st : AxisState) (r : Result) : State :=
  let x := s.axis a
  let t := (s.setAxis a (x.atRest st)).leaveOrder a
  match x.move with
  | none => t
  | some m => t.handOver a m r

/-! ### Starting direct requests (R41 to R43) -/

/-- The one-word body of R59: the position. -/
def State.positionBody (s : State) (a : AxisId) : List Word := [(s.axis a).counter]

/-- The target of a direct move at this moment; a home has none. The sum of a move-by is formed without wrapping (R42). -/
def State.directTarget (s : State) (a : AxisId) : DirectReq → Option Int
  | .home => none
  | .moveTo t _ => some t
  | .moveBy d _ => some (s.position a + d)

/-- The checks of R42. -/
def State.startCheck (s : State) (a : AxisId) (r : DirectReq) : Option ResCode :=
  let x := s.axis a
  if s.power.mode ≠ .run then some .powerState
  else if s.autonomous then some .hostLost
  else if s.pins.interlock then some .interlocked
  else if s.thermal.overall = .critical then some .thermalBlock
  else if x.st = .fault then some .axisFaulted
  else
    match s.directTarget a r with
    | none => none
    | some t =>
      if x.homed = false then some .notHomed
      else if inRange x.cfg.limits.1 x.cfg.limits.2 t then none
      else some .outOfRange

/-- A direct move starts (R43). -/
def State.startDirectMove (s : State) (a : AxisId) (k : SlotId) (target : Int) (limit : Class) : State :=
  ((s.setHolder k (.axisRunning a)).startMove a .directMove (some k) target limit).detach

/-- A direct request that passed R42 starts. -/
def State.startDirect (s : State) (a : AxisId) (k : SlotId) (r : DirectReq) : State :=
  match r with
  | .home => (s.setHolder k (.axisRunning a)).startHome a k
  | .moveTo t l => s.startDirectMove a k t l
  | .moveBy d l => s.startDirectMove a k (s.position a + d) l

/-- A direct request is presented for start (R42). -/
def State.present (s : State) (a : AxisId) (k : SlotId) (r : DirectReq) : State :=
  match s.startCheck a r with
  | some c => s.complete k (refusedWith c) (s.positionBody a)
  | none => s.startDirect a k r

/-- The head is presented, and the next while heads are refused (R41). The list is the axis queue. -/
def State.presentQueue (s : State) (a : AxisId) : List Queued → State
  | [] => s
  | q :: rest =>
    let t := s.setAxis a { s.axis a with queue := rest }
    match t.startCheck a q.req with
    | some c => State.presentQueue (t.complete q.slot (refusedWith c) (t.positionBody a)) a rest
    | none => t.startDirect a q.slot q.req

/-! ### Parks (R44) -/

/-- The checks of a pending park (R44). -/
def State.parkCheck (s : State) (a : AxisId) : Option ResCode :=
  if s.autonomous then some .hostLost
  else if s.pins.interlock then some .interlocked
  else if s.thermal.overall = .critical then some .thermalBlock
  else if (s.axis a).st = .fault then some .axisFaulted
  else if (s.axis a).homed = false then some .notHomed
  else none

/-- The axis acts on its pending park. -/
def State.presentPark (s : State) (a : AxisId) : State :=
  let t := s.setAxis a { s.axis a with pendingPark := false }
  match s.parkCheck a with
  | some c => t.parkReport a (refusedWith c)
  | none => t.startMove a .park none (t.axis a).cfg.park .near

/-- The sequencer asks an axis for a park (R130). -/
def State.askPark (s : State) (a : AxisId) : State :=
  let t := s.setAxis a { s.axis a with pendingPark := true }
  if (s.axis a).st = .idle ∨ (s.axis a).st = .fault then t.presentPark a else t

/-! ### Entering IDLE (R52, R50, R41) -/

/-- Every AXIS_STOP waiting on the axis ends DONE/OK, in the order taken. -/
def State.endStops (s : State) (a : AxisId) : State :=
  (s.axis a).stopWait.foldl (fun t k => t.complete k doneOk (t.positionBody a))
    (s.setAxis a { s.axis a with stopWait := [] })

/-- A pending park, then the queue, is presented (R41). -/
def State.presentIdle (s : State) (a : AxisId) : State :=
  let t := if (s.axis a).pendingPark then s.presentPark a else s
  if (t.axis a).st = .idle then t.presentQueue a (t.axis a).queue else t

/-- The axis leaves its move for IDLE (R50, R52). -/
def State.enterIdle (s : State) (a : AxisId) (r : Result) : State :=
  ((s.leaveMove a .idle r).endStops a).presentIdle a

/-- Every request on the queue ends ENDED/ABORTED, head first (R49, R54, R57). -/
def State.abortQueue (s : State) (a : AxisId) : State :=
  (s.axis a).queue.foldl (fun t q => t.complete q.slot (endedWith .aborted) (t.positionBody a))
    (s.setAxis a { s.axis a with queue := [] })

/-! ### Stall (R49) -/

def State.stallEnd (s : State) (a : AxisId) : State :=
  let t := s.setAxis a { s.axis a with faultCode := .stall }
  let t := t.leaveMove a .fault (endedWith .stall)
  let t := t.raiseEvent .stall (axisNumber a) (t.axis a).counter (natWord (t.axis a).lastDuty)
  (t.raiseNotice (axisSource a)).abortQueue a

/-! ### The motion period (R45 to R52) -/

/-- The band class of a distance (R45). -/
def bandClass (bands : Nat × Nat × Nat) (d : Int) : Class :=
  if bands.1 < d.natAbs then .far else if bands.2.1 < d.natAbs then .near else .creep

/-- The thermal cap (R46). No move runs while the level is CRITICAL; for that level, which the rule leaves out, the model's cap
is NEAR (log 34). -/
def State.thermalCap (s : State) (kind : MoveKind) : Class :=
  if s.thermal.overall = .hot ∨ s.thermal.overall = .critical then .near
  else if kind = .park ∧ s.power.mode = .cooldown then .near
  else .far

/-- V runs on its lift set against gravity (R47, R26). -/
def liftSet (a : AxisId) (o : Orientation) (positive : Bool) : Bool :=
  match a, o with
  | .h, _ => false
  | .v, .floor => positive
  | .v, .ceiling => !positive

/-- A hold period (R48). -/
def State.holdPeriod (s : State) (a : AxisId) (m : Move) : State :=
  let x := s.axis a
  let t :=
    s.setAxis a
      { x with
        drive := x.drive.off
        move := some { m with holdTime := m.holdTime + 1, limited := satSucc m.limited } }
  if Config.holdLimitMs ≤ m.holdTime + 1 then t.enterStopping a (endedWith .budgetTimeout) else t

/-- The stall count after a period driven at a duty (R49). -/
def stallCountAfter (x : Axis) (m : Move) (duty : Nat) : Nat :=
  if duty = 0 then m.stallCount else if x.counter = x.prevCount then m.stallCount + 1 else 0

/-- A driven period at a budget class (R47, R49). -/
def State.drivenPeriod (s : State) (a : AxisId) (m : Move) (desire grant : Class) (positive : Bool) : State :=
  let x := s.axis a
  let y := x.driveAt positive (liftSet a s.placement.orientation positive) grant
  let n := stallCountAfter x m y.drive.duty
  let t :=
    s.setAxis a
      { y with
        move := some
          { m with
            holdTime := 0
            limited := if grant.rank < desire.rank then satSucc m.limited else m.limited
            stallCount := n } }
  if Config.stallPeriods ≤ n then t.stallEnd a else t

/-- The axis hands its desire over and drives or holds by the allotment (R46). -/
def State.drivePeriod (s : State) (a : AxisId) (m : Move) (desire : Class) (positive : Bool) : State :=
  let t := s.setDesire a desire
  let grant := t.budget.allot.get a
  if grant = .zero then t.holdPeriod a m else t.drivenPeriod a m desire grant positive

/-- A period in MOVING (R45, R46). -/
def State.movingPeriod (s : State) (a : AxisId) (m : Move) : State :=
  let x := s.axis a
  let d := m.target - x.counter.toInt
  if d.natAbs ≤ x.cfg.bands.2.2 then
    (s.setAxis a
      { x with st := .settling, drive := x.drive.off, move := some { m with settleCount := 0 } }).setDesire a .zero
  else
    s.drivePeriod a m (((bandClass x.cfg.bands d).slower m.limit).slower (s.thermalCap m.kind)) (decide (0 < d))

/-- The judgement at the 20th settle period (R50). The model's choice (log 27): a correction carries on the hold time that the
move brought into the settle, since only a period with a budget class above zero sets it back (R48). -/
def State.settleJudge (s : State) (a : AxisId) (m : Move) : State :=
  let x := s.axis a
  let d := m.target - x.counter.toInt
  if d.natAbs ≤ x.cfg.bands.2.2 then
    s.enterIdle a { cls := .done, code := if Config.noisyTally ≤ m.tally then .okNoisy else .ok }
  else if m.corrections < Config.maxCorrections then
    s.setAxis a
      { x with st := .moving, move := some { m with corrections := m.corrections + 1, stallCount := 0, settleCount := 0 } }
  else s.enterIdle a (endedWith .settleFail)

/-- A period in SETTLING (R50). -/
def State.settlingPeriod (s : State) (a : AxisId) (m : Move) : State :=
  let n := m.settleCount + 1
  if n < Config.settlePeriods then s.setAxis a { s.axis a with move := some { m with settleCount := n } }
  else s.settleJudge a m

/-- A period in STOPPING (R52). -/
def State.stoppingPeriod (s : State) (a : AxisId) (m : Move) : State :=
  let x := s.axis a
  let quiet := if x.counter = x.prevCount then m.quiet + 1 else 0
  let stops := m.stops + 1
  let r := m.result.getD doneOk
  if Config.quietPeriods ≤ quiet then s.enterIdle a r
  else if Config.stopPeriods ≤ stops then (s.raiseEvent .stopSlow (axisNumber a) x.counter 0).enterIdle a r
  else s.setAxis a { x with move := some { m with quiet := quiet, stops := stops } }

/-- What a period does in the state the axis is in. -/
def State.periodWork (s : State) (a : AxisId) : State :=
  match (s.axis a).move with
  | none => s
  | some m =>
    match (s.axis a).st with
    | .homing => s.drivePeriod a m .creep (s.axis a).cfg.encoder.homePositive
    | .moving => s.movingPeriod a m
    | .settling => s.settlingPeriod a m
    | .stopping => s.stoppingPeriod a m
    | .idle => s
    | .fault => s

/-- One motion period of an axis: the work, then the counter is kept for the next comparison (R49, R52, log 13). While RESET is
asserted no period runs (R60). -/
def State.motionPeriod (s : State) (a : AxisId) : State :=
  if s.hold ≠ .running then s
  else
    let t := s.passMs (s.axis a).periodTimer
    let t := t.periodWork a
    t.setAxis a { t.axis a with prevCount := (t.axis a).counter, periodTimer := 1 }

/-- The coming period ends a settle (R50). -/
def State.settleEnds (s : State) (a : AxisId) : Bool :=
  match (s.axis a).move with
  | none => false
  | some m => decide ((s.axis a).st = .settling) && decide (Config.settlePeriods ≤ m.settleCount + 1)

/-- The coming period is the tenth quiet one in STOPPING (R52). -/
def State.quietEnds (s : State) (a : AxisId) : Bool :=
  match (s.axis a).move with
  | none => false
  | some m =>
    decide ((s.axis a).st = .stopping) && decide ((s.axis a).counter = (s.axis a).prevCount)
      && decide (Config.quietPeriods ≤ m.quiet + 1)

/-- The coming period is the 500th in STOPPING, and not quiet (R52). -/
def State.stopsEnd (s : State) (a : AxisId) : Bool :=
  match (s.axis a).move with
  | none => false
  | some m =>
    decide ((s.axis a).st = .stopping) && !s.quietEnds a && decide (Config.stopPeriods ≤ m.stops + 1)

/-- The coming period stalls the axis (R49): it is driving now and in FAULT after the period. -/
def State.stallEnds (s : State) (a : AxisId) : Bool :=
  (s.axis a).st.driving && decide (((s.motionPeriod a).axis a).st = .fault)

/-- The coming period ends a budget hold (R48): the axis is driving now and in STOPPING after the period. -/
def State.holdEnds (s : State) (a : AxisId) : Bool :=
  (s.axis a).st.driving && decide (((s.motionPeriod a).axis a).st = .stopping)

/-- The search timer expires while the axis is in HOMING (R27). -/
def State.searchExpiry (s : State) (a : AxisId) : State :=
  match (s.axis a).searchTimer with
  | none => s
  | some left => if (s.axis a).st = .homing then (s.passMs left).homeFail a else s

/-! ### INTERLOCK (R56) -/

/-- Axes that an INTERLOCK edge stops. -/
def State.activeCount (s : State) : Nat := boolNat s.axes.h.st.active + boolNat s.axes.v.st.active

/-- An edge of INTERLOCK (R56). While RESET is asserted no axis takes it (R60). -/
def State.interlockEdge (s : State) (asserted : Bool) : State :=
  if s.pins.interlock = asserted then s
  else
    let t := { s with pins := { s.pins with interlock := asserted } }
    if s.hold ≠ .running then t
    else if asserted then (t.stopBoth .interlocked).raiseEvent .interlockOn 0 (natWord s.activeCount) 0
    else t.raiseEvent .interlockOff 0 0 0

/-! ### Requests -/

/-- A routed direct request (R40). -/
def State.takeDirect (s : State) (k : SlotId) (a : AxisId) (r : DirectReq) : State :=
  if s.placementHeld then s.complete k (refusedWith .placementBusy) (s.positionBody a)
  else if (s.axis a).st = .idle ∨ (s.axis a).st = .fault then s.present a k r
  else
    (s.setAxis a { s.axis a with queue := (s.axis a).queue ++ [{ slot := k, req := r }] }).setHolder k (.axisQueue a)

/-- A posted AXIS_HOME that passed its checks. -/
def State.takeHome (s : State) (k : SlotId) (body : List Word) : State := s.takeDirect k (axisOfWord (bodyWord body 1)) .home

/-- A posted AXIS_MOVE_TO that passed its checks. -/
def State.takeMoveTo (s : State) (k : SlotId) (body : List Word) : State :=
  s.takeDirect k (axisOfWord (bodyWord body 1)) (.moveTo (bodyWord body 2).toInt (classOfWord (bodyWord body 3)))

/-- A posted AXIS_MOVE_BY that passed its checks. -/
def State.takeMoveBy (s : State) (k : SlotId) (body : List Word) : State :=
  s.takeDirect k (axisOfWord (bodyWord body 1)) (.moveBy (bodyWord body 2).toInt (classOfWord (bodyWord body 3)))

/-- The pending park is discarded with STOPPED (R54). -/
def State.dropPark (s : State) (a : AxisId) : State :=
  if (s.axis a).pendingPark then
    (s.setAxis a { s.axis a with pendingPark := false }).parkReport a (endedWith .stopped)
  else s

/-- A posted AXIS_STOP that passed its checks (R54). -/
def State.takeStop (s : State) (k : SlotId) (body : List Word) : State :=
  let a := axisOfWord (bodyWord body 1)
  let t := ((s.abortQueue a).dropPark a).stopCause a .stopped
  if (s.axis a).st = .idle ∨ (s.axis a).st = .fault then t.complete k doneOk (t.positionBody a)
  else (t.setAxis a { t.axis a with stopWait := (t.axis a).stopWait ++ [k] }).setHolder k (.stopWait a)

/-- The axis state word (12.8). -/
def State.axisStateWord (s : State) (a : AxisId) : Word :=
  let x := s.axis a
  natWord
    (x.st.number + 8 * boolNat (s.holding a) + 16 * boolNat x.homed + 256 * (x.queue.length % 16)
      + 65536 * x.faultCode.number)

/-- The seven words of AXIS_REPORT (R35). -/
def State.reportBody (s : State) (a : AxisId) : List Word :=
  let x := s.axis a
  [s.axisStateWord a, natWord (boolNat x.homed), x.counter, signedWord x.target, natWord x.rejected, natWord x.phaseErrors,
    natWord x.faultCode.number]

/-- A posted AXIS_REPORT that passed its checks (R35). -/
def State.takeReport (s : State) (k : SlotId) (body : List Word) : State :=
  let a := axisOfWord (bodyWord body 1)
  let t := s.complete k doneOk (s.reportBody a)
  if bodyWord body 2 = 0 then t
  else
    let t := t.setAxis a { t.axis a with rejected := 0, phaseErrors := 0 }
    if (t.axis a).st = .fault then (t.setAxis a { t.axis a with st := .idle, faultCode := .none }).presentIdle a else t

/-- The axis can take an AXIS_SETUP (R32). -/
def State.setupTakes (s : State) (a : AxisId) : Bool :=
  (decide ((s.axis a).st = .idle) || decide ((s.axis a).st = .fault)) && (s.axis a).queue.isEmpty && !s.placementHeld

/-- The effects of a changed configuration (R33). -/
def State.applySetup (s : State) (a : AxisId) (c : AxisCfg) : State :=
  let x := s.axis a
  let old := x.cfg
  let unhomes := decide (old.encoder ≠ c.encoder) || decide (old.homeValue ≠ c.homeValue)
  let detaches := unhomes || decide (old.limits ≠ c.limits) || decide (old.gainCenter ≠ c.gainCenter)
  let t := s.setAxis a { x with cfg := c, homed := x.homed && !unhomes }
  if detaches then t.detach else t

/-- A posted AXIS_SETUP that passed its checks (R32, R33). -/
def State.takeSetup (s : State) (k : SlotId) (body : List Word) : State :=
  let a := axisOfWord (bodyWord body 1)
  if s.setupTakes a = false then s.complete k (refusedWith .axisBusy) []
  else
    let old := (s.axis a).cfg
    let c := setupCandidate old body
    if c.valid = false then s.complete k (refusedWith .badValue) []
    else (s.applySetup a c).complete k doneOk [natWord (bitsNat (old.changes c))]

/-- The axis takes the POWER_DOWN (R57). -/
def State.axisPowerDown (s : State) (a : AxisId) : State := (s.abortQueue a).stopCause a .powerState

/-- A POWER_DOWN taken in RUN (R129). The model's choice (log 28): the queue of H ends before that of V, and both before the
request of a placement in APPLYING, where the manual gives no order. -/
def State.beginCooldown (s : State) (k : SlotId) (park : Bool) : State :=
  let p : Park := if park then .waiting else .notAsked
  let t :=
    State.setHolder
      { s with
        power :=
          { mode := .cooldown, kind := .shutdown, elapsed := 0, minMet := false, park := { h := p, v := p }, ref := some k } }
      k .power
  let t := (t.axisPowerDown .h).axisPowerDown .v
  let t := if t.placement.status = .applying then t.failApplying .powerState else t
  let t := t.refreshFans
  if park then (t.askPark .h).askPark .v else t

/-- A posted POWER_DOWN that passed its checks (R128). -/
def State.takePowerDown (s : State) (k : SlotId) (body : List Word) : State :=
  match s.power.mode with
  | .run => s.beginCooldown k (decide (bodyWord body 1 ≠ 0))
  | .cooldown => s.complete k (refusedWith .powerState) [0, 0, 0]
  | .standby => s.complete k doneAlready [0, 0, 0]

/-! ### Aborts (R54, R55) -/

/-- An abort of a request on the axis queue (R55). -/
def State.abortQueued (s : State) (k : SlotId) (a : AxisId) : State :=
  let t := s.setAxis a { s.axis a with queue := (s.axis a).queue.filter (fun q => decide (q.slot ≠ k)) }
  t.complete k (endedWith .aborted) (t.positionBody a)

/-- An abort of a waiting AXIS_STOP (R54). -/
def State.abortStop (s : State) (k : SlotId) (a : AxisId) : State :=
  let t := s.setAxis a { s.axis a with stopWait := (s.axis a).stopWait.filter (fun q => decide (q ≠ k)) }
  t.complete k (endedWith .aborted) (t.positionBody a)

end Sys2Proof.Machine
end

