-- ==== Sys2Proof/Machine/Notices.lean ====
section
/-! DEFINITION. The notice controller's acknowledge, end of service and NOTICE_SETUP (R171 to R173), and the event writer's
consumer index (R177). -/

namespace Sys2Proof.Machine

/-- A vector code: base plus priority, or base plus 15 for none (R171). -/
def Notice.code (n : Notice) (x : Option NoticeSource) : Word :=
  match x with
  | some y => natWord (n.base + y.prio)
  | none => natWord (n.base + 15)

/-- The source selected by an acknowledge is cleared and pushed (R171). -/
def Notice.push (n : Notice) (x : NoticeSource) : Notice := { n with pend := n.pend &&& ~~~ x.bit, stack := x :: n.stack }

/-- An acknowledge: what the read returns, and the controller after it (R171). -/
def Notice.acknowledge (n : Notice) : Word × Notice :=
  match n.best with
  | some x => (n.code (some x), n.push x)
  | none => (n.code none, n)

/-- An end of service (R172). -/
def State.endService (s : State) (data : Word) (be : BitVec 4) : State :=
  match s.notice.stack with
  | [] => s.raiseEvent .eosEmpty 0 data (be.setWidth 32)
  | _ :: rest => { s with notice := { s.notice with stack := rest } }

/-- A posted NOTICE_SETUP that passed its checks (R173). -/
def State.takeNoticeSetup (s : State) (k : SlotId) (body : List Word) : State :=
  State.complete
    { s with notice := { s.notice with enable := (bodyWord body 1).setWidth 8, base := (bodyWord body 2).toNat } } k doneOk
    [s.notice.pend.setWidth 32]

/-- The candidate C of a write to 0x101 (R144): enabled bytes of the low half from the write, the others from the accepted C. -/
def EventWriter.candidate (e : EventWriter) (data : Word) (be : BitVec 4) : Half :=
  (mergeWord (e.c.setWidth 32) data be).setWidth 16

/-- A write to the consumer index is classified (R177). -/
def State.consumerWrite (s : State) (data : Word) (be : BitVec 4) : State :=
  let e := s.events
  let cand := e.candidate data be
  if (cand - e.c).toNat ≤ (e.q - e.c).toNat then { s with events := { e with c := cand } }
  else s.raiseCode consumerBadCode (cand.setWidth 32) (e.c.setWidth 32)

end Sys2Proof.Machine
end

