-- ==== Sys2Proof/Machine/Slots.lean ====
section
/-! DEFINITION. The slot unit (10): posts, routing, aborts, and the classification and merge of host writes to slots. -/

namespace Sys2Proof.Machine

/-! ### Posts (R160, R161) -/

/-- A checked request is handed to its owning unit (R161). -/
def State.route (s : State) (k : SlotId) (kind : Kind) (body : List Word) : State :=
  match kind with
  | .nop => s.complete k doneOk []
  | .axisHome => s.takeHome k body
  | .axisMoveTo => s.takeMoveTo k body
  | .axisMoveBy => s.takeMoveBy k body
  | .axisStop => s.takeStop k body
  | .axisReport => s.takeReport k body
  | .axisSetup => s.takeSetup k body
  | .place => s.takePlace k body
  | .keystone => s.takeKeystone k body
  | .corners => s.takeCorners k body
  | .orient => s.takeOrient k body
  | .fanCurve => s.takeFanCurve k body
  | .thresholds => s.takeThresholds k body
  | .fanFloor => s.takeFanFloor k body
  | .fanReport => s.takeFanReport k body
  | .thermalResume => s.takeThermalResume k
  | .powerDown => s.takePowerDown k body
  | .powerUp => s.takePowerUp k
  | .noticeSetup => s.takeNoticeSetup k body

/-- A post of a known kind: length, abort flag, static values, route (R160). -/
def State.checkAndRoute (s : State) (k : SlotId) (kind : Kind) (header : Word) : State :=
  let body := s.body k (headerLen header)
  match postCheck kind (headerAbort header) body with
  | some c => s.complete k (refusedWith c) []
  | none => s.route k kind body

/-- A post is taken (R160). -/
def State.takePost (s : State) (k : SlotId) : State :=
  let header := s.shadowWord k 0
  let t := s.setView k (.part (headerKind header) (headerTag header) false .completing)
  match kindOfCode (headerKind header) with
  | none => t.complete k (refusedWith .badKind) []
  | some kind => t.checkAndRoute k kind header

/-! ### Aborts (R163, R164) -/

/-- The holder of a request acts on its abort (R164). -/
def State.abortHolder (s : State) (k : SlotId) (h : Holder) : State :=
  match h with
  | .axisQueue a => s.abortQueued k a
  | .axisRunning a => s.stopCause a .aborted
  | .stopWait a => s.abortStop k a
  | .placement => s.placementAbort
  | .meshWait => s.abortWaiting k
  | .power => s
  | .completing => s

/-- An abort is taken (R163). -/
def State.takeAbort (s : State) (k : SlotId) : State :=
  match s.view k with
  | .host => s
  | .part kind tag taken h => if taken then s else (s.setView k (.part kind tag true h)).abortHolder k h

/-! ### Host writes to slots (R158, R159) -/

/-- The merged word of a host write to a slot word (R158). -/
def State.mergedWord (s : State) (offset : Nat) (data : Word) (be : BitVec 4) : Word :=
  mergeWord (s.shadowWord (slotOfOffset offset) (wordOfOffset offset)) data be

/-- The classification of R158; none is refused. -/
def State.slotClass (s : State) (offset : Nat) (data : Word) (be : BitVec 4) : Option SlotAct :=
  let header := decide (offset % 16 = 0)
  let w := s.mergedWord offset data be
  match s.view (slotOfOffset offset) with
  | .host => if header && headerOwner w then some .post else some .plain
  | .part kind tag _ _ =>
    if header && headerOwner w && headerAbort w && (headerTag w == tag) && (kind != Kind.powerDown.number) then some .abort
    else none

/-- The memory cycle of a forwarded slot write has ended (R159). -/
def State.slotWriteEnd (s : State) (offset : Nat) (data : Word) (be : BitVec 4) (act : SlotAct) (superseded : Bool) : State :=
  let k := slotOfOffset offset
  let t := if superseded then s else s.setShadow k (wordOfOffset offset) (s.mergedWord offset data be)
  match act with
  | .plain => t
  | .post => t.takePost k
  | .abort => t.takeAbort k

end Sys2Proof.Machine
end

