-- ==== Sys2Proof/Machine/LiveWindow.lean ====
section
/-! DEFINITION. The words of the live window (12.8) as the owning blocks' state gives them, and the pair latches (R147). -/

namespace Sys2Proof.Machine

/-- A slot reference (12.8): bit 3 set when present, slot number in bits 2:0. The model's choice (log 41): the slot number of an
absent reference reads 0. -/
def refNat (r : Option SlotId) : Nat :=
  match r with
  | some k => 8 + k.val
  | none => 0

/-- The priorities of the stack, bottom first, three bits each (12.8). The model's choice (log 41): the positions at and above
the depth read 0. -/
def stackNat : List NoticeSource → Nat
  | [] => 0
  | x :: rest => x.prio + 8 * stackNat rest

/-- Offsets 0x200 to 0x203. -/
def State.noticeWords (s : State) : List Word :=
  let n := s.notice
  [n.code n.best, n.code n.stack.head?,
    natWord
      (n.enable.toNat + 256 * n.pend.toNat + 65536 * (n.base / 16) + 1048576 * n.stack.length + 16777216 * boolNat n.line),
    natWord (stackNat n.stack.reverse)]

/-- Offset 0x204 (R115). The model's choice (log 44): channel k shows its fault in bit 4 + k, fan f its failed report in bit 8 + f.
-/
def State.thermalWord (s : State) : Word :=
  let c := s.thermal.channels
  let failed (f : Fan) : Bool := decide (f.st = .failed)
  natWord
    (s.thermal.overall.rank + 4 * s.highestLevel.rank
      + 16 * bitsNat [c.source.fault, c.panel.fault, c.board.fault, c.inlet.fault, failed s.fans.intake,
          failed s.fans.exhaust, failed s.fans.source, s.thermal.cutLatch, s.dim, s.cut]
      + 16384 * s.thermal.hb.number + 65536 * orientationNumber s.placement.orientation)

/-- Offset 0x205 (R124). -/
def State.budgetWord (s : State) : Word :=
  let b := s.budget
  let head : Nat :=
    match b.order with
    | [] => 0
    | .h :: _ => 1
    | .v :: _ => 2
  natWord
    (b.capacity + 128 * boolNat s.pins.supplyLow + 256 * s.totalDraw + 65536 * b.desire.h.rank + 262144 * b.allot.h.rank
      + 1048576 * b.desire.v.rank + 4194304 * b.allot.v.rank + 16777216 * head)

/-- A park progress in the power word (12.8). -/
def parkCode : Park → Nat
  | .notAsked => 0xFE
  | .waiting => 0xFD
  | .result r => r.code.number

def CoolKind.number : CoolKind → Nat
  | .shutdown => 0
  | .recool => 1

/-- Offset 0x206 (R138). The model's choice (log 46): outside COOLDOWN minimum met reads as the last cool-down left it. -/
def State.powerWord (s : State) : Word :=
  let p := s.power
  natWord
    (p.mode.number + 4 * p.kind.number + 8 * boolNat p.minMet + 16 * boolNat s.release + 256 * refNat p.ref
      + 65536 * parkCode p.park.h + 16777216 * parkCode p.park.v)

/-- Offset 0x20C (R70). -/
def State.meshStateWord (s : State) : Word :=
  let m := s.mesh
  natWord
    (m.st.number + 4 * m.markA.number + 16 * m.markB.number + 64 * boolNat m.dirty + 128 * boolNat m.missingRun
      + 256 * m.waiting.length + 4096 * orientationNumber m.last.orientation)

/-- Offsets 0x20D to 0x211. -/
def State.lastBuildWords (s : State) : List Word :=
  let p := s.mesh.last
  [dispWord p.corners.tl, dispWord p.corners.tr, dispWord p.corners.bl, dispWord p.corners.br, dispWord p.translation]

/-- Offset 0x212 (R1). -/
def State.placementWord (s : State) : Word :=
  let p := s.placement
  natWord
    (p.status.number + 8 * orientationNumber p.orientation + 16 * refNat p.ref + 256 * boolNat p.settled.h
      + 512 * boolNat p.settled.v)

/-- The five words of an axis (R37). -/
def State.axisWords (s : State) (a : AxisId) : List Word :=
  let x := s.axis a
  [x.counter, x.posTime, s.axisStateWord a, natWord (x.rejected + 65536 * x.phaseErrors), signedWord x.target]

/-- The four words of a fan (R95). -/
def fanWords (f : Fan) : List Word :=
  [natWord f.rpm, f.capTime, natWord (f.commanded + 256 * f.drive + 65536 * f.demand + 16777216 * f.st.number),
    natWord (f.retries + 256 * f.floor)]

/-- A channel word (R115). -/
def channelWord (c : Channel) : Word :=
  0#4 ++ BitVec.ofBool c.latestValid ++ BitVec.ofBool c.fault ++ BitVec.ofNat 2 c.level.rank ++ BitVec.ofInt 12 c.latest
    ++ BitVec.ofInt 12 c.reading

/-- The assigned words of the live window, from offset 0x200 on. The model's choice (log 41): a bit that the layouts of 12.8
do not name reads 0. -/
def State.liveWords (s : State) : List Word :=
  s.noticeWords
    ++ [s.thermalWord, s.budgetWord, s.powerWord, natWord s.power.elapsed, s.clock.uptime, natWord s.path.refusals,
      natWord s.path.lastRefused, s.mesh.gen.setWidth 32, s.meshStateWord]
    ++ s.lastBuildWords
    ++ [s.placementWord, packHalves s.placement.reqX s.placement.reqY, packHalves s.placement.remX s.placement.remY,
      packHalves s.mesh.applied.dx s.mesh.applied.dy]
    ++ s.axisWords .h ++ s.axisWords .v
    ++ fanWords s.fans.intake ++ fanWords s.fans.exhaust ++ fanWords s.fans.source
    ++ [channelWord s.thermal.channels.source, channelWord s.thermal.channels.panel, channelWord s.thermal.channels.board,
      channelWord s.thermal.channels.inlet]

/-- The live value of an offset; an unassigned one reads 0 (R146). -/
def State.liveValue (s : State) (offset : Nat) : Word := s.liveWords.getD (offset - 0x200) 0

def isLive (offset : Nat) : Bool := decide (0x200 ≤ offset) && decide (offset ≤ 0x2FF)

/-- The low word of a pair; the high word is the next offset (12.8). -/
def pairLowOffset : PairId → Nat
  | .positionH => 0x216
  | .positionV => 0x21B
  | .intake => 0x220
  | .exhaust => 0x224
  | .source => 0x228

def allPairs : List PairId := [.positionH, .positionV, .intake, .exhaust, .source]

/-- A read of a pair's low word: the live value, and the hold loaded with the live high word (R147). -/
def State.pairLow (s : State) (k : PairId) : Word × State :=
  (s.liveValue (pairLowOffset k), { s with path := { s.path with holds := s.path.holds.set k (some (s.liveValue (pairLowOffset k + 1))) } })

/-- A read of a live offset (R146, R147, R171): what it returns and the state after it. -/
def State.liveRead (s : State) (offset : Nat) : Word × State :=
  if offset = 0x200 then
    let r := s.notice.acknowledge
    (r.1, { s with notice := r.2 })
  else
    match allPairs.find? (fun k => pairLowOffset k == offset) with
    | some k => s.pairLow k
    | none =>
      match allPairs.find? (fun k => pairLowOffset k + 1 == offset) with
      | some k => ((s.path.holds.get k).getD (s.liveValue offset), s)
      | none => (s.liveValue offset, s)

end Sys2Proof.Machine
end

