-- ==== Sys2Proof/Machine/MemoryPath.lean ====
section
/-! DEFINITION. The memory path unit (09): claims on the posted write buffer by the three producers, the arbiter, host accesses,
the ends of memory cycles and the reports to the producers. -/

namespace Sys2Proof.Machine

/-! ### Claims (R148, R165, R176, R72) -/

/-- An entry joins the tail of the buffer. -/
def State.queueEntry (s : State) (offset : Nat) (data : Word) (p : Producer) : State :=
  { s with
    path := { s.path with buffer := s.path.buffer ++ [{ offset := offset, data := data, producer := p }] } }

/-- A host write on the port whose word the part writes meanwhile is superseded in the shadow (R159). -/
def State.supersede (s : State) (offset : Nat) : State :=
  match s.path.port with
  | some { kind := .hostWrite addr data be act _, left := left } =>
    if s.offsetOf addr = some offset then
      { s with path := { s.path with port := some { kind := .hostWrite addr data be act true, left := left } } }
    else s
  | _ => s

/-- A part write to a slot word: queued, and written whole into the shadow (R157). -/
def State.queueSlotWord (s : State) (k : SlotId) (w : Nat) (data : Word) (p : Producer) : State :=
  ((s.queueEntry (slotOffset k w) data p).setShadow k (wordOfOffset w) data).supersede (slotOffset k w)

def State.setWriter (s : State) (w : Progress) : State := { s with slots := { s.slots with writer := w } }

/-- The header of a completion is queued; the view becomes HOST and the completion leaves the queue (R165). -/
def State.queueHeader (s : State) (c : Completion) (rest : List Completion) (kind : BitVec 6) (tag : BitVec 8) : State :=
  let t := s.queueSlotWord c.slot 0 (completionHeader kind tag c.body.length c.result) .slotHeader
  let t := t.setView c.slot .host
  { t with slots := { t.slots with queue := rest, writer := Initial.progress } }

/-- The slot unit's next claim, if it has one (R165). -/
def State.slotClaim (s : State) : Option State :=
  match s.slots.queue with
  | [] => none
  | c :: rest =>
    let w := s.slots.writer
    if w.queued < c.body.length then
      some
        ((s.queueSlotWord c.slot (w.queued + 1) (c.body.getD w.queued 0) .slotBody).setWriter
          { w with queued := w.queued + 1, inBuffer := w.inBuffer + 1 })
    else if w.inBuffer = 0 ∧ w.dropped = false then
      match s.view c.slot with
      | .part kind tag _ _ => some (s.queueHeader c rest kind tag)
      | .host => none
    else none

/-- Word i of a record (12.6). -/
def Record.word (r : Record) (i : Nat) : Word :=
  if i = 0 then r.w0 else if i = 1 then r.w1 else if i = 2 then r.w2 else r.w3

/-- The event writer's next claim, if it has one: P = 0 after a reset (R179), else the head record, then its P (R176). -/
def State.eventClaim (s : State) : Option State :=
  let e := s.events
  if e.claimZero then
    some { s.queueEntry 0x100 0 (.eventWriter false) with events := { e with claimZero := false, q := 0 } }
  else
    match e.out with
    | [] => none
    | r :: rest =>
      if e.fed < 4 then
        some
          { s.queueEntry (0x80 + 4 * r.ring + e.fed) (r.word e.fed) (.eventWriter false) with
            events := { e with fed := e.fed + 1 } }
      else
        some
          { s.queueEntry 0x100 (r.pAfter.setWidth 32) (.eventWriter r.mark) with
            events := { e with fed := 0, out := rest, q := r.pAfter } }

/-- The mesh generator's next claim, if it has one: the words of the build, then the selector (R72, R73). -/
def State.meshClaim (s : State) : Option State :=
  match s.mesh.snapshot with
  | none => none
  | some sn =>
    let m := s.mesh
    let selector (s : State) : State := s.queueEntry selectorOffset (selectorWord sn.bank sn.gen) .meshSelector
    match m.st with
    | .building =>
      let w := m.progress
      if w.queued < Config.bankWords then
        some
          { s.queueEntry (sn.bank.offset + w.queued) (bankWord sn w.queued) .meshWord with
            mesh := { m with progress := { w with queued := w.queued + 1, inBuffer := w.inBuffer + 1 } } }
      else if w.inBuffer = 0 ∧ w.dropped = false then
        some { selector s with mesh := { m with st := .flipPending, requeueSelector := false } }
      else none
    | .flipPending =>
      if m.requeueSelector then some { selector s with mesh := { m with requeueSelector := false } } else none
    | .idle => none
    | .waitRetire => none

/-- The claim served next: slot unit, event writer, mesh generator, while the buffer has room (R148). -/
def State.nextClaim (s : State) : Option State :=
  if Config.bufferSize ≤ s.path.buffer.length then none
  else s.slotClaim.orElse (fun _ => s.eventClaim.orElse (fun _ => s.meshClaim))

/-! ### Host accesses (R143 to R146, R151, R152) -/

/-- The youngest buffer entry for an offset (R151). -/
def State.youngest (s : State) (offset : Nat) : Option Word :=
  (s.path.buffer.reverse.find? (fun e => e.offset == offset)).map Entry.data

/-- A read completes toward the master. -/
def State.answerRead (s : State) (w : Word) : State :=
  { s with path := { s.path with host := none, reply := some (.readData w) } }

/-- A write completes toward the master. -/
def State.answerWrite (s : State) : State := { s with path := { s.path with host := none, reply := some .writeDone } }

/-- A refused host write (R145). -/
def State.refuseWrite (s : State) (offset : Nat) (data : Word) (be : BitVec 4) : State :=
  let t := s.answerWrite
  let t := { t with path := { t.path with refusals := satSucc t.path.refusals, lastRefused := offset } }
  t.raiseCode (foreignCode offset) data (be.setWidth 32)

/-- Part-owned offsets outside the slots: ring, P, selector, banks (R142). -/
def partOwned (offset : Nat) : Bool :=
  (decide (0x80 ≤ offset) && decide (offset ≤ 0x100)) || decide (offset = 0x103)
    || (decide (0x400 ≤ offset) && decide (offset ≤ 0x4FF))

/-- How a host write to an offset that is not live is classified at its grant (R142, R158); none is refused. -/
def State.classifyWrite (s : State) (offset : Nat) (data : Word) (be : BitVec 4) : Option SlotAct :=
  if offset < 0x80 then s.slotClass offset data be else if partOwned offset then none else some .plain

/-- Blocks told at classification (R144). -/
def State.tellWrite (s : State) (offset : Nat) (data : Word) (be : BitVec 4) : State :=
  if offset = 0x101 then s.consumerWrite data be else if offset = 0x102 then s.heartbeatWrite else s

/-- A memory cycle begins (R140, R153). -/
def State.beginCycle (s : State) (k : CycleKind) : State :=
  { s with path := { s.path with port := some { kind := k, left := Config.memoryTimeoutUs } } }

/-- The host access is granted (R143, R144). -/
def State.grantHost (s : State) (x : HostAccess) : State :=
  match x with
  | .read addr =>
    match (s.offsetOf addr).bind s.youngest with
    | some w => s.answerRead w
    | none => s.beginCycle (.hostRead addr)
  | .write addr data be =>
    match s.offsetOf addr with
    | none => s.beginCycle (.hostWrite addr data be .plain false)
    | some o =>
      match s.classifyWrite o data be with
      | none => s.refuseWrite o data be
      | some act => (s.beginCycle (.hostWrite addr data be act false)).tellWrite o data be

/-- A waiting host access that is not held (R150, R152). -/
def State.hostClaims (s : State) : Option HostAccess :=
  match s.path.host with
  | none => none
  | some (.read addr) => some (.read addr)
  | some (.write addr data be) =>
    match (s.offsetOf addr).bind s.youngest with
    | some _ => none
    | none => some (.write addr data be)

/-- The arbiter grants one claimant when the port is free (R150). -/
def State.nextGrant (s : State) : Option State :=
  match s.path.port with
  | some _ => none
  | none =>
    if s.path.selPending then
      some (State.beginCycle { s with path := { s.path with selPending := false } } .selector)
    else
      let drain : Option State :=
        if s.path.buffer = [] then none
        else some (State.beginCycle { s with path := { s.path with streak := 0 } } .drain)
      match s.hostClaims with
      | none => drain
      | some x =>
        if s.path.buffer = [] then some (State.grantHost { s with path := { s.path with streak := 0 } } x)
        else if s.path.streak < Config.streakLimit then
          some (State.grantHost { s with path := { s.path with streak := s.path.streak + 1 } } x)
        else drain

/-- One claim or one grant (log 10: claims before grants). While RESET is asserted there is neither. -/
def State.nextAction (s : State) : Option State :=
  if s.hold ≠ .running then none else s.nextClaim.orElse (fun _ => s.nextGrant)

/-- Claims and grants, at most n of them. -/
def State.settleFor (s : State) : Nat → State
  | 0 => s
  | n + 1 =>
    match s.nextAction with
    | none => s
    | some t => State.settleFor t n

/-- Claims and grants until nothing more can be granted (log 10). No more than 16 claims find room and no more than two
grants follow, so 24 actions are enough. -/
def State.settle (s : State) : State := s.settleFor 24

/-! ### Arrival of a host access -/

/-- The host access that the port has taken arrives: a live one is handled at once (R146), a read with a buffer entry is
answered at once (R151), any other waits for the arbiter. While RESET is asserted it waits (R154). The model's choice (log 32):
a read that finds its entry in the buffer is answered at once even while the reset-time selector read is still pending, where
R155 has every access but a live one wait behind that read. -/
def State.arrive (s : State) : State :=
  if s.hold ≠ .running then s
  else
    match s.path.host with
    | none => s
    | some (.read addr) =>
      match s.offsetOf addr with
      | none => s
      | some o =>
        if isLive o then
          let r := s.liveRead o
          r.2.answerRead r.1
        else
          match s.youngest o with
          | some w => s.answerRead w
          | none => s
    | some (.write addr data be) =>
      match s.offsetOf addr with
      | none => s
      | some o =>
        if isLive o then
          if o = 0x201 then (s.endService data be).answerWrite else s.refuseWrite o data be
        else s

/-- A host access at the system bus port (R139). While one is waiting the port takes no other (log 7). -/
def State.hostAccess (s : State) (x : HostAccess) : State :=
  match s.path.host with
  | some _ => s
  | none => (State.arrive { s with path := { s.path with host := some x } }).settle

/-! ### The ends of memory cycles (R149, R153) -/

/-- A slot body entry leaves (R165). -/
def State.bodyReport (s : State) (drained : Bool) : State :=
  let w := s.slots.writer
  let w := { w with inBuffer := w.inBuffer - 1, dropped := w.dropped || !drained }
  match s.slots.queue with
  | [] => s
  | c :: _ =>
    if w.inBuffer = 0 ∧ w.queued = c.body.length ∧ w.dropped = true then s.setWriter Initial.progress else s.setWriter w

/-- A word of the build leaves (R72). -/
def State.meshReport (s : State) (drained : Bool) : State :=
  let w := s.mesh.progress
  let w := { w with inBuffer := w.inBuffer - 1, dropped := w.dropped || !drained }
  let w := if w.inBuffer = 0 ∧ w.queued = Config.bankWords ∧ w.dropped = true then Initial.progress else w
  { s with mesh := { s.mesh with progress := w } }

/-- The producer of an entry that has left the buffer is told (R149). -/
def State.report (s : State) (p : Producer) (drained : Bool) : State :=
  match p with
  | .slotBody => s.bodyReport drained
  | .slotHeader => if drained then s.raiseNotice .completion else s
  | .eventWriter mark => if mark then s.raiseNotice .event else s
  | .meshWord => s.meshReport drained
  | .meshSelector => if drained then s.flip else { s with mesh := { s.mesh with requeueSelector := true } }

/-- The port becomes free. -/
def State.freePort (s : State) : State := { s with path := { s.path with port := none } }

/-- The freed entry goes to one waiting claim (R148). It is chosen before any producer is told that the entry has left, so a
producer that was not waiting takes no part. -/
def State.freedEntry (s : State) : State := s.nextClaim.getD s

/-- The head of the buffer leaves: drained, it has reached memory with all four byte enables; the freed entry goes to a waiting
claim, and the producer of the head is told (R148, R149). -/
def State.leaveHead (s : State) (drained : Bool) : State :=
  match s.path.buffer with
  | [] => s
  | e :: rest =>
    let mem := if drained then Memory.writeWord s.mem (wordBase (s.addrOf e.offset)) e.data 0xF else s.mem
    (State.freedEntry { s with mem := mem, path := { s.path with buffer := rest } }).report e.producer drained

/-- The slot unit acts on a host write whose cycle has ended, when it was to a slot word (R159). -/
def State.endHostWrite (s : State) (addr data : Word) (be : BitVec 4) (act : SlotAct) (superseded : Bool) : State :=
  match s.offsetOf addr with
  | none => s
  | some o => if o < 0x80 then s.slotWriteEnd o data be act superseded else s

/-- What an answered cycle does (R140). -/
def State.answerKind (s : State) (k : CycleKind) : State :=
  match k with
  | .hostRead addr => s.answerRead (Memory.readWord s.mem (wordBase addr))
  | .hostWrite addr data be act superseded =>
    (State.answerWrite { s with mem := Memory.writeWord s.mem (wordBase addr) data be }).endHostWrite addr data be act
      superseded
  | .drain => s.leaveHead true
  | .selector => s.selectorAnswer (some (Memory.readWord s.mem (wordBase (s.addrOf selectorOffset))))
  | .orphan => s

/-- Memory answers the cycle on the port (R140). -/
def State.answerCycle (s : State) : State :=
  match s.path.port with
  | none => s
  | some c => (s.freePort.answerKind c.kind).settle

/-- The MEMORY_TIMEOUT event (R153): value A the cycle kind, value B the byte address. -/
def State.timeoutEvent (s : State) (offset : Option Nat) (kind : Nat) (addr : Word) : State :=
  s.raiseCode (timeoutCode offset) (natWord kind) addr

/-- The offset of the entry that drains. -/
def State.headOffset (s : State) : Nat :=
  match s.path.buffer with
  | [] => 0
  | e :: _ => e.offset

/-- What a timed-out cycle does (R153). -/
def State.timeoutKind (s : State) (k : CycleKind) : State :=
  match k with
  | .hostRead addr => (s.answerRead 0xFFFFFFFF).timeoutEvent (s.offsetOf addr) 0 addr
  | .hostWrite addr data be act superseded =>
    ((s.answerWrite).endHostWrite addr data be act superseded).timeoutEvent (s.offsetOf addr) 1 addr
  | .drain => (s.leaveHead false).timeoutEvent (some s.headOffset) 2 (s.addrOf s.headOffset)
  | .selector => (s.selectorAnswer none).timeoutEvent (some selectorOffset) 3 (s.addrOf selectorOffset)
  | .orphan => s

/-- The 10 microsecond timer of the cycle on the port expires (R153). -/
def State.timeoutCycle (s : State) : State :=
  match s.path.port with
  | none => s
  | some c => (((s.pass c.left).freePort).timeoutKind c.kind).settle

/-! ### Posts and aborts as steps of their own (log 8) -/

/-- The cycle on the port is a header write of a slot that the slot unit took as a post of a kind code, or as an abort. -/
def State.headerOnPort (s : State) (k : SlotId) (kind : BitVec 6) (abort : Bool) : Bool :=
  match s.path.port with
  | some { kind := .hostWrite addr data be act _, left := _ } =>
    decide (s.offsetOf addr = some (slotOffset k 0))
      && (headerKind (s.mergedWord (slotOffset k 0) data be) == kind)
      && (if abort then headerAbort (s.mergedWord (slotOffset k 0) data be) else decide (act = .post))
  | _ => false

/-- The header write that a request row stands for. -/
def State.postAccess (s : State) (kind : BitVec 6) (p : Post) : HostAccess :=
  .write (s.addrOf (slotOffset p.slot 0)) (postHeader kind p) 0xF

/-- A request row (log 8): memory answers the header write that is on the port for it; or the host writes the header, and
memory answers it if the port took it at once. -/
def State.postRow (s : State) (kind : BitVec 6) (p : Post) (abort : Bool) : State :=
  if s.headerOnPort p.slot kind abort then s.answerCycle
  else
    let t := s.hostAccess (s.postAccess kind p)
    if s.path.host = none ∧ t.headerOnPort p.slot kind abort = true then t.answerCycle else t

end Sys2Proof.Machine
end

