-- ==== Sys2Proof/Machine/AxisCommands.lean ====
section
/-! DEFINITION. Meanings of the commands of the axes: encoder inputs, motion periods and their outcomes (log 9), the search timer,
INTERLOCK. -/

namespace Sys2Proof.Machine

/-- ENCODER_EDGE (R19). -/
def execEncoderEdge (a : AxisId) (l : EncLevels) (s : State) : Host.Outcome State Fault Refusal := .next (s.encoderLevels a l).settle

/-- Time passes until the named inputs have held their level for their filter time, and they are accepted (R19, R17). -/
def State.filterAccept (s : State) (a : AxisId) (m : EncLevels) : State :=
  (s.pass ((s.axis a).enc.leftOf m)).acceptInputs a m

/-- FILTER_ACCEPT (R17, R19, R20, R23). -/
def execFilterAccept (a : AxisId) (m : EncLevels) (s : State) : Host.Outcome State Fault Refusal := .next (s.filterAccept a m).settle

/-- MOTION_PERIOD (R45 to R52). -/
def execMotionPeriod (a : AxisId) (s : State) : Host.Outcome State Fault Refusal := .next (s.motionPeriod a).settle

/-- STALL (R49). -/
def execStall (a : AxisId) (s : State) : Host.Outcome State Fault Refusal :=
  .next (if s.stallEnds a then (s.motionPeriod a).settle else s)

/-- BUDGET_TIMEOUT (R48). -/
def execBudgetTimeout (a : AxisId) (s : State) : Host.Outcome State Fault Refusal :=
  .next (if s.holdEnds a then (s.motionPeriod a).settle else s)

/-- SETTLE_END (R50). -/
def execSettleEnd (a : AxisId) (s : State) : Host.Outcome State Fault Refusal :=
  .next (if s.settleEnds a then (s.motionPeriod a).settle else s)

/-- STOPPING_END (R52). -/
def execStoppingEnd (a : AxisId) (s : State) : Host.Outcome State Fault Refusal :=
  .next (if s.quietEnds a then (s.motionPeriod a).settle else s)

/-- STOP_SLOW (R52). -/
def execStopSlow (a : AxisId) (s : State) : Host.Outcome State Fault Refusal :=
  .next (if s.stopsEnd a then (s.motionPeriod a).settle else s)

/-- HOME_TIMEOUT (R27). -/
def execHomeTimeout (a : AxisId) (s : State) : Host.Outcome State Fault Refusal := .next (s.searchExpiry a).settle

/-- INTERLOCK_ASSERTED (R56). -/
def execInterlockAsserted (s : State) : Host.Outcome State Fault Refusal := .next (s.interlockEdge true).settle

/-- INTERLOCK_RELEASED (R56). -/
def execInterlockReleased (s : State) : Host.Outcome State Fault Refusal := .next (s.interlockEdge false).settle

end Sys2Proof.Machine
end

