-- ==== Sys2Proof/Machine/BusCommands.lean ====
section
/-! DEFINITION. Meanings of the accesses at the system bus port and of the ends of memory cycles. -/

namespace Sys2Proof.Machine

/-- HOST_READ (R143). -/
def execHostRead (addr : Word) (s : State) : Host.Outcome State Fault Refusal := .next (s.hostAccess (.read addr))

/-- HOST_WRITE (R144, R146, R152). -/
def execHostWrite (addr data : Word) (be : BitVec 4) (s : State) : Host.Outcome State Fault Refusal :=
  .next (s.hostAccess (.write addr data be))

/-- MEMORY_ANSWER (R140). -/
def execMemoryAnswer (s : State) : Host.Outcome State Fault Refusal := .next s.answerCycle

/-- MEMORY_TIMEOUT (R153). -/
def execMemoryTimeout (s : State) : Host.Outcome State Fault Refusal := .next s.timeoutCycle

/-- PAIR_LOW_READ (R147). -/
def execPairLowRead (pair : PairId) (s : State) : Host.Outcome State Fault Refusal :=
  .next (s.hostAccess (.read (s.addrOf (pairLowOffset pair))))

/-- ACKNOWLEDGE (R171). -/
def execAcknowledge (s : State) : Host.Outcome State Fault Refusal := .next (s.hostAccess (.read (s.addrOf 0x200)))

/-- END_OF_SERVICE (R172). -/
def execEndOfService (data : Word) (be : BitVec 4) (s : State) : Host.Outcome State Fault Refusal :=
  .next (s.hostAccess (.write (s.addrOf 0x201) data be))

end Sys2Proof.Machine
end

