-- ==== Sys2Proof/Machine/RequestCommands.lean ====
section
/-! DEFINITION. Meanings of ABORT and of the nineteen request kinds (log 8): the header write that hands the slot over reaches the
slot unit, which checks and routes the request (R158 to R161). -/

namespace Sys2Proof.Machine

/-- ABORT (R163): a header write with the abort flag set. -/
def execAbort (kind : BitVec 6) (p : Post) (s : State) : Host.Outcome State Fault Refusal :=
  .next (s.postRow kind { p with abort := true } true)

/-- NOP (R160, R162). -/
def execNop (p : Post) (s : State) : Host.Outcome State Fault Refusal :=
  .next (s.postRow Kind.nop.number p false)

/-- AXIS_HOME (R160, R25). -/
def execAxisHome (p : Post) (s : State) : Host.Outcome State Fault Refusal :=
  .next (s.postRow Kind.axisHome.number p false)

/-- AXIS_MOVE_TO (R160, R42). -/
def execAxisMoveTo (p : Post) (s : State) : Host.Outcome State Fault Refusal :=
  .next (s.postRow Kind.axisMoveTo.number p false)

/-- AXIS_MOVE_BY (R160, R42). -/
def execAxisMoveBy (p : Post) (s : State) : Host.Outcome State Fault Refusal :=
  .next (s.postRow Kind.axisMoveBy.number p false)

/-- AXIS_STOP (R160, R54). -/
def execAxisStop (p : Post) (s : State) : Host.Outcome State Fault Refusal :=
  .next (s.postRow Kind.axisStop.number p false)

/-- AXIS_REPORT (R160, R35). -/
def execAxisReport (p : Post) (s : State) : Host.Outcome State Fault Refusal :=
  .next (s.postRow Kind.axisReport.number p false)

/-- AXIS_SETUP (R160, R32). -/
def execAxisSetup (p : Post) (s : State) : Host.Outcome State Fault Refusal :=
  .next (s.postRow Kind.axisSetup.number p false)

/-- PLACE (R160, R6). -/
def execPlace (p : Post) (s : State) : Host.Outcome State Fault Refusal :=
  .next (s.postRow Kind.place.number p false)

/-- ORIENT (R160, R14). -/
def execOrient (p : Post) (s : State) : Host.Outcome State Fault Refusal :=
  .next (s.postRow Kind.orient.number p false)

/-- KEYSTONE (R160, R62). -/
def execKeystone (p : Post) (s : State) : Host.Outcome State Fault Refusal :=
  .next (s.postRow Kind.keystone.number p false)

/-- CORNERS (R160, R63). -/
def execCorners (p : Post) (s : State) : Host.Outcome State Fault Refusal :=
  .next (s.postRow Kind.corners.number p false)

/-- FAN_CURVE (R160, R110). -/
def execFanCurve (p : Post) (s : State) : Host.Outcome State Fault Refusal :=
  .next (s.postRow Kind.fanCurve.number p false)

/-- THRESHOLDS (R160, R101). -/
def execThresholds (p : Post) (s : State) : Host.Outcome State Fault Refusal :=
  .next (s.postRow Kind.thresholds.number p false)

/-- THERMAL_RESUME (R160, R107). -/
def execThermalResume (p : Post) (s : State) : Host.Outcome State Fault Refusal :=
  .next (s.postRow Kind.thermalResume.number p false)

/-- FAN_FLOOR (R160, R93). -/
def execFanFloor (p : Post) (s : State) : Host.Outcome State Fault Refusal :=
  .next (s.postRow Kind.fanFloor.number p false)

/-- FAN_REPORT (R160, R94). -/
def execFanReport (p : Post) (s : State) : Host.Outcome State Fault Refusal :=
  .next (s.postRow Kind.fanReport.number p false)

/-- POWER_DOWN (R160, R128). -/
def execPowerDown (p : Post) (s : State) : Host.Outcome State Fault Refusal :=
  .next (s.postRow Kind.powerDown.number p false)

/-- POWER_UP (R160, R135). -/
def execPowerUp (p : Post) (s : State) : Host.Outcome State Fault Refusal :=
  .next (s.postRow Kind.powerUp.number p false)

/-- NOTICE_SETUP (R160, R173). -/
def execNoticeSetup (p : Post) (s : State) : Host.Outcome State Fault Refusal :=
  .next (s.postRow Kind.noticeSetup.number p false)

end Sys2Proof.Machine
end

