-- ==== Sys2Proof/Machine/Resets.lean ====
section
/-! DEFINITION. The two resets and their release (R16, R36, R60, R78, R96, R102, R111, R116, R125, R137, R154, R155, R167, R174,
R179). -/

namespace Sys2Proof.Machine

/-- The memory when a reset begins: a buffer entry being drained may or may not reach it (R154); the free value decides
(log 11). -/
def State.resetMem (s : State) : List Host.Cell :=
  match s.path.port, s.path.buffer with
  | some { kind := .drain, left := _ }, e :: _ =>
    if Config.orphanDrainReaches s.free then Memory.writeWord s.mem (wordBase (s.addrOf e.offset)) e.data 0xF else s.mem
  | _, _ => s.mem

/-- The free value is used up by a reset that finds a drain in progress. -/
def State.resetFree (s : State) : Nat :=
  match s.path.port with
  | some { kind := .drain, left := _ } => s.free + 1
  | _ => s.free

/-! ### Power-on reset -/

/-- What a reset answers to the master of an access that waits when it begins (R154). -/
def HostAccess.abandoned : HostAccess → Reply
  | .read _ => .readData 0xFFFFFFFF
  | .write _ _ _ => .writeDone

/-- Power is applied: every block takes its power-on values and RESET still holds the part. A host access that waits completes
at once (R154). The model's choices: until the release the capacity is that of SUPPLY_LOW as power is applied (log 45), and an
access that was only presented under RESET, before the port could take it, completes like one that waits (log 47). -/
def State.powerOn (s : State) (pins : PinLevels) : State :=
  { pending := s.pending
    free := s.resetFree
    clock := { uptime := 0, usInMs := 0, usTimer := 0, fanTick := 1000 }
    hold := .powerOn
    pins := { straps := pins.straps, supplyLow := pins.supplyLow, interlock := pins.interlock }
    mem := s.resetMem
    path := { Initial.path pins.straps.region with reply := s.path.host.map HostAccess.abandoned }
    slots := Initial.slots
    axes := { h := Initial.axis Initial.cfgH pins.encH, v := Initial.axis Initial.cfgV pins.encV }
    placement := Initial.placement pins.straps.orient
    mesh := Initial.mesh pins.straps.orient
    fans := { intake := Initial.fan, exhaust := Initial.fan, source := Initial.fan }
    thermal := Initial.thermal
    budget := Initial.budget (Config.capacity pins.supplyLow)
    power := Initial.power
    notice := Initial.notice
    events := Initial.events }

/-! ### System reset -/

/-- R60, R36. The model's choice (log 37): the previous count and the last duty are kept, and the motion-period timer is kept and
runs on. -/
def Axis.systemReset (x : Axis) : Axis :=
  { x with
    st := if x.st = .fault then .fault else .idle
    move := none
    searchTimer := none
    queue := []
    stopWait := []
    pendingPark := false
    drive := x.drive.off }

/-- R16. -/
def Placement.systemReset (p : Placement) (o : Orientation) : Placement :=
  { p with
    status :=
      match p.status with
      | .moving => .detached
      | .applying => .detached
      | .settled => if o = p.orientation then .settled else .detached
      | .detached => .detached
      | .failed => .failed
    settled := { h := false, v := false }
    needed := 0
    firstFailure := none
    noisy := false
    ref := none
    orientation := o }

/-- R78. -/
def Mesh.systemReset (m : Mesh) : Mesh :=
  { m with
    corners := Initial.zeroCorners
    st := .idle
    awaitRead := true
    dirty := true
    snapshot := none
    progress := Initial.progress
    requeueSelector := false
    retireTimer := none
    missingRun := false
    waiting := [] }

/-- R96. The demand is held at 0 (log 4). -/
def Fan.systemReset (standby : Bool) (f : Fan) : Fan :=
  { f with
    st := if f.st = .failed then .failed else .off
    demand := 0
    commanded := 0
    drive := if f.st = .failed ∧ standby = false then 100 else 0
    floor := 0
    curve := 0
    retries := if f.st = .failed then 4 else 0
    rpm := 0
    capValid := false
    kickTimer := none
    tachWindow := none
    cleanTimer := none }

/-- R116, R102. -/
def Channel.systemReset (c : ChannelId) (x : Channel) : Channel := { x with seen := false, thr := Initial.thresholds c }

/-- R116, R102, R111. The overall level is recomputed apart. -/
def Thermal.systemReset (t : Thermal) : Thermal :=
  { t with
    channels :=
      { source := Channel.systemReset .source t.channels.source
        panel := Channel.systemReset .panel t.channels.panel
        board := Channel.systemReset .board t.channels.board
        inlet := Channel.systemReset .inlet t.channels.inlet }
    hb := .disarmed
    hbTimer := none
    curvesFloor := Initial.curvesFloor
    curvesCeiling := Initial.curvesCeiling }

/-- R154. A cycle in progress is left to end at the memory; a waiting host access completes at once. -/
def PathUnit.systemReset (p : PathUnit) (region : BitVec 4) : PathUnit :=
  { p with
    region := region
    buffer := []
    port := p.port.map (fun c => { c with kind := .orphan })
    host := none
    reply := (p.host.map HostAccess.abandoned).or p.reply
    streak := 0
    selPending := false
    holds := Initial.none5 }

/-- R125. The capacity in force is taken anew at the release. The model's choice (log 45): until then it stays what it was. -/
def Budget.systemReset (b : Budget) : Budget := Initial.budget b.capacity

/-- R137. -/
def Power.systemReset (p : Power) : Power := { p with park := { h := .notAsked, v := .notAsked }, ref := none }

/-- RESET is asserted while power is applied: the system-reset values are applied and held. -/
def State.assertReset (s : State) (straps : Straps) : State :=
  if s.hold ≠ .running then s
  else
    let t : State :=
      { pending := s.pending
        free := s.resetFree
        clock := s.clock
        hold := .system
        pins := { s.pins with straps := straps }
        mem := s.resetMem
        path := s.path.systemReset straps.region
        slots := Initial.slots
        axes := s.axes.map Axis.systemReset
        placement := s.placement.systemReset straps.orient
        mesh := s.mesh.systemReset
        fans := s.fans.map (Fan.systemReset s.standby)
        thermal := s.thermal.systemReset
        budget := s.budget.systemReset
        power := s.power.systemReset
        notice := Initial.notice
        events := Initial.events }
    { t with thermal := { t.thermal with overall := t.overallNow } }

/-! ### Release -/

/-- At the release of power-on reset the filtered levels are the pin levels, uncounted (R36). -/
def EncInput.takeLevel (x : EncInput) : EncInput := { raw := x.raw, filtered := x.raw, timing := none }

def Axis.takeLevels (x : Axis) : Axis :=
  { x with enc := { a := x.enc.a.takeLevel, b := x.enc.b.takeLevel, i := x.enc.i.takeLevel } }

/-- The check of R132 made at the release (R137). -/
def State.checkTimeout (s : State) : State :=
  if s.power.mode = .cooldown ∧ Config.cooldownMaxMs ≤ s.power.elapsed then s.cooldownExpiry else s

/-- RESET is released (R155, R36, R96, R117, R125, R137, R179). The model's choice (log 40): an access that waited under RESET
(R154) is taken after what the blocks do at the release, and before the claim for P = 0 is made. -/
def State.leaveReset (s : State) : State :=
  let t := if s.hold = .powerOn then { s with axes := s.axes.map Axis.takeLevels } else s
  let t :=
    { t with
      hold := .running
      budget := { t.budget with capacity := Config.capacity t.pins.supplyLow }
      path := { t.path with selPending := true }
      events := { t.events with claimZero := true } }
  (t.refreshFans.checkCooldown.checkTimeout.arrive).settle

/-- RESET_RELEASE: nothing happens unless RESET holds the part (log 7). -/
def State.releaseReset (s : State) : State := if s.hold = .running then s else s.leaveReset

end Sys2Proof.Machine
end

