-- ==== Sys2Proof/Machine/ResetCommands.lean ====
section
/-! DEFINITION. Meanings of POWER_ON_RESET, SYSTEM_RESET and RESET_RELEASE. -/

namespace Sys2Proof.Machine

/-- POWER_ON_RESET (R154 and the power-on column of every block's reset rule). -/
def execPowerOnReset (pins : PinLevels) (s : State) : Host.Outcome State Fault Refusal := .next (s.powerOn pins)

/-- SYSTEM_RESET (R60 and the system-reset column of every block's reset rule). -/
def execSystemReset (straps : Straps) (s : State) : Host.Outcome State Fault Refusal := .next (s.assertReset straps)

/-- RESET_RELEASE (R155, R96, R117, R137, R179). -/
def execResetRelease (s : State) : Host.Outcome State Fault Refusal := .next s.releaseReset

end Sys2Proof.Machine
end

