-- ==== Sys2Proof/Machine/SupplyFanCommands.lean ====
section
/-! DEFINITION. Meanings of the edges of SUPPLY_LOW and of the commands of the fans. -/

namespace Sys2Proof.Machine

/-- SUPPLY_LOW_ASSERTED (R117). -/
def execSupplyLowAsserted (s : State) : Host.Outcome State Fault Refusal := .next (s.supplyEdge true).settle

/-- SUPPLY_LOW_DEASSERTED (R117). -/
def execSupplyLowDeasserted (s : State) : Host.Outcome State Fault Refusal := .next (s.supplyEdge false).settle

/-- The next whole second of uptime is reached (R84), or has just been reached. A whole second that passed without this command
had no tick, and the next tick comes at the next whole second (log 6). The model's choice (log 29): 1000 ms lie between two ticks
even where the uptime counter wraps, 4294967296 being no multiple of 1000. Uptime does not run before the release of power-on
reset (R146), and no tick is taken while RESET is asserted (R96). -/
def State.wholeSecond (s : State) : State :=
  if s.hold = .powerOn then s
  else
    let t := s.passMs s.clock.fanTick
    let t := { t with clock := { t.clock with fanTick := 1000 } }
    if s.hold = .running then t.tickFans else t

/-- FAN_TICK (R84). -/
def execFanTick (s : State) : Host.Outcome State Fault Refusal := .next s.wholeSecond

/-- The kick timer of a fan expires (R87). -/
def State.kickExpiry (s : State) (f : FanId) : State :=
  match (s.fan f).kickTimer with
  | none => s
  | some left =>
    let t := s.passMs left
    t.drawFan f (t.fan f).kickEnd

/-- KICK_END (R87). -/
def execKickEnd (f : FanId) (s : State) : Host.Outcome State Fault Refusal := .next (s.kickExpiry f)

/-- The tach window of a fan expires (R89). One that is overdue expires now. -/
def State.tachExpiry (s : State) (f : FanId) : State :=
  match (s.fan f).tachWindow with
  | none => s
  | some n => (s.pass (Config.tachWindowUs - n)).tachSilence f

/-- Time passes up to an edge of a fan. A tach window that ends before the edge expires first, so an accepted period is never
longer than the window (R88, R89); at the very end of the window the command taken first decides. -/
def State.passToEdge (s : State) (f : FanId) (us : Nat) : State :=
  match (s.fan f).tachWindow with
  | none => s.pass us
  | some n =>
    if n + us ≤ Config.tachWindowUs then s.pass us else (s.tachExpiry f).pass (us - (Config.tachWindowUs - n))

/-- A tachometer edge some microseconds from now (R88); none is taken while RESET is asserted (R96). -/
def State.tachEdge (s : State) (f : FanId) (elapsed : Word) : State :=
  if s.hold = .running then
    let t := s.passToEdge f elapsed.toNat
    t.setFan f ((t.fan f).edge t.clock.usTimer)
  else s.pass elapsed.toNat

/-- TACH_EDGE (R88). -/
def execTachEdge (f : FanId) (elapsed : Word) (s : State) : Host.Outcome State Fault Refusal :=
  .next (s.tachEdge f elapsed).settle

/-- TACH_WINDOW_EXPIRY (R89, R90, R91). -/
def execTachWindowExpiry (f : FanId) (s : State) : Host.Outcome State Fault Refusal := .next (s.tachExpiry f).settle

/-- The clean timer of a fan expires (R92). -/
def State.cleanExpiry (s : State) (f : FanId) : State :=
  match (s.fan f).cleanTimer with
  | none => s
  | some left =>
    let t := s.passMs left
    t.setFan f { t.fan f with retries := 0, cleanTimer := none }

/-- CLEAN_TIMER_EXPIRY (R92). -/
def execCleanTimerExpiry (f : FanId) (s : State) : Host.Outcome State Fault Refusal := .next (s.cleanExpiry f)

end Sys2Proof.Machine
end

