-- ==== Sys2Proof/Machine/ThermalPowerMeshCommands.lean ====
section
/-! DEFINITION. Meanings of the commands of the thermal monitor, the power sequencer and the mesh generator. -/

namespace Sys2Proof.Machine

/-- A channel's interval timer expires and its reading completes (R98, R99). No timer runs before the release of power-on
reset (R116). -/
def State.readingExpiry (s : State) (c : ChannelId) (code : Int) : State :=
  if s.hold = .powerOn then s else (s.passMs (s.channel c).timer).takeReading c code

/-- TEMPERATURE_READING (R99 to R106, R131, R134). -/
def execTemperatureReading (c : ChannelId) (code : Int) (s : State) : Host.Outcome State Fault Refusal :=
  .next (s.readingExpiry c code).settle

/-- The heartbeat timer expires (R113). -/
def State.heartbeatExpiry (s : State) : State :=
  match s.thermal.hbTimer with
  | none => s
  | some left => if s.thermal.hb = .armed then (s.passMs left).hostLost else s

/-- HEARTBEAT_TIMEOUT (R113). -/
def execHeartbeatTimeout (s : State) : Host.Outcome State Fault Refusal := .next s.heartbeatExpiry.settle

/-- Elapsed has reached 60000 (R131). -/
def State.setMinMet (s : State) : State := { s with power := { s.power with minMet := true } }

/-- Elapsed reaches 60000 in a cool-down (R131). -/
def State.minimumExpiry (s : State) : State :=
  if s.power.mode = .cooldown ∧ s.power.minMet = false then
    ((s.passMs (Config.cooldownMinMs - s.power.elapsed)).setMinMet).checkCooldown
  else s

/-- MINIMUM_MET (R131). -/
def execMinimumMet (s : State) : Host.Outcome State Fault Refusal := .next s.minimumExpiry.settle

/-- Elapsed reaches 300000 in a cool-down (R132). While RESET is asserted elapsed counts and nothing else happens (R137). -/
def State.elapsedExpiry (s : State) : State :=
  if s.power.mode = .cooldown then
    let t := (s.passMs (Config.cooldownMaxMs - s.power.elapsed)).setMinMet
    if s.hold = .running then t.cooldownExpiry else t
  else s

/-- COOLDOWN_TIMEOUT (R132, R133). -/
def execCooldownTimeout (s : State) : Host.Outcome State Fault Refusal := .next s.elapsedExpiry.settle

/-- FSYNC (R74); none is taken while RESET is asserted (R78). -/
def execFsync (s : State) : Host.Outcome State Fault Refusal := .next (if s.hold = .running then s.takeFsync.settle else s)

/-- The retirement timer expires while a bank is RETIRING (R74). -/
def State.retirementTimer (s : State) : State :=
  match s.mesh.retireTimer with
  | none => s
  | some left => if s.mesh.anyRetiring then (s.passMs left).retireExpiry else s

/-- RETIREMENT_TIMEOUT (R74). -/
def execRetirementTimeout (s : State) : Host.Outcome State Fault Refusal := .next s.retirementTimer.settle

end Sys2Proof.Machine
end

