-- ==== Sys2Proof/Machine/Dispatch.lean ====
section
/-! DEFINITION. exec: one arm per command, each a direct call of its meaning. -/

namespace Sys2Proof.Machine

def exec (i : Instr) (s : State) : Host.Outcome State Fault Refusal :=
  match i with
  | .powerOnReset pins => Sys2Proof.Machine.execPowerOnReset pins s
  | .systemReset straps => Sys2Proof.Machine.execSystemReset straps s
  | .resetRelease => Sys2Proof.Machine.execResetRelease s
  | .hostRead addr => Sys2Proof.Machine.execHostRead addr s
  | .hostWrite addr data be => Sys2Proof.Machine.execHostWrite addr data be s
  | .memoryAnswer => Sys2Proof.Machine.execMemoryAnswer s
  | .memoryTimeout => Sys2Proof.Machine.execMemoryTimeout s
  | .pairLowRead pair => Sys2Proof.Machine.execPairLowRead pair s
  | .acknowledge => Sys2Proof.Machine.execAcknowledge s
  | .endOfService data be => Sys2Proof.Machine.execEndOfService data be s
  | .abort kind p => Sys2Proof.Machine.execAbort kind p s
  | .nop p => Sys2Proof.Machine.execNop p s
  | .axisHome p => Sys2Proof.Machine.execAxisHome p s
  | .axisMoveTo p => Sys2Proof.Machine.execAxisMoveTo p s
  | .axisMoveBy p => Sys2Proof.Machine.execAxisMoveBy p s
  | .axisStop p => Sys2Proof.Machine.execAxisStop p s
  | .axisReport p => Sys2Proof.Machine.execAxisReport p s
  | .axisSetup p => Sys2Proof.Machine.execAxisSetup p s
  | .place p => Sys2Proof.Machine.execPlace p s
  | .orient p => Sys2Proof.Machine.execOrient p s
  | .keystone p => Sys2Proof.Machine.execKeystone p s
  | .corners p => Sys2Proof.Machine.execCorners p s
  | .fanCurve p => Sys2Proof.Machine.execFanCurve p s
  | .thresholds p => Sys2Proof.Machine.execThresholds p s
  | .thermalResume p => Sys2Proof.Machine.execThermalResume p s
  | .fanFloor p => Sys2Proof.Machine.execFanFloor p s
  | .fanReport p => Sys2Proof.Machine.execFanReport p s
  | .powerDown p => Sys2Proof.Machine.execPowerDown p s
  | .powerUp p => Sys2Proof.Machine.execPowerUp p s
  | .noticeSetup p => Sys2Proof.Machine.execNoticeSetup p s
  | .encoderEdge axis levels => Sys2Proof.Machine.execEncoderEdge axis levels s
  | .filterAccept axis inputs => Sys2Proof.Machine.execFilterAccept axis inputs s
  | .motionPeriod axis => Sys2Proof.Machine.execMotionPeriod axis s
  | .stall axis => Sys2Proof.Machine.execStall axis s
  | .budgetTimeout axis => Sys2Proof.Machine.execBudgetTimeout axis s
  | .settleEnd axis => Sys2Proof.Machine.execSettleEnd axis s
  | .stoppingEnd axis => Sys2Proof.Machine.execStoppingEnd axis s
  | .stopSlow axis => Sys2Proof.Machine.execStopSlow axis s
  | .homeTimeout axis => Sys2Proof.Machine.execHomeTimeout axis s
  | .interlockAsserted => Sys2Proof.Machine.execInterlockAsserted s
  | .interlockReleased => Sys2Proof.Machine.execInterlockReleased s
  | .supplyLowAsserted => Sys2Proof.Machine.execSupplyLowAsserted s
  | .supplyLowDeasserted => Sys2Proof.Machine.execSupplyLowDeasserted s
  | .fanTick => Sys2Proof.Machine.execFanTick s
  | .kickEnd fan => Sys2Proof.Machine.execKickEnd fan s
  | .tachEdge fan elapsed => Sys2Proof.Machine.execTachEdge fan elapsed s
  | .tachWindowExpiry fan => Sys2Proof.Machine.execTachWindowExpiry fan s
  | .cleanTimerExpiry fan => Sys2Proof.Machine.execCleanTimerExpiry fan s
  | .temperatureReading channel code => Sys2Proof.Machine.execTemperatureReading channel code s
  | .heartbeatTimeout => Sys2Proof.Machine.execHeartbeatTimeout s
  | .minimumMet => Sys2Proof.Machine.execMinimumMet s
  | .cooldownTimeout => Sys2Proof.Machine.execCooldownTimeout s
  | .fsync => Sys2Proof.Machine.execFsync s
  | .retirementTimeout => Sys2Proof.Machine.execRetirementTimeout s

end Sys2Proof.Machine
end

