-- ==== Sys2Proof/Machine/Step.lean ====
section
/-! DEFINITION. One step of the part: the command at the front of the queue, or one idle millisecond. -/

namespace Sys2Proof.Machine

/-- The state with its queue of waiting commands replaced. -/
def State.withPending (s : State) (q : List Instr) : State := { s with pending := q }

/-- One step: the command at the front of the queue is taken; on an empty queue 1 ms passes (log 5). -/
def step (s : State) : Host.Outcome State Fault Refusal :=
  match s.pending with
  | [] => .next (s.pass 1000)
  | i :: rest => exec i (s.withPending rest)

/-- The command that a word spells is put at the front of the queue. No row of the table gives bits, so no word spells one. -/
def State.withFetchWord (s : State) (nbits w : Nat) : State :=
  match decodeTableWord nbits w with
  | some i => s.withPending (i :: s.pending)
  | none => s

end Sys2Proof.Machine
end

