-- ==== Sys2Proof/WellFormed.lean ====
section
/-! DEFINITION. Which commands the environment can send at all: the checks that do not depend on the state. -/

namespace Sys2Proof

/-- R97: every code that a reading carries lies from -2048 to 2047. -/
def WellFormed.code (code : Int) : Bool := decide (-2048 ≤ code) && decide (code ≤ 2047)

/-- R17, R19: an acceptance accepts at least one input. -/
def WellFormed.accepts (inputs : EncLevels) : Bool := inputs.a || inputs.b || inputs.i

/-- An ABORT row is a header write with the abort flag set (R158). -/
def WellFormed.abort (p : Post) : Bool := p.abort

/-- A command the environment can send. A row not named here carries no operand that could be ill formed. -/
def Instr.wellFormed : Instr → Bool
  | .temperatureReading _ code => WellFormed.code code
  | .filterAccept _ inputs => WellFormed.accepts inputs
  | .abort _ p => WellFormed.abort p
  | .powerOnReset _ => true
  | .systemReset _ => true
  | .resetRelease => true
  | .hostRead _ => true
  | .hostWrite _ _ _ => true
  | .memoryAnswer => true
  | .memoryTimeout => true
  | .pairLowRead _ => true
  | .acknowledge => true
  | .endOfService _ _ => true
  | .nop _ => true
  | .axisHome _ => true
  | .axisMoveTo _ => true
  | .axisMoveBy _ => true
  | .axisStop _ => true
  | .axisReport _ => true
  | .axisSetup _ => true
  | .place _ => true
  | .orient _ => true
  | .keystone _ => true
  | .corners _ => true
  | .fanCurve _ => true
  | .thresholds _ => true
  | .thermalResume _ => true
  | .fanFloor _ => true
  | .fanReport _ => true
  | .powerDown _ => true
  | .powerUp _ => true
  | .noticeSetup _ => true
  | .encoderEdge _ _ => true
  | .motionPeriod _ => true
  | .stall _ => true
  | .budgetTimeout _ => true
  | .settleEnd _ => true
  | .stoppingEnd _ => true
  | .stopSlow _ => true
  | .homeTimeout _ => true
  | .interlockAsserted => true
  | .interlockReleased => true
  | .supplyLowAsserted => true
  | .supplyLowDeasserted => true
  | .fanTick => true
  | .kickEnd _ => true
  | .tachEdge _ _ => true
  | .tachWindowExpiry _ => true
  | .cleanTimerExpiry _ => true
  | .heartbeatTimeout => true
  | .minimumMet => true
  | .cooldownTimeout => true
  | .fsync => true
  | .retirementTimeout => true

end Sys2Proof
end

