-- ==== Sys2Proof/Safety.lean ====
section
/-! DEFINITION. The words that statements about the part are made of: quiet and ready states, posted requests and how they end,
and the invariants. -/

namespace Sys2Proof.Machine

/-- No claim and no grant is left to make, and RESET does not hold the part: what every command leaves behind (log 10). -/
structure State.Quiet (s : State) : Prop where
  running : s.hold = .running
  still : s.nextAction.isNone = true

/-- Quiet, and nothing on its way to memory: the port, the bus, the buffer and the completion queue are free,
and the memory list is canonical. -/
structure State.Ready (s : State) : Prop extends State.Quiet s where
  port : s.path.port = none
  host : s.path.host = none
  buffer : s.path.buffer = []
  queue : s.slots.queue = []
  canonical : Memory.wf s.mem = true
  writer : s.slots.writer = Initial.progress
  fed : s.events.fed = 0

/-- The host has filled a slot that is its own with a body and hands it over by a header write that fits it. -/
structure State.Posted (s : State) (p : Post) (body : List Word) : Prop where
  noAbort : p.abort = false
  len : p.len.toNat = body.length
  view : s.view p.slot = .host
  words : s.body p.slot body.length = body

/-- The byte address of a slot's header. -/
def State.headerBase (s : State) (k : SlotId) : Nat := wordBase (s.addrOf (slotOffset k 0))

/-- Memory holds the header that the host wrote, and every other byte is as before. -/
def State.HandsOver (s t : State) (kind : Kind) (p : Post) : Prop :=
  Memory.readWord t.mem (s.headerBase p.slot) = postHeader kind.number p
    ∧ ∀ a, (a < s.headerBase p.slot ∨ s.headerBase p.slot + 4 ≤ a) → Memory.get t.mem a = Memory.get s.mem a

/-- The request has ended with a result: its body words stand in the shadow; an empty body lets the header be queued at once,
which returns the slot to the host; otherwise the completion waits for its body to drain (R165). -/
def State.Ends (t : State) (kind : Kind) (p : Post) (r : Result) (body : List Word) : Prop :=
  t.body p.slot body.length = body
    ∧ (body = [] → t.slots.queue = [] ∧ t.view p.slot = .host
        ∧ t.shadowWord p.slot 0 = completionHeader kind.number p.tag 0 r)
    ∧ (body ≠ [] → t.slots.queue = [{ slot := p.slot, result := r, body := body }]
        ∧ t.view p.slot = .part kind.number p.tag false .completing)

/-- Axes differ at most in what the supply budget unit does to them between periods (R123): the drive. -/
def Axis.SameButDrive (x y : Axis) : Prop := { y with drive := x.drive, lastDuty := x.lastDuty } = x

/-- Both axes. -/
def State.AxesSameButDrive (s t : State) : Prop := s.axes.h.SameButDrive t.axes.h ∧ s.axes.v.SameButDrive t.axes.v

/-- Memory, clock, pins and reset state as before. -/
def State.SameGround (s t : State) : Prop := t.mem = s.mem ∧ t.clock = s.clock ∧ t.pins = s.pins ∧ t.hold = s.hold

/-- Clock, pins and reset state as before. -/
def State.SameTime (s t : State) : Prop := t.clock = s.clock ∧ t.pins = s.pins ∧ t.hold = s.hold

/-- Axes, placement and supply budget as before. -/
def State.SameLens (s t : State) : Prop := t.axes = s.axes ∧ t.placement = s.placement ∧ t.budget = s.budget

/-- Fans, thermal monitor and power sequencer as before. -/
def State.SameCooling (s t : State) : Prop := t.fans = s.fans ∧ t.thermal = s.thermal ∧ t.power = s.power

/-- The mesh generator as before. -/
def State.SameMesh (s t : State) : Prop := t.mesh = s.mesh

/-- Event indices and notices as before; records may have gone on to the buffer. -/
def State.SameNews (s t : State) : Prop :=
  t.notice = s.notice ∧ t.events.p = s.events.p ∧ t.events.c = s.events.c ∧ t.events.lost = s.events.lost
    ∧ t.events.overrun = s.events.overrun

/-- The slots' views, shadow and completions as before. -/
def State.SameSlots (s t : State) : Prop := t.slots.views = s.slots.views ∧ t.slots.queue = s.slots.queue

/-- The event writer has room and no overrun to report (R175). -/
def State.RingOpen (s : State) : Prop := s.events.occupancy < Config.ringSize ∧ s.events.overrun = false

/-- The five buffer entries of the next record (R175, R176, 12.6): four words at its ring slot, then P after it. -/
def State.recordEntries (s : State) (time : Word) (code : Half) (va vb : Word) : List Entry :=
  let base := 0x80 + 4 * (s.events.p.toNat % 32)
  [{ offset := base, data := s.events.p ++ code, producer := .eventWriter false },
    { offset := base + 1, data := va, producer := .eventWriter false },
    { offset := base + 2, data := vb, producer := .eventWriter false },
    { offset := base + 3, data := time, producer := .eventWriter false },
    { offset := 0x100, data := (s.events.p + 1).setWidth 32
      producer := .eventWriter (decide (s.events.occupancy + 1 = 16)) }]

/-- Out of a ready state one event was placed and stands whole in the buffer, stamped with the uptime. -/
def State.Records (s t : State) (code : Half) (va vb : Word) : Prop :=
  t.path.buffer = s.recordEntries t.clock.uptime code va vb ∧ t.events.p = s.events.p + 1 ∧ t.events.c = s.events.c
    ∧ t.events.out = []

/-- A buffer entry of the event writer. -/
def Entry.ofWriter (e : Entry) : Bool :=
  match e.producer with
  | .eventWriter _ => true
  | _ => false

/-- The five buffer entries that a placed record becomes (R176, 12.6). -/
def Record.entries (r : Record) : List Entry :=
  let word (i : Nat) (w : Word) : Entry := { offset := 0x80 + 4 * r.ring + i, data := w, producer := .eventWriter false }
  [word 0 r.w0, word 1 r.w1, word 2 r.w2, word 3 r.w3,
    { offset := 0x100, data := r.pAfter.setWidth 32, producer := .eventWriter r.mark }]

/-- All that the event writer still has on its way to memory, oldest first: its entries in the buffer, the claim for P = 0, and
what has not been queued of its outgoing list. A claim moves its head along and changes nothing of it. -/
def State.ringTraffic (s : State) : List Entry :=
  s.path.buffer.filter Entry.ofWriter
    ++ (if s.events.claimZero then [{ offset := 0x100, data := 0, producer := .eventWriter false }] else [])
    ++ (s.events.out.flatMap Record.entries).drop s.events.fed

/-- One event was placed: its record, stamped with a time, goes to memory after all that the event writer had on its way. -/
def State.RaisesAt (s t : State) (time : Word) (code : Half) (va vb : Word) : Prop :=
  t.ringTraffic = s.ringTraffic ++ s.recordEntries time code va vb ∧ t.events.p = s.events.p + 1 ∧ t.events.c = s.events.c

/-- One event was placed, stamped with the uptime. -/
def State.Raises (s t : State) (code : Half) (va vb : Word) : Prop := s.RaisesAt t t.clock.uptime code va vb

/-- The state with another buffer. -/
def State.withBuffer (s : State) (l : List Entry) : State := { s with path := { s.path with buffer := l } }

/-- The two event-writer indices and notices as before, and nothing more on its way: no event was placed. -/
def State.NoEvent (s t : State) : Prop :=
  t.ringTraffic = s.ringTraffic ∧ t.events.p = s.events.p ∧ t.events.c = s.events.c

/-- The thresholds that either reset gives the channels (R102). -/
def State.DefaultThresholds (t : State) : Prop :=
  (t.channel .source).thr = { warm := 140, hot := 170, critical := 190, hyst := 6 }
    ∧ (t.channel .panel).thr = { warm := 110, hot := 130, critical := 150, hyst := 6 }
    ∧ (t.channel .board).thr = { warm := 120, hot := 150, critical := 180, hyst := 6 }
    ∧ (t.channel .inlet).thr = { warm := 70, hot := 80, critical := 90, hyst := 6 }

/-- The curves that either reset gives the two sets (R111). -/
def State.DefaultCurves (t : State) : Prop :=
  t.thermal.curves .floor =
      { intake := { channel := .inlet, points := [(40, 25), (60, 45), (76, 70)] }
        exhaust := { channel := .board, points := [(70, 25), (100, 45), (120, 70)] }
        source := { channel := .source, points := [(80, 30), (120, 50), (160, 80)] } }
    ∧ t.thermal.curves .ceiling =
      { intake := { channel := .inlet, points := [(40, 30), (60, 50), (76, 75)] }
        exhaust := { channel := .panel, points := [(70, 30), (90, 50), (110, 75)] }
        source := { channel := .source, points := [(80, 35), (120, 55), (160, 85)] } }

/-- A source that an acknowledge may select: enabled, pending, and above the top of the stack if there is one (R171). -/
def Notice.Qualified (n : Notice) (x : NoticeSource) : Prop :=
  n.enable.getLsbD x.prio = true ∧ n.pend.getLsbD x.prio = true ∧ ∀ top rest, n.stack = top :: rest → x.prio < top.prio

/-- Quiet while one memory cycle is on the port, with nothing else on its way to memory. -/
structure State.Awaiting (s : State) (k : CycleKind) (left : Nat) : Prop extends State.Quiet s where
  port : s.path.port = some { kind := k, left := left }
  buffer : s.path.buffer = []
  queue : s.slots.queue = []
  fed : s.events.fed = 0
  selector : s.path.selPending = false

/-- Quiet while the host's write of a slot header is on the port: the post or abort that it makes is taken when memory answers
(R158, R159). Whatever stands in the buffer and on the completion queue waits meanwhile. -/
structure State.HeaderOnTheWay (s : State) (k : SlotId) (header : Word) (act : SlotAct) (left : Nat) : Prop
    extends State.Quiet s where
  port : s.path.port = some { kind := .hostWrite (s.addrOf (slotOffset k 0)) header 0xF act false, left := left }

/-- The part's view of a slot is PART with a holder (R156). -/
def State.HeldBy (s : State) (k : SlotId) (h : Holder) : Prop := ∃ kind tag taken, s.view k = .part kind tag taken h

/-- Every completion on the queue names a slot that the part holds as COMPLETING (R156, R165). -/
def State.CompletionsHeld (s : State) : Prop := ∀ c ∈ s.slots.queue, s.HeldBy c.slot .completing

/-- A host write to an offset of the region is refused: a word of the part (R142), a live word that takes no write (R146), or a
word of a slot that the part holds, unless it is a header write that aborts the request: owner PART, abort flag set and the tag
of the view, where the request is no POWER_DOWN (R158). The header's upper bytes are judged as merged. -/
def State.RefusesWrite (s : State) (o : Nat) (data : Word) (be : BitVec 4) : Prop :=
  let shadow := s.shadowWord (slotOfOffset o) (wordOfOffset o)
  let top : Byte := if be.getLsbD 3 then data.extractLsb' 24 8 else shadow.extractLsb' 24 8
  let tagByte : Byte := if be.getLsbD 2 then data.extractLsb' 16 8 else shadow.extractLsb' 16 8
  (0x80 ≤ o ∧ o ≤ 0x100) ∨ o = 0x103 ∨ (0x200 ≤ o ∧ o ≤ 0x2FF ∧ o ≠ 0x201) ∨ (0x400 ≤ o ∧ o ≤ 0x4FF)
    ∨ (o < 0x80 ∧ ∃ kind tag taken h, s.view (slotOfOffset o) = .part kind tag taken h
        ∧ (o % 16 ≠ 0 ∨ kind = 17 ∨ top.getLsbD 7 = false ∨ top.getLsbD 6 = false ∨ tagByte ≠ tag))

/-- What a refused write does beside its event (R145): it completes, the count rises by one and stops at 65535, the offset is
recorded, and memory and every other block are as before. -/
def State.CountsRefusal (s t : State) (o : Nat) : Prop :=
  t.path.refusals = min 65535 (s.path.refusals + 1) ∧ t.path.lastRefused = o ∧ t.path.reply = some .writeDone
    ∧ t.path.host = none ∧ s.SameGround t ∧ s.SameLens t ∧ s.SameCooling t ∧ s.SameMesh t ∧ t.slots = s.slots

/-- One rejected edge or phase error reaches the move that runs on an axis (R21, R51): while its result is unset the tally
rises by one; where it reaches 64 for a move other than a home, ENCODER_NOISE is raised with the tally and the target, once
for the move. -/
def State.TallyRises (s t : State) (a : AxisId) (m : Move) : Prop :=
  (m.result ≠ none → (t.axis a).move = some m ∧ s.NoEvent t)
    ∧ (m.result = none → (m.kind = .home ∨ m.tally + 1 < 64 ∨ m.noiseReported = true) →
        (t.axis a).move = some { m with tally := m.tally + 1 } ∧ s.NoEvent t)
    ∧ (m.result = none → m.kind ≠ .home → 64 ≤ m.tally + 1 → m.noiseReported = false →
        (t.axis a).move = some { m with tally := m.tally + 1, noiseReported := true }
          ∧ s.Raises t (eventCode .encoderNoise (axisNumber a)) (natWord (m.tally + 1)) (signedWord m.target))

/-- Memory holds a slot header that the host wrote, and is else as before. -/
def State.TakesHeader (s t : State) (k : SlotId) (header : Word) : Prop :=
  t.mem = Memory.writeWord s.mem (s.headerBase k) header 0xF

/-- A fresh move record (R43, R44, R25). -/
def Move.Fresh (m : Move) (kind : MoveKind) (owner : Option SlotId) (target : Int) (limit : Class) : Prop :=
  m.kind = kind ∧ m.owner = owner ∧ m.target = target ∧ m.limit = limit ∧ m.result = none ∧ m.corrections = 0 ∧ m.tally = 0
    ∧ m.noiseReported = false ∧ m.limited = 0 ∧ m.holdTime = 0 ∧ m.stallCount = 0

/-- No request, level or line keeps the axes from starting (R42): RUN, not autonomous, INTERLOCK released, not CRITICAL. -/
structure State.FreeToMove (s : State) : Prop where
  mode : s.power.mode = .run
  host : s.thermal.hb ≠ .lost
  interlock : s.pins.interlock = false
  level : s.thermal.overall ≠ .critical

/-- Checks 1 to 7 of R6 pass, or 1 to 6 of R15: the axes may move, are homed and not in FAULT, and no ORIENT runs. -/
structure State.MayPlace (s : State) : Prop extends State.FreeToMove s where
  noFault : ∀ a, (s.axis a).st ≠ .fault
  homed : ∀ a, (s.axis a).homed = true
  noOrient : s.placementRuns = true →
    ∃ k tag taken, s.placement.ref = some k ∧ s.view k = .part 8 tag taken .placement

/-- Check 8 of R6 fails for an axis: it runs or queues a direct request, or is in STOPPING. -/
def Axis.Busy (x : Axis) : Prop :=
  (∃ m, x.move = some m ∧ (m.kind = .directMove ∨ m.kind = .home)) ∨ x.queue ≠ [] ∨ x.st = .stopping

/-- The first failed check among 1 to 6 of R6, with its code. -/
def State.PlaceRefusal (s : State) (code : ResCode) : Prop :=
  (s.power.mode ≠ .run ∧ code = .powerState)
    ∨ (s.power.mode = .run ∧ s.thermal.hb = .lost ∧ code = .hostLost)
    ∨ (s.power.mode = .run ∧ s.thermal.hb ≠ .lost ∧ s.pins.interlock = true ∧ code = .interlocked)
    ∨ (s.power.mode = .run ∧ s.thermal.hb ≠ .lost ∧ s.pins.interlock = false ∧ s.thermal.overall = .critical
        ∧ code = .thermalBlock)
    ∨ (s.FreeToMove ∧ (∃ a, (s.axis a).st = .fault) ∧ code = .axisFaulted)
    ∨ (s.FreeToMove ∧ (∀ a, (s.axis a).st ≠ .fault) ∧ (∃ a, (s.axis a).homed = false) ∧ code = .notHomed)

/-- The record holds a split that an orientation gave (R3, R4), and a slot is its reference. -/
def State.HoldsSplit (t : State) (o : Orientation) (sp : Split) (k : SlotId) : Prop :=
  t.placement.ref = some k ∧ t.placement.orientation = o
    ∧ t.placement.optical = { h := sp.h.optical, v := sp.v.optical }
    ∧ t.placement.targets = { h := sp.h.target, v := sp.v.target }
    ∧ t.placement.remX = sp.remX o ∧ t.placement.remY = sp.remY o

/-- An axis at rest is taken against a placement target (R7): outside its deadband it starts a placement move at FAR, inside it
counts as settled. -/
def State.TakesAxis (s t : State) (a : AxisId) : Prop :=
  let d := (t.placement.targets.get a - (s.axis a).counter.toInt).natAbs
  ((s.axis a).cfg.bands.2.2 < d →
      (t.axis a).st = .moving ∧ (t.axis a).target = t.placement.targets.get a
        ∧ (∃ m, (t.axis a).move = some m ∧ m.Fresh .placement none (t.placement.targets.get a) .far)
        ∧ t.placement.status = .moving ∧ t.placement.settled.get a = false)
    ∧ (d ≤ (s.axis a).cfg.bands.2.2 → (s.axis a).SameButDrive (t.axis a) ∧ t.placement.settled.get a = true)

/-- Both axes settled: the apply has begun with the remainder (R8); else the placement moves. -/
def State.AppliesWhenSettled (t : State) : Prop :=
  (t.placement.settled = { h := true, v := true } →
      t.placement.status = .applying ∧ t.mesh.applied = { dx := t.placement.remX, dy := t.placement.remY })
    ∧ (t.placement.settled ≠ { h := true, v := true } → t.placement.status = .moving)

/-- The move of an axis has been stopped by a cause: STOPPING with the drive off, and the cause as its result unless one was
set before (R53). -/
def State.Stopped (s t : State) (a : AxisId) (c : ResCode) : Prop :=
  (t.axis a).st = .stopping ∧ (t.axis a).drive.duty = 0
    ∧ ∀ m, (s.axis a).move = some m → ∃ n, (t.axis a).move = some n ∧ n.kind = m.kind ∧ n.owner = m.owner
        ∧ n.result = some (m.result.getD { cls := .ended, code := c })

/-- The first failed check of a park at the moment an axis acts on it (R44), with its code. -/
def State.ParkRefusal (s : State) (a : AxisId) (code : ResCode) : Prop :=
  (s.thermal.hb = .lost ∧ code = .hostLost)
    ∨ (s.thermal.hb ≠ .lost ∧ s.pins.interlock = true ∧ code = .interlocked)
    ∨ (s.thermal.hb ≠ .lost ∧ s.pins.interlock = false ∧ s.thermal.overall = .critical ∧ code = .thermalBlock)
    ∨ (s.thermal.hb ≠ .lost ∧ s.pins.interlock = false ∧ s.thermal.overall ≠ .critical
        ∧ ((s.axis a).st = .fault ∧ code = .axisFaulted
          ∨ (s.axis a).st ≠ .fault ∧ (s.axis a).homed = false ∧ code = .notHomed))

/-- The checks of R44 let a park start. -/
def State.MayPark (s : State) (a : AxisId) : Prop :=
  s.thermal.hb ≠ .lost ∧ s.pins.interlock = false ∧ s.thermal.overall ≠ .critical ∧ (s.axis a).st ≠ .fault
    ∧ (s.axis a).homed = true

/-- A park progress once the sequencer has ended the parks that it waits for with a code (R132, R135). -/
def endedPark (p : Park) (c : ResCode) : Park := if p = .waiting then .result { cls := .ended, code := c } else p

/-- What the end of the parks does to an axis (R132, R135): where the sequencer waited for its park, the pending park is dropped
and a running park move stopped with the code; else the axis goes on. -/
def State.ParkEnds (s t : State) (a : AxisId) (c : ResCode) : Prop :=
  (s.power.park.get a = .waiting → (t.axis a).pendingPark = false)
    ∧ (s.power.park.get a ≠ .waiting → (t.axis a).pendingPark = (s.axis a).pendingPark)
    ∧ (s.power.park.get a = .waiting → (s.axis a).runsPark = true → (s.axis a).st.active = true → s.Stopped t a c)
    ∧ (¬ (s.power.park.get a = .waiting ∧ (s.axis a).runsPark = true ∧ (s.axis a).st.active = true) →
        (t.axis a).st = (s.axis a).st ∧ (t.axis a).move = (s.axis a).move)

/-- The completions with which a list of queued requests ends ENDED/ABORTED, head first, each with the position (R55). -/
def abortedQueue (x : Axis) : List Completion :=
  x.queue.map (fun q => { slot := q.slot, result := { cls := .ended, code := .aborted }, body := [x.counter] })

/-- A value is among the terms of R82 that apply to a fan's demand. -/
def State.DemandTerm (s : State) (f : FanId) (v : Nat) : Prop :=
  v = (s.fan f).curve ∨ v = (s.fan f).floor
    ∨ (s.thermal.overall = .normal ∧ v = 0) ∨ (s.thermal.overall = .warm ∧ v = 40)
    ∨ (s.thermal.overall = .hot ∧ v = 80) ∨ (s.thermal.overall = .critical ∧ v = 100)
    ∨ (s.power.mode = .cooldown ∧ v = 60)
    ∨ ((s.channel (s.curveOf f).channel).fault = true ∧ v = 100)
    ∨ (s.thermal.hb = .lost ∧ v = 100)
    ∨ ((s.channel (s.curveOf f).channel).seen = false ∧ v = 40)

/-- The word of a mask bit of an AXIS_SETUP body: the present words follow the mask word in ascending bit order (R31). -/
def setupWord (body : List Word) (bit : Nat) : Word :=
  bodyWord body (3 + ((List.range bit).filter (fun i => (bodyWord body 2).getLsbD i)).length)

/-- The static range of the word of a present field of AXIS_SETUP, by its mask bit (2.6, 12.4). -/
def SetupFieldInRange (bit : Nat) (w : Word) : Prop :=
  (bit = 0 → w.extractLsb' 7 25 = 0 ∧ w.extractLsb' 0 2 ≠ 0)
    ∧ (bit = 1 ∨ bit = 6 → -32768 ≤ w.toInt ∧ w.toInt ≤ 32767)
    ∧ (bit = 3 → 1 ≤ w.toNat ∧ w.toNat ≤ 1048575)
    ∧ (bit = 4 → 1 ≤ (w.extractLsb' 0 16).toNat ∧ (w.extractLsb' 0 16).toNat ≤ 32767 ∧ w.extractLsb' 16 8 ≠ 0
        ∧ w.extractLsb' 24 8 ≠ 0)
    ∧ (bit = 5 → w.extractLsb' 8 8 = 0 ∧ 1 ≤ (w.extractLsb' 0 8).toNat ∧ (w.extractLsb' 0 8).toNat ≤ 64)
    ∧ (bit = 7 ∨ bit = 8 → w.extractLsb' 24 8 = 0 ∧ (w.extractLsb' 0 8).toNat ≤ 100 ∧ (w.extractLsb' 8 8).toNat ≤ 100
        ∧ (w.extractLsb' 16 8).toNat ≤ 100)

/-- The request row of a kind. -/
def requestRow (k : Kind) (p : Post) : Instr :=
  match k with
  | .nop => .nop p
  | .axisHome => .axisHome p
  | .axisMoveTo => .axisMoveTo p
  | .axisMoveBy => .axisMoveBy p
  | .axisStop => .axisStop p
  | .axisReport => .axisReport p
  | .axisSetup => .axisSetup p
  | .place => .place p
  | .keystone => .keystone p
  | .corners => .corners p
  | .orient => .orient p
  | .fanCurve => .fanCurve p
  | .thresholds => .thresholds p
  | .fanFloor => .fanFloor p
  | .fanReport => .fanReport p
  | .thermalResume => .thermalResume p
  | .powerDown => .powerDown p
  | .powerUp => .powerUp p
  | .noticeSetup => .noticeSetup p

/-- The codes of axes, fans, channels, orientations and class limits in request bodies (12.4). -/
def axisWord (a : AxisId) : Word := natWord (axisNumber a)
def fanWord (f : FanId) : Word := natWord (fanNumber f)
def channelIdWord (c : ChannelId) : Word := natWord (channelNumber c)
def orientationWord (o : Orientation) : Word := natWord (orientationNumber o)
def limitWord : Class → Word
  | .far => 0
  | .near => 1
  | .creep => 2
  | .zero => 0

/-! ### Invariants -/

/-- The in-service stack rises strictly toward the top (R170). -/
def stackRises : List NoticeSource → Bool
  | [] => true
  | [_] => true
  | x :: y :: rest => decide (x.prio < y.prio) && stackRises (y :: rest)

/-- Counts of the memory path unit within their ranges (R145, R148, R150). -/
def State.PathInv (s : State) : Prop :=
  s.path.buffer.length ≤ Config.bufferSize ∧ s.path.streak ≤ Config.streakLimit ∧ s.path.refusals ≤ Config.countCap

/-- In STANDBY every fan's commanded duty and drive duty are 0 (R85, R86, R127). -/
def State.StandbyInv (s : State) : Prop :=
  s.power.mode = .standby → ∀ f, (s.fan f).commanded = 0 ∧ (s.fan f).drive = 0

/-- The allotments are those of the present capacity, fan draw, desires and order (R121, R122). -/
def State.AllotInv (s : State) : Prop := s.budget.allot = s.allotNow

/-- The ring's occupancy stays within 32, the outgoing records run from the queued P to P (R175 to R177), and of the head
record at most four words are queued. -/
def State.RingInv (s : State) : Prop :=
  let e := s.events
  e.out.map Record.pAfter = (List.range e.out.length).map (fun i => e.q + 1 + BitVec.ofNat 16 i)
    ∧ e.p = e.q + BitVec.ofNat 16 e.out.length
    ∧ (e.q - e.c).toNat + e.out.length ≤ Config.ringSize
    ∧ (e.claimZero = true → e.q = 0)
    ∧ (s.hold ≠ .running → e = Initial.events)
    ∧ e.fed ≤ 4 ∧ (e.out = [] → e.fed = 0)

/-- Slots and their owners agree (R156): each slot that the slot unit's queue, an axis, the placement unit, the mesh generator
or the power sequencer names is held by the part under that holder, and stands once on its list; the slot of a post on its way
is the host's; and with no completion left the writer of completions is at its start (R165). -/
structure State.SlotInv (s : State) : Prop where
  ended : s.CompletionsHeld
  endedOnce : (s.slots.queue.map Completion.slot).Nodup
  queued : ∀ a, ∀ q ∈ (s.axis a).queue, s.HeldBy q.slot (.axisQueue a)
  queuedOnce : ∀ a, ((s.axis a).queue.map Queued.slot).Nodup
  running : ∀ a m k, (s.axis a).move = some m → m.owner = some k → s.HeldBy k (.axisRunning a)
  stopping : ∀ a, ∀ k ∈ (s.axis a).stopWait, s.HeldBy k (.stopWait a)
  stoppingOnce : ∀ a, (s.axis a).stopWait.Nodup
  placed : ∀ k, s.placement.ref = some k → s.HeldBy k .placement
  awaiting : ∀ w ∈ s.mesh.waiting, s.HeldBy w.slot .meshWait
  awaitingOnce : (s.mesh.waiting.map Waiting.slot).Nodup
  cooling : ∀ k, s.power.ref = some k → s.HeldBy k .power
  posting : ∀ addr data be superseded left o,
    s.path.port = some { kind := .hostWrite addr data be .post superseded, left := left } → s.offsetOf addr = some o →
    o < 0x80 → s.view (slotOfOffset o) = .host
  atStart : s.slots.queue = [] → s.slots.writer = Initial.progress

/-- Less than a whole ms lies behind the last ms of uptime (R146). -/
def State.ClockInv (s : State) : Prop := s.clock.usInMs < 1000

/-- The time to the next fan tick leads to a whole second of uptime (R84). -/
def State.OnSeconds (s : State) : Prop := (s.clock.uptime.toNat + s.clock.fanTick) % 1000 = 0

/-- Nothing is left to claim or grant while the part runs. -/
def State.QuietInv (s : State) : Prop := s.hold = .running → s.nextAction.isNone = true

end Sys2Proof.Machine
end

