-- ==== Sys2Proof/Certificates/Slice0/Obligations.lean ====
section
/-! DEFINITION. The statements for the provers. -/

section
open Sys2Proof Sys2Proof.Machine

/-! ### The queue, time and resets -/

/-- A step with a command at the front of the queue is that command's meaning on the state with the rest of the queue. -/
def Obligations.StepRunsFrontCommand : Prop :=
  ∀ (c : Instr) (rest : List Instr) (s : State), s.pending = c :: rest → step s = exec c (s.withPending rest)

/-- Every command answers a next state and leaves the queue of waiting commands alone. The model's choice (log 5): an empty
queue lets 1 ms pass. Time moves the uptime of R146 and the 1 MHz timer, and the timers run; while only time passes, nothing
else changes. The time clause stands on the invariant that less than a whole ms lies behind the last ms of uptime, which every
step keeps. -/
def Obligations.EveryStepCompletes : Prop :=
  (∀ (c : Instr) (s : State), ∃ t, exec c s = .next t ∧ t.pending = s.pending)
  ∧ ((∀ s : State, s.pending = [] → step s = .next (s.pass 1000))
    ∧ (∀ s t : State, s.ClockInv → step s = .next t → t.ClockInv)
    ∧ ∀ (s : State) (us : Nat), s.ClockInv → s.hold ≠ .powerOn →
        (s.pass us).clock.uptime = s.clock.uptime + BitVec.ofNat 32 ((s.clock.usInMs + us) / 1000)
          ∧ (s.pass us).clock.usTimer = s.clock.usTimer + BitVec.ofNat 32 us
          ∧ (s.pass us).pending = s.pending ∧ (s.pass us).free = s.free ∧ (s.pass us).hold = s.hold
          ∧ (s.pass us).pins = s.pins ∧ (s.pass us).mem = s.mem ∧ (s.pass us).slots = s.slots
          ∧ (s.pass us).placement = s.placement ∧ (s.pass us).budget = s.budget ∧ (s.pass us).notice = s.notice
          ∧ (s.pass us).events = s.events
          ∧ (s.pass us).path = { s.path with port := s.path.port.map (Cycle.pass us) }
          ∧ (s.pass us).mesh = { s.mesh with retireTimer := (s.pass us).mesh.retireTimer }
          ∧ (∀ a, ((s.pass us).axis a).counter = (s.axis a).counter ∧ ((s.pass us).axis a).st = (s.axis a).st
              ∧ ((s.pass us).axis a).move = (s.axis a).move ∧ ((s.pass us).axis a).drive = (s.axis a).drive)
          ∧ (∀ f, ((s.pass us).fan f).st = (s.fan f).st ∧ ((s.pass us).fan f).commanded = (s.fan f).commanded
              ∧ ((s.pass us).fan f).demand = (s.fan f).demand ∧ ((s.pass us).fan f).drive = (s.fan f).drive
              ∧ ((s.pass us).fan f).tachWindow = (s.fan f).tachWindow.map (fun n => n + us))
          ∧ (s.pass us).thermal.overall = s.thermal.overall ∧ (s.pass us).thermal.cutLatch = s.thermal.cutLatch
          ∧ (s.pass us).thermal.hb = s.thermal.hb ∧ (s.pass us).power.mode = s.power.mode
          ∧ (s.pass us).power.park = s.power.park ∧ (s.pass us).power.ref = s.power.ref)

/-- Power-on reset: the values of every block's reset rule, whatever the state before, the levels found on the pins (log 16
for the moment at which the straps are taken), and RESET holding the part. A host access that waits completes, and so does one
only presented under RESET (the model's choice, log 47); memory keeps what it held, but for an entry being drained (R154). The
marks and the generation of the mesh are FREE, FREE and 0 until the read-back (the model's choice, log 19), a fan's demand
reads 0 while RESET holds the part (log 4), and the capacity is that of SUPPLY_LOW as power is applied (log 45). -/
def Obligations.PowerOnReset : Prop :=
  ∀ (s : State) (pins : PinLevels),
    ∃ t, exec (.powerOnReset pins) s = .next t
      ∧ t.hold = .powerOn ∧ t.clock.uptime = 0
      ∧ t.pins = { straps := pins.straps, supplyLow := pins.supplyLow, interlock := pins.interlock }
      ∧ t.path.region = pins.straps.region ∧ t.path.buffer = [] ∧ t.path.port = none ∧ t.path.host = none
      ∧ t.path.streak = 0 ∧ t.path.refusals = 0 ∧ t.path.lastRefused = 0xFFFF ∧ (∀ k, t.path.holds.get k = none)
      ∧ t.path.selPending = false
      ∧ (∀ addr, s.path.host = some (.read addr) → t.path.reply = some (.readData 0xFFFFFFFF))
      ∧ (∀ addr data be, s.path.host = some (.write addr data be) → t.path.reply = some .writeDone)
      ∧ (∀ k, t.view k = .host ∧ ∀ w, t.shadowWord k w = 0) ∧ t.slots.queue = []
      ∧ (∀ a, (t.axis a).counter = 0 ∧ (t.axis a).posTime = 0 ∧ (t.axis a).homed = false ∧ (t.axis a).rejected = 0
          ∧ (t.axis a).phaseErrors = 0 ∧ (t.axis a).st = .idle ∧ (t.axis a).faultCode = .none ∧ (t.axis a).move = none
          ∧ (t.axis a).searchTimer = none ∧ (t.axis a).queue = [] ∧ (t.axis a).stopWait = []
          ∧ (t.axis a).pendingPark = false ∧ (t.axis a).target = 0
          ∧ (t.axis a).drive.duty = 0 ∧ (t.axis a).drive.cls = .zero
          ∧ (t.axis a).cfg.encoder = { mode := .x4, filter := 1, phaseA := true, phaseB := true, homePositive := false }
          ∧ (t.axis a).cfg.homeValue = 0 ∧ (t.axis a).cfg.limits = (-20000, 20000) ∧ (t.axis a).cfg.span = 48000
          ∧ (t.axis a).cfg.bands = (2000, 200, 4) ∧ (t.axis a).cfg.gainCenter = (20, 0) ∧ (t.axis a).cfg.park = 0)
      ∧ (t.axis .h).cfg.primary = { far := 90, near := 55, creep := 30 } ∧ (t.axis .h).cfg.lift = none
      ∧ (t.axis .v).cfg.primary = { far := 80, near := 45, creep := 25 }
      ∧ (t.axis .v).cfg.lift = some { far := 100, near := 65, creep := 35 }
      ∧ t.placement =
          { status := .detached
            reqX := 0
            reqY := 0
            optical := { h := 0, v := 0 }
            targets := { h := 0, v := 0 }
            remX := 0
            remY := 0
            settled := { h := false, v := false }
            needed := 0
            firstFailure := none
            noisy := false
            ref := none
            orientation := pins.straps.orient }
      ∧ t.mesh.corners = Initial.zeroCorners ∧ t.mesh.applied = { dx := 0, dy := 0 } ∧ t.mesh.st = .idle
      ∧ t.mesh.dirty = true ∧ t.mesh.awaitRead = true ∧ t.mesh.waiting = [] ∧ t.mesh.snapshot = none
      ∧ t.mesh.retireTimer = none ∧ t.mesh.missingRun = false
      ∧ t.mesh.last =
          { corners := Initial.zeroCorners, translation := { dx := 0, dy := 0 }, orientation := pins.straps.orient }
      ∧ t.mesh.gen = 0 ∧ t.mesh.markA = .free ∧ t.mesh.markB = .free
      ∧ (∀ f, t.fan f =
          { st := .off
            demand := 0
            commanded := 0
            drive := 0
            floor := 0
            curve := 0
            retries := 0
            rpm := 0
            capTime := 0
            capValid := false
            kickTimer := none
            tachWindow := none
            cleanTimer := none })
      ∧ (∀ c, (t.channel c).latest = 0 ∧ (t.channel c).latestValid = false ∧ (t.channel c).reading = 0
          ∧ (t.channel c).seen = false ∧ (t.channel c).invalidStreak = 0 ∧ (t.channel c).validStreak = 0
          ∧ (t.channel c).fault = false ∧ (t.channel c).level = .normal ∧ (t.channel c).timer = 250)
      ∧ t.DefaultThresholds ∧ t.DefaultCurves
      ∧ t.thermal.overall = .normal ∧ t.thermal.cutLatch = false ∧ t.thermal.hb = .disarmed ∧ t.thermal.hbTimer = none
      ∧ t.dim = false ∧ t.cut = false ∧ t.release = false
      ∧ t.budget =
          { capacity := if pins.supplyLow then 40 else 64
            desire := { h := .zero, v := .zero }
            order := []
            allot := { h := .zero, v := .zero } }
      ∧ t.power =
          { mode := .run
            kind := .shutdown
            elapsed := 0
            minMet := false
            park := { h := .notAsked, v := .notAsked }
            ref := none }
      ∧ t.notice.enable = 0 ∧ t.notice.pend = 0 ∧ t.notice.stack = [] ∧ t.notice.base = 0
      ∧ t.events.p = 0 ∧ t.events.c = 0 ∧ t.events.overrun = false ∧ t.events.lost = 0 ∧ t.events.out = []
      ∧ ((∀ c, s.path.port = some c → c.kind ≠ .drain) → t.mem = s.mem)
      ∧ (∀ e rest a, s.path.buffer = e :: rest →
          (a < wordBase (s.addrOf e.offset) ∨ wordBase (s.addrOf e.offset) + 4 ≤ a) → Memory.get t.mem a = Memory.get s.mem a)

/-- System reset: what each block's reset rule clears and what it keeps; RESET holds the part. The model's choices: a second
assertion changes nothing (log 7); the generation and the bank marks stay until the read-back (log 19); a drive turned off
keeps its direction, and a fan's demand reads 0 while RESET holds the part (log 4); the straps are taken at the assertion (log
16); an axis keeps its previous count, its last duty and its motion-period timer (log 37); the capacity stays what it was
until the release (log 45). -/
def Obligations.SystemReset : Prop :=
  ∀ (s : State) (straps : Straps),
    (s.hold ≠ .running → exec (.systemReset straps) s = .next s)
      ∧ (s.hold = .running →
        ∃ t, exec (.systemReset straps) s = .next t
          ∧ t.hold = .system ∧ t.clock = s.clock ∧ t.pins = { s.pins with straps := straps }
          ∧ t.path.region = straps.region ∧ t.path.buffer = [] ∧ t.path.host = none ∧ t.path.streak = 0
          ∧ t.path.port = s.path.port.map (fun c => { c with kind := .orphan }) ∧ (∀ k, t.path.holds.get k = none)
          ∧ t.path.refusals = s.path.refusals ∧ t.path.lastRefused = s.path.lastRefused
          ∧ (∀ addr, s.path.host = some (.read addr) → t.path.reply = some (.readData 0xFFFFFFFF))
          ∧ (∀ addr data be, s.path.host = some (.write addr data be) → t.path.reply = some .writeDone)
          ∧ (∀ k, t.view k = .host ∧ ∀ w, t.shadowWord k w = 0) ∧ t.slots.queue = []
          ∧ (∀ a, t.axis a =
              { s.axis a with
                st := if (s.axis a).st = .fault then .fault else .idle
                move := none
                searchTimer := none
                queue := []
                stopWait := []
                pendingPark := false
                drive := { (s.axis a).drive with duty := 0, cls := .zero } })
          ∧ t.placement =
              { s.placement with
                status := t.placement.status
                settled := { h := false, v := false }
                needed := 0
                firstFailure := none
                noisy := false
                ref := none
                orientation := straps.orient }
          ∧ (s.placement.status = .moving ∨ s.placement.status = .applying → t.placement.status = .detached)
          ∧ (s.placement.status = .settled →
              t.placement.status = if straps.orient = s.placement.orientation then .settled else .detached)
          ∧ (s.placement.status = .detached ∨ s.placement.status = .failed → t.placement.status = s.placement.status)
          ∧ t.mesh.corners = Initial.zeroCorners ∧ t.mesh.applied = s.mesh.applied ∧ t.mesh.gen = s.mesh.gen
          ∧ t.mesh.markA = s.mesh.markA ∧ t.mesh.markB = s.mesh.markB ∧ t.mesh.last = s.mesh.last
          ∧ t.mesh.st = .idle ∧ t.mesh.dirty = true ∧ t.mesh.awaitRead = true ∧ t.mesh.waiting = []
          ∧ t.mesh.snapshot = none ∧ t.mesh.retireTimer = none ∧ t.mesh.missingRun = false
          ∧ (∀ f, t.fan f =
              { s.fan f with
                st := if (s.fan f).st = .failed then .failed else .off
                demand := 0
                commanded := 0
                drive := if (s.fan f).st = .failed ∧ s.power.mode ≠ .standby then 100 else 0
                floor := 0
                curve := 0
                retries := if (s.fan f).st = .failed then 4 else 0
                rpm := 0
                capValid := false
                kickTimer := none
                tachWindow := none
                cleanTimer := none })
          ∧ t.thermal.hb = .disarmed ∧ t.thermal.hbTimer = none ∧ t.thermal.cutLatch = s.thermal.cutLatch
          ∧ t.thermal.overall = t.overallNow
          ∧ (∀ c, t.channel c = { s.channel c with seen := false, thr := (t.channel c).thr }) ∧ t.DefaultThresholds
          ∧ t.DefaultCurves
          ∧ t.budget =
              { capacity := s.budget.capacity
                desire := { h := .zero, v := .zero }
                order := []
                allot := { h := .zero, v := .zero } }
          ∧ t.power = { s.power with park := { h := .notAsked, v := .notAsked }, ref := none }
          ∧ t.notice.enable = 0 ∧ t.notice.pend = 0 ∧ t.notice.stack = [] ∧ t.notice.base = 0
          ∧ t.events.p = 0 ∧ t.events.c = 0 ∧ t.events.overrun = false ∧ t.events.lost = 0 ∧ t.events.out = []
          ∧ ((∀ c, s.path.port = some c → c.kind ≠ .drain) → t.mem = s.mem))

/-- The release of RESET. After power-on: the selector read holds the port (R155), the claim for P = 0 stands in the buffer
(R179), the filtered encoder levels are the pin levels (R36) and the fans kick at the blind duty (R96, R87). After a system
reset in RUN: the same for the port, the buffer and every fan that is not FAILED, and the capacity follows SUPPLY_LOW (R125).
In STANDBY the fans stay at 0 and RELEASE asserted; in COOLDOWN the checks of R131 and R132 are made once (R137): a cool-down
that is done, or has lasted 300000 ms, ends in STANDBY with the POWER notice and no completion, any other goes on. The model's
choice (log 7): a release while the part runs changes nothing. The model's choice (log 46): minimum met keeps its value
outside COOLDOWN. -/
def Obligations.ResetRelease : Prop :=
  (∀ (s : State) (pins : PinLevels),
    ∃ t, exec .resetRelease (s.powerOn pins) = .next t
      ∧ t.hold = .running
      ∧ t.path.port = some { kind := .selector, left := 10 }
      ∧ t.path.buffer = [{ offset := 0x100, data := 0, producer := .eventWriter false }]
      ∧ (∀ f, (t.fan f).st = .kick ∧ (t.fan f).demand = 40 ∧ (t.fan f).commanded = 40 ∧ (t.fan f).drive = 100
          ∧ (t.fan f).kickTimer = some 500)
      ∧ (∀ a, (t.axis a).enc.a.filtered = (t.axis a).enc.a.raw ∧ (t.axis a).enc.b.filtered = (t.axis a).enc.b.raw
          ∧ (t.axis a).enc.i.filtered = (t.axis a).enc.i.raw ∧ (t.axis a).counter = 0)
      ∧ t.mem = (s.powerOn pins).mem ∧ t.clock = (s.powerOn pins).clock)
    ∧ (∀ (s : State) (straps : Straps), s.hold = .running → s.power.mode = .run →
      ∃ t, exec .resetRelease (s.assertReset straps) = .next t
        ∧ t.hold = .running
        ∧ t.budget.capacity = (if s.pins.supplyLow then 40 else 64)
        ∧ (s.path.port = none → t.path.port = some { kind := .selector, left := 10 })
        ∧ (∀ c, s.path.port = some c → t.path.port = some { kind := .orphan, left := c.left } ∧ t.path.selPending = true)
        ∧ t.path.buffer = [{ offset := 0x100, data := 0, producer := .eventWriter false }]
        ∧ (∀ f, (s.fan f).st ≠ .failed → (t.fan f).st = .kick ∧ 40 ≤ (t.fan f).commanded ∧ (t.fan f).drive = 100)
        ∧ (∀ f, (s.fan f).st = .failed → (t.fan f).st = .failed ∧ (t.fan f).drive = 100)
        ∧ (∀ a, (t.axis a).counter = (s.axis a).counter ∧ (t.axis a).homed = (s.axis a).homed
            ∧ (t.axis a).cfg = (s.axis a).cfg)
        ∧ t.mem = (s.assertReset straps).mem ∧ t.clock = s.clock ∧ t.slots = (s.assertReset straps).slots
        ∧ t.notice = (s.assertReset straps).notice)
    ∧ (∀ u : State, u.hold = .system → u.path.host = none → u.power.mode = .standby →
      ∃ t, exec .resetRelease u = .next t ∧ t.hold = .running ∧ t.power = u.power ∧ t.release = true
        ∧ (∀ f, (t.fan f).demand = 0 ∧ (t.fan f).commanded = 0
            ∧ ((u.fan f).st = .off ∨ (u.fan f).st = .failed → (t.fan f).st = (u.fan f).st ∧ (t.fan f).drive = 0))
        ∧ t.budget.capacity = (if u.pins.supplyLow then 40 else 64)
        ∧ t.mem = u.mem ∧ t.clock = u.clock ∧ t.notice = u.notice
        ∧ t.placement = u.placement)
    ∧ (∀ u : State, u.hold = .system → u.path.host = none → u.slots.queue = [] → u.power.mode = .cooldown →
      u.power.ref = none → u.power.park = { h := .notAsked, v := .notAsked } →
      ∃ t, exec .resetRelease u = .next t ∧ t.hold = .running ∧ t.slots.views = u.slots.views
        ∧ (((u.power.minMet = false ∨ u.thermal.channels.source.fault = true ∨ 90 < u.thermal.channels.source.reading)
              ∧ u.power.elapsed < 300000) →
            t.power = u.power ∧ t.notice = u.notice ∧ t.release = false ∧ ∀ f, 60 ≤ (t.fan f).commanded)
        ∧ ((u.power.minMet = true ∧ u.thermal.channels.source.fault = false ∧ u.thermal.channels.source.reading ≤ 90
              ∨ 300000 ≤ u.power.elapsed) →
            u.highestLevel.rank < Level.hot.rank →
            t.power = { u.power with mode := .standby } ∧ t.release = true
              ∧ t.notice = { u.notice with pend := u.notice.pend ||| NoticeSource.power.bit }
              ∧ ∀ f, (t.fan f).demand = 0 ∧ (t.fan f).commanded = 0)
        ∧ t.mem = u.mem ∧ t.clock = u.clock ∧ t.placement = u.placement)
    ∧ (∀ s : State, s.hold = .running → exec .resetRelease s = .next s)

/-! ### Host accesses -/

/-- With the port free and the buffer empty, a read of a word that is not live is granted a memory cycle at once. A read of a
word that the buffer holds an entry for is answered at once from the youngest one (R151), and nothing else changes. The model's
choice (log 32): so it is also while the reset-time selector read is still pending. -/
def Obligations.HostReads : Prop :=
  (∀ (s : State) (addr : Word), s.Ready → (∀ o, s.offsetOf addr = some o → isLive o = false) →
    exec (.hostRead addr) s =
      .next { s with
        path := { s.path with
          host := some (.read addr), port := some { kind := .hostRead addr, left := 10 }, streak := 0 } })
  ∧ (∀ (s : State) (addr : Word) (o : Nat) (before after : List Entry) (e : Entry),
    s.Quiet → s.path.host = none → s.offsetOf addr = some o → isLive o = false →
    s.path.buffer = before ++ e :: after → e.offset = o → (∀ x ∈ after, x.offset ≠ o) →
    exec (.hostRead addr) s = .next { s with path := { s.path with reply := some (.readData e.data) } })

/-- A read of a live word other than the notice vector and the pairs is answered from the state and changes nothing (R146); an
unassigned one reads 0. The five pairs (R147): a read of a low word returns the live value and loads the hold with the live
high word; a read of a high word returns the hold, or the live value while the hold is empty. The layout of every live word
(12.8), each field at its weight; the model's choices: the bits between the fields read 0 (log 41), outside COOLDOWN minimum
met reads as the last cool-down left it (log 46), and of the thermal word channel k shows its fault in bit 4 + k, fan f its
failed report in bit 8 + f (log 44). The stack word is stated for the rising stacks of R170, entry by entry. -/
def Obligations.LiveReads : Prop :=
  ((∀ (s : State) (addr : Word) (o : Nat), s.Quiet → s.path.host = none → s.offsetOf addr = some o → 0x200 < o → o ≤ 0x2FF →
    (∀ k, o ≠ pairLowOffset k ∧ o ≠ pairLowOffset k + 1) →
    exec (.hostRead addr) s = .next { s with path := { s.path with reply := some (.readData (s.liveValue o)) } })
  ∧ ∀ s : State,
      (∀ o, 0x230 ≤ o → s.liveValue o = 0)
      ∧ s.liveValue 0x207 = natWord s.power.elapsed ∧ s.liveValue 0x208 = s.clock.uptime
      ∧ s.liveValue 0x209 = natWord s.path.refusals ∧ s.liveValue 0x20A = natWord s.path.lastRefused
      ∧ s.liveValue 0x20B = s.mesh.gen.setWidth 32
      ∧ s.liveValue 0x21A = signedWord s.axes.h.target ∧ s.liveValue 0x21F = signedWord s.axes.v.target)
  ∧ ((∀ (s : State) (k : PairId), s.Quiet → s.path.host = none →
    exec (.pairLowRead k) s =
      .next { s with
        path := { s.path with
          reply := some (.readData (s.liveValue (pairLowOffset k)))
          holds := s.path.holds.set k (some (s.liveValue (pairLowOffset k + 1))) } })
  ∧ (∀ (s : State) (k : PairId), s.Quiet → s.path.host = none →
    exec (.hostRead (s.addrOf (pairLowOffset k + 1))) s =
      .next { s with
        path := { s.path with
          reply := some (.readData ((s.path.holds.get k).getD (s.liveValue (pairLowOffset k + 1)))) } })
  ∧ ∀ s : State,
      s.liveValue (pairLowOffset .positionH) = s.axes.h.counter
      ∧ s.liveValue (pairLowOffset .positionH + 1) = s.axes.h.posTime
      ∧ s.liveValue (pairLowOffset .positionV) = s.axes.v.counter
      ∧ s.liveValue (pairLowOffset .positionV + 1) = s.axes.v.posTime
      ∧ s.liveValue (pairLowOffset .intake) = natWord s.fans.intake.rpm
      ∧ s.liveValue (pairLowOffset .intake + 1) = s.fans.intake.capTime
      ∧ s.liveValue (pairLowOffset .exhaust) = natWord s.fans.exhaust.rpm
      ∧ s.liveValue (pairLowOffset .exhaust + 1) = s.fans.exhaust.capTime
      ∧ s.liveValue (pairLowOffset .source) = natWord s.fans.source.rpm
      ∧ s.liveValue (pairLowOffset .source + 1) = s.fans.source.capTime)
  ∧ (∀ s : State,
    s.liveValue 0x202 =
        natWord (s.notice.enable.toNat + 2 ^ 8 * s.notice.pend.toNat + 2 ^ 16 * (s.notice.base / 16)
          + 2 ^ 20 * s.notice.stack.length + 2 ^ 24 * boolNat s.notice.line)
      ∧ (stackRises s.notice.stack = true → ∀ (k : Nat) (x : NoticeSource), s.notice.stack.reverse[k]? = some x →
          (s.liveValue 0x203).extractLsb' (3 * k) 3 = BitVec.ofNat 3 x.prio)
      ∧ s.liveValue 0x204 =
          natWord (s.thermal.overall.rank + 2 ^ 2 * s.highestLevel.rank
            + 2 ^ 4 * boolNat (s.channel .source).fault + 2 ^ 5 * boolNat (s.channel .panel).fault
            + 2 ^ 6 * boolNat (s.channel .board).fault + 2 ^ 7 * boolNat (s.channel .inlet).fault
            + 2 ^ 8 * boolNat (decide ((s.fan .intake).st = .failed)) + 2 ^ 9 * boolNat (decide ((s.fan .exhaust).st = .failed))
            + 2 ^ 10 * boolNat (decide ((s.fan .source).st = .failed)) + 2 ^ 11 * boolNat s.thermal.cutLatch
            + 2 ^ 12 * boolNat s.dim + 2 ^ 13 * boolNat s.cut + 2 ^ 14 * s.thermal.hb.number
            + 2 ^ 16 * orientationNumber s.placement.orientation)
      ∧ s.liveValue 0x205 =
          natWord (s.budget.capacity + 2 ^ 7 * boolNat s.pins.supplyLow + 2 ^ 8 * s.totalDraw
            + 2 ^ 16 * s.budget.desire.h.rank + 2 ^ 18 * s.budget.allot.h.rank + 2 ^ 20 * s.budget.desire.v.rank
            + 2 ^ 22 * s.budget.allot.v.rank
            + 2 ^ 24 * (match s.budget.order with
              | [] => 0
              | .h :: _ => 1
              | .v :: _ => 2))
      ∧ (let park (p : Park) : Nat :=
          match p with
          | .notAsked => 0xFE
          | .waiting => 0xFD
          | .result r => r.code.number
        s.liveValue 0x206 =
          natWord (s.power.mode.number
            + 2 ^ 2 * (match s.power.kind with
              | .shutdown => 0
              | .recool => 1)
            + 2 ^ 3 * boolNat s.power.minMet + 2 ^ 4 * boolNat s.release
            + 2 ^ 8 * (match s.power.ref with
              | none => 0
              | some k => 8 + k.val)
            + 2 ^ 16 * park s.power.park.h + 2 ^ 24 * park s.power.park.v))
      ∧ s.liveValue 0x20C =
          natWord (s.mesh.st.number + 2 ^ 2 * s.mesh.markA.number + 2 ^ 4 * s.mesh.markB.number + 2 ^ 6 * boolNat s.mesh.dirty
            + 2 ^ 7 * boolNat s.mesh.missingRun + 2 ^ 8 * s.mesh.waiting.length
            + 2 ^ 12 * orientationNumber s.mesh.last.orientation)
      ∧ (let halves (x y : Int) : Word := BitVec.ofInt 16 y ++ BitVec.ofInt 16 x
        let last := s.mesh.last
        s.liveValue 0x20D = halves last.corners.tl.dx last.corners.tl.dy
          ∧ s.liveValue 0x20E = halves last.corners.tr.dx last.corners.tr.dy
          ∧ s.liveValue 0x20F = halves last.corners.bl.dx last.corners.bl.dy
          ∧ s.liveValue 0x210 = halves last.corners.br.dx last.corners.br.dy
          ∧ s.liveValue 0x211 = halves last.translation.dx last.translation.dy
          ∧ s.liveValue 0x213 = halves s.placement.reqX s.placement.reqY
          ∧ s.liveValue 0x214 = halves s.placement.remX s.placement.remY
          ∧ s.liveValue 0x215 = halves s.mesh.applied.dx s.mesh.applied.dy)
      ∧ s.liveValue 0x212 =
          natWord (s.placement.status.number + 2 ^ 3 * orientationNumber s.placement.orientation
            + 2 ^ 4 * (match s.placement.ref with
              | none => 0
              | some k => 8 + k.val)
            + 2 ^ 8 * boolNat s.placement.settled.h + 2 ^ 9 * boolNat s.placement.settled.v)
      ∧ (∀ a : AxisId,
          let base :=
            match a with
            | .h => 0x216
            | .v => 0x21B
          s.liveValue (base + 2) =
              natWord ((s.axis a).st.number + 2 ^ 3 * boolNat (s.holding a) + 2 ^ 4 * boolNat (s.axis a).homed
                + 2 ^ 8 * ((s.axis a).queue.length % 16) + 2 ^ 16 * (s.axis a).faultCode.number)
            ∧ s.liveValue (base + 3) = natWord ((s.axis a).rejected + 2 ^ 16 * (s.axis a).phaseErrors))
      ∧ (∀ f : FanId,
          let base :=
            match f with
            | .intake => 0x220
            | .exhaust => 0x224
            | .source => 0x228
          s.liveValue (base + 2) =
              natWord ((s.fan f).commanded + 2 ^ 8 * (s.fan f).drive + 2 ^ 16 * (s.fan f).demand + 2 ^ 24 * (s.fan f).st.number)
            ∧ s.liveValue (base + 3) = natWord ((s.fan f).retries + 2 ^ 8 * (s.fan f).floor))
      ∧ ∀ c : ChannelId,
          s.liveValue (0x22C + channelNumber c) =
            0#4 ++ BitVec.ofBool (s.channel c).latestValid ++ BitVec.ofBool (s.channel c).fault
              ++ BitVec.ofNat 2 (s.channel c).level.rank ++ BitVec.ofInt 12 (s.channel c).latest
              ++ BitVec.ofInt 12 (s.channel c).reading)

/-- An acknowledge selects the highest-priority source that qualifies: it returns its code, clears its pending flag and pushes
it; when none qualifies it returns the spurious code and changes nothing (R171). -/
def Obligations.Acknowledge : Prop :=
  ∀ s : State, s.Quiet → s.path.host = none →
    (∀ x : NoticeSource, s.notice.Qualified x → (∀ y, y.prio < x.prio → ¬ s.notice.Qualified y) →
      exec .acknowledge s =
        .next { s with
          path := { s.path with reply := some (.readData (natWord (s.notice.base + x.prio))) }
          notice := { s.notice with pend := s.notice.pend &&& ~~~ x.bit, stack := x :: s.notice.stack } })
    ∧ ((∀ x, ¬ s.notice.Qualified x) →
      exec .acknowledge s =
        .next { s with path := { s.path with reply := some (.readData (natWord (s.notice.base + 15))) } })
    ∧ (s.notice.line = true ↔ ∃ x, s.notice.Qualified x)

/-- An end of service removes the top of the stack, whatever the data and the byte enables; on an empty stack nothing is removed
and EOS_EMPTY is raised with the data and the byte enables (R172). The write completes at once and never reaches memory. A read
of the word returns the base plus the priority of the top, or the spurious code, and changes nothing. -/
def Obligations.EndOfService : Prop :=
  (∀ (s : State) (data : Word) (be : BitVec 4) (x : NoticeSource) (rest : List NoticeSource),
    s.Quiet → s.path.host = none → s.notice.stack = x :: rest →
    exec (.endOfService data be) s =
      .next { s with path := { s.path with reply := some .writeDone }, notice := { s.notice with stack := rest } })
  ∧ (∀ (s : State) (data : Word) (be : BitVec 4), s.Ready → s.RingOpen → s.notice.stack = [] →
    ∃ t, exec (.endOfService data be) s = .next t ∧ t.notice = s.notice ∧ t.path.reply = some .writeDone
      ∧ t.path.host = none ∧ s.SameGround t ∧ s.SameLens t ∧ s.SameCooling t ∧ s.SameMesh t ∧ t.slots = s.slots
      ∧ s.Records t (eventCode .eosEmpty 0) data (be.setWidth 32))
  ∧ (∀ s : State, s.Quiet → s.path.host = none →
    exec (.hostRead (s.addrOf 0x201)) s =
      .next { s with
        path := { s.path with
          reply := some (.readData (natWord (s.notice.base
            + match s.notice.stack with
              | [] => 15
              | x :: _ => x.prio))) } })
  ∧ ∀ s : State, s.notice.line = true ↔ ∃ x, s.notice.Qualified x

/-- With the port free and the buffer empty, a host write that is not refused becomes a memory cycle at once: outside the
region, to plain memory, or to a slot whose view is HOST; there a header with owner PART is a post (R144, R158). A write to a
word that the buffer holds an entry for is held: it waits, unclassified, and nothing else happens (R152). The model's choice
(log 2): byte enable k stands for bits 8k + 7 to 8k of the word, from which a header written in part is merged. -/
def Obligations.HostWrites : Prop :=
  (∀ (s : State) (addr data : Word) (be : BitVec 4) (act : SlotAct), s.Ready →
    ((s.offsetOf addr = none ∧ act = .plain)
      ∨ (∃ o, s.offsetOf addr = some o ∧ act = .plain
          ∧ ((0x104 ≤ o ∧ o ≤ 0x1FF) ∨ (0x300 ≤ o ∧ o ≤ 0x3FF) ∨ 0x500 ≤ o))
      ∨ (∃ o, s.offsetOf addr = some o ∧ o < 0x80 ∧ s.view (slotOfOffset o) = .host
          ∧ act = if o % 16 = 0 ∧ headerOwner (s.mergedWord o data be) = true then .post else .plain)) →
    exec (.hostWrite addr data be) s =
      .next { s with
        path := { s.path with
          host := some (.write addr data be)
          port := some { kind := .hostWrite addr data be act false, left := 10 }
          streak := 0 } })
  ∧ (∀ (s : State) (addr data : Word) (be : BitVec 4) (o : Nat) (e : Entry),
    s.Quiet → s.path.host = none → s.offsetOf addr = some o → isLive o = false → e ∈ s.path.buffer → e.offset = o →
    exec (.hostWrite addr data be) s = .next { s with path := { s.path with host := some (.write addr data be) } })

/-- A refused write (R142, R145, R146, R158): it completes, memory and every other block are as before, the refusal count
rises by one and stops at 65535, the offset is recorded, and FOREIGN_WRITE is raised. Refused in a slot that the part holds
are every body word and every header write but an abort: one to a POWER_DOWN, with owner HOST, without the abort flag, or with
another tag. Of a ring with 32 records the event is lost (R178): the lost count rises, and the first loss sets the overrun
flag and raises EVENT. The first event after space was made comes after an OVERRUN record with the lost count; where that
record fills the ring, the event is lost anew. The model's choice (log 2): byte enable k stands for bits 8k + 7 to 8k of the
word, by which a header written in part is judged. -/
def Obligations.HostWriteRefused : Prop :=
  ∀ (s : State) (addr data : Word) (be : BitVec 4) (o : Nat), s.Ready → s.offsetOf addr = some o →
    s.RefusesWrite o data be →
    (s.RingOpen →
      ∃ t, exec (.hostWrite addr data be) s = .next t ∧ s.CountsRefusal t o ∧ t.notice = s.notice
        ∧ s.Records t (foreignCode o) data (be.setWidth 32))
    ∧ (s.events.occupancy = 32 →
      ∃ t, exec (.hostWrite addr data be) s = .next t ∧ s.CountsRefusal t o ∧ t.path.buffer = []
        ∧ t.events = { s.events with lost := min 65535 (s.events.lost + 1), overrun := true }
        ∧ (s.events.overrun = true → t.notice = s.notice)
        ∧ (s.events.overrun = false → t.notice = { s.notice with pend := s.notice.pend ||| NoticeSource.event.bit }))
    ∧ (s.events.occupancy < 32 → s.events.overrun = true →
      let overrun := s.recordEntries s.clock.uptime (eventCode .overrun 0) (natWord s.events.lost) 0
      let after : State := { s with events := { s.events with p := s.events.p + 1 } }
      ∃ t, exec (.hostWrite addr data be) s = .next t ∧ s.CountsRefusal t o ∧ t.events.c = s.events.c ∧ t.events.out = []
        ∧ (s.events.occupancy < 31 →
            t.path.buffer = overrun ++ after.recordEntries s.clock.uptime (foreignCode o) data (be.setWidth 32)
              ∧ t.events.p = s.events.p + 2 ∧ t.events.lost = 0 ∧ t.events.overrun = false ∧ t.notice = s.notice)
        ∧ (s.events.occupancy = 31 →
            t.path.buffer = overrun ∧ t.events.p = s.events.p + 1 ∧ t.events.lost = 1 ∧ t.events.overrun = true
              ∧ t.notice = { s.notice with pend := s.notice.pend ||| NoticeSource.event.bit }))

/-- A write to the consumer index is forwarded, and at its classification C takes the candidate when it lies within the queued
P; else CONSUMER_BAD is raised and C stays (R144, R177). The candidate takes the enabled bytes of the low half, byte enable k
standing for bits 8k + 7 to 8k (the model's choice, log 2). A heartbeat write arms the monitor with a 2 s timer and records
the uptime; in STANDBY a disarmed monitor stays disarmed; from LOST the part leaves autonomous mode and raises HOST_BACK with
the time spent in it (R112, R114). -/
def Obligations.ToldWrites : Prop :=
  (∀ (s : State) (data : Word) (be : BitVec 4), s.Ready → s.RingOpen →
    ∃ t, exec (.hostWrite (s.addrOf 0x101) data be) s = .next t
      ∧ t.path.port = some { kind := .hostWrite (s.addrOf 0x101) data be .plain false, left := 10 }
      ∧ s.SameGround t ∧ s.SameLens t ∧ s.SameCooling t ∧ s.SameMesh t ∧ t.slots = s.slots ∧ t.notice = s.notice
      ∧ (let cand : Half :=
          (if be.getLsbD 1 then data.extractLsb' 8 8 else s.events.c.extractLsb' 8 8)
            ++ (if be.getLsbD 0 then data.extractLsb' 0 8 else s.events.c.extractLsb' 0 8)
        ((cand - s.events.c).toNat ≤ (s.events.q - s.events.c).toNat → t.events = { s.events with c := cand })
        ∧ ((s.events.q - s.events.c).toNat < (cand - s.events.c).toNat →
            s.Records t 0xC101 (cand.setWidth 32) (s.events.c.setWidth 32))))
  ∧ (∀ (s : State) (data : Word) (be : BitVec 4), s.Ready → s.RingOpen →
    ∃ t, exec (.hostWrite (s.addrOf 0x102) data be) s = .next t
      ∧ t.path.port = some { kind := .hostWrite (s.addrOf 0x102) data be .plain false, left := 10 }
      ∧ t.thermal.lastBeat = s.clock.uptime ∧ s.SameGround t ∧ s.SameMesh t ∧ t.slots = s.slots ∧ t.notice = s.notice
      ∧ (s.thermal.hb = .disarmed → s.power.mode = .standby → t.thermal.hb = .disarmed)
      ∧ ((s.thermal.hb = .disarmed ∧ s.power.mode ≠ .standby) ∨ s.thermal.hb = .armed →
          t.thermal.hb = .armed ∧ t.thermal.hbTimer = some 2000 ∧ t.events = s.events ∧ s.SameLens t ∧ t.fans = s.fans)
      ∧ (s.thermal.hb = .lost →
          t.thermal.hb = .armed ∧ t.thermal.hbTimer = some 2000
            ∧ s.Records t (eventCode .hostBack 0) (s.clock.uptime - s.thermal.lostAt) 0))

/-! ### Ends of memory cycles -/

/-- Memory answers a host cycle: a read returns the word, a write has put its enabled bytes into memory, and the access
completes; a plain slot write is merged into the shadow (R140, R143, R144, R159). No command is waiting, so an end of a memory
cycle changes nothing while the port is free (log 7). The model's choice (log 2): byte enable k stands for bits 8k + 7 to 8k
of the word, and that byte lies at the word's address plus k. -/
def Obligations.MemoryAnswers : Prop :=
  ((∀ (s : State) (addr : Word) (left : Nat), s.hold = .running → s.path.port = some { kind := .hostRead addr, left := left } →
    ∃ t, exec .memoryAnswer s = .next t ∧ t.path.host = none
      ∧ t.path.reply = some (.readData (Memory.readWord s.mem (wordBase addr)))
      ∧ s.SameGround t ∧ s.SameLens t ∧ s.SameCooling t ∧ s.SameNews t)
  ∧ (∀ (s : State) (addr data : Word) (be : BitVec 4) (superseded : Bool) (left : Nat),
    s.hold = .running → Memory.wf s.mem = true →
    s.path.port = some { kind := .hostWrite addr data be .plain superseded, left := left } →
    ∃ t, exec .memoryAnswer s = .next t ∧ t.path.host = none ∧ t.path.reply = some .writeDone
      ∧ (∀ k < 4, Memory.get t.mem (wordBase addr + k) =
          if be.getLsbD k then byteOf data k else Memory.get s.mem (wordBase addr + k))
      ∧ (∀ a, (a < wordBase addr ∨ wordBase addr + 4 ≤ a) → Memory.get t.mem a = Memory.get s.mem a)
      ∧ s.SameTime t ∧ s.SameLens t ∧ s.SameCooling t ∧ s.SameNews t
      ∧ (∀ o, s.offsetOf addr = some o → o < 0x80 → superseded = false → s.slots.queue = [] →
          ∀ k < 4, byteOf (t.shadowWord (slotOfOffset o) (wordOfOffset o)) k =
            if be.getLsbD k then byteOf data k else byteOf (s.shadowWord (slotOfOffset o) (wordOfOffset o)) k)))
  ∧ (∀ s : State, s.path.port = none → exec .memoryAnswer s = .next s ∧ exec .memoryTimeout s = .next s)

/-- A drain that memory answers has put the entry's whole word into memory (R140), and its producer is told: a completion header
raises COMPLETION (R165), the P update of a marked record raises EVENT (R176), and a selector is a flip: the generation, the
marks and the waiting list move on, and MESH is raised (R73, R76). -/
def Obligations.DrainReachesMemory : Prop :=
  ∀ (s : State) (e : Entry) (rest : List Entry) (left : Nat), s.hold = .running → Memory.wf s.mem = true →
    s.path.host = none → s.path.buffer = e :: rest → s.path.port = some { kind := .drain, left := left } →
    ∃ t, exec .memoryAnswer s = .next t
      ∧ Memory.readWord t.mem (wordBase (s.addrOf e.offset)) = e.data
      ∧ (∀ a, (a < wordBase (s.addrOf e.offset) ∨ wordBase (s.addrOf e.offset) + 4 ≤ a) →
          Memory.get t.mem a = Memory.get s.mem a)
      ∧ s.SameTime t
      ∧ (∃ more, t.path.buffer = rest ++ more)
      ∧ (e.producer = .slotHeader → t.notice = { s.notice with pend := s.notice.pend ||| NoticeSource.completion.bit })
      ∧ (e.producer = .eventWriter true → t.notice = { s.notice with pend := s.notice.pend ||| NoticeSource.event.bit })
      ∧ (e.producer = .eventWriter false ∨ e.producer = .slotBody ∨ e.producer = .meshWord → t.notice = s.notice)
      ∧ (e.producer ≠ .meshSelector → s.SameLens t ∧ s.SameCooling t)
      ∧ (∀ sn, e.producer = .meshSelector → s.mesh.snapshot = some sn →
          t.mesh.gen = sn.gen ∧ t.mesh.last = sn.params ∧ t.mesh.mark sn.bank = .selected
            ∧ (s.mesh.mark (otherBank sn.bank) = .selected → t.mesh.mark (otherBank sn.bank) = .retiring)
            ∧ t.mesh.waiting = s.mesh.waiting.filter (fun w => !reaches sn.gen w.needed)
            ∧ t.notice = { s.notice with pend := s.notice.pend ||| NoticeSource.mesh.bit })

/-- While words of its body remain to be queued or stand in the buffer, the slot unit claims no header. When the last body
word of the head completion drains, the header is queued and the slot is the host's again; when a word of the pass was
dropped, the pass begins again (R165). -/
def Obligations.HeaderAfterBody : Prop :=
  (∀ (s t : State) (c : Completion) (rest : List Completion), s.slots.queue = c :: rest →
    (0 < s.slots.writer.inBuffer ∨ s.slots.writer.queued < c.body.length) → s.slotClaim = some t →
    t.slots.queue = s.slots.queue ∧ t.slots.views = s.slots.views)
  ∧ (∀ (s : State) (e : Entry) (left : Nat) (c : Completion) (kind : BitVec 6) (tag : BitVec 8) (taken dropped : Bool),
    s.hold = .running → s.path.host = none → s.path.buffer = [e] → s.path.port = some { kind := .drain, left := left } →
    s.path.selPending = false → e.producer = .slotBody → s.slots.queue = [c] → 0 < c.body.length → c.body.length ≤ 15 →
    s.slots.writer = { queued := c.body.length, inBuffer := 1, dropped := dropped } →
    s.view c.slot = .part kind tag taken .completing →
    s.eventClaim.isNone = true → s.meshClaim.isNone = true →
    ∃ t, exec .memoryAnswer s = .next t
      ∧ (dropped = false →
          t.view c.slot = .host ∧ t.slots.queue = []
            ∧ t.shadowWord c.slot 0 = completionHeader kind tag c.body.length c.result
            ∧ t.path.buffer =
                [{ offset := slotOffset c.slot 0, data := completionHeader kind tag c.body.length c.result
                   producer := .slotHeader }])
      ∧ (dropped = true →
          t.view c.slot = s.view c.slot ∧ t.slots.queue = [c]
            ∧ t.path.buffer.map Entry.data = c.body
            ∧ t.path.buffer.map Entry.offset = (List.range c.body.length).map (fun i => slotOffset c.slot (i + 1))))

/-- A cycle that memory does not answer in 10 microseconds is ended: a read returns 0xFFFFFFFF, a write is lost, an entry is
dropped, and the mesh generator takes the selector read as no selector (R78); memory is as before, and MEMORY_TIMEOUT is
raised with the offset, the cycle kind and the byte address (R153). A selector that is dropped is queued again (R73). The
model's choices: the record of the timeout is queued before that selector (log 10), and the byte address of a host cycle is
the address as the master presented it, aligned or not (log 18). -/
def Obligations.MemoryTimeout : Prop :=
  (∀ (s : State) (addr : Word) (left : Nat), s.RingOpen → s.Awaiting (.hostRead addr) left →
    ∃ t, exec .memoryTimeout s = .next t ∧ t.mem = s.mem ∧ t.clock = (s.pass left).clock
      ∧ t.path.reply = some (.readData 0xFFFFFFFF) ∧ t.path.host = none ∧ t.slots = s.slots ∧ t.notice = s.notice
      ∧ s.Records t (timeoutCode (s.offsetOf addr)) 0 addr)
  ∧ (∀ (s : State) (addr data : Word) (be : BitVec 4) (superseded : Bool) (left : Nat), s.RingOpen →
    s.Awaiting (.hostWrite addr data be .plain superseded) left →
    ∃ t, exec .memoryTimeout s = .next t ∧ t.mem = s.mem ∧ t.clock = (s.pass left).clock
      ∧ t.path.reply = some .writeDone ∧ t.path.host = none ∧ t.notice = s.notice ∧ t.slots.views = s.slots.views
      ∧ s.Records t (timeoutCode (s.offsetOf addr)) 1 addr)
  ∧ (∀ (s : State) (e : Entry) (rest : List Entry) (left : Nat), s.hold = .running → s.RingOpen → s.RingInv →
    s.path.port = some { kind := .drain, left := left } → s.path.host = none → s.path.buffer = e :: rest →
    e.producer ≠ .meshSelector →
    ∃ t, exec .memoryTimeout s = .next t ∧ t.mem = s.mem ∧ t.clock = (s.pass left).clock
      ∧ (s.withBuffer rest).Raises t (timeoutCode (some e.offset)) 2 (s.addrOf e.offset)
      ∧ (∃ more, t.path.buffer = rest ++ more)
      ∧ (e.producer ≠ .eventWriter true → t.notice = s.notice))
  ∧ (∀ (s : State) (e : Entry) (rest : List Entry) (left : Nat) (sn : Snapshot), s.Quiet → s.RingOpen → s.RingInv →
    s.path.port = some { kind := .drain, left := left } → s.path.host = none → s.path.buffer = e :: rest →
    e.producer = .meshSelector → rest.length ≤ 10 → s.mesh.st = .flipPending → s.mesh.snapshot = some sn →
    ∃ t, exec .memoryTimeout s = .next t ∧ t.mem = s.mem ∧ t.clock = (s.pass left).clock
      ∧ t.path.buffer =
          rest ++ s.recordEntries t.clock.uptime (timeoutCode (some e.offset)) 2 (s.addrOf e.offset)
            ++ [{ offset := 0x103, data := selectorWord sn.bank sn.gen, producer := .meshSelector }]
      ∧ t.mesh.st = .flipPending ∧ t.mesh.snapshot = s.mesh.snapshot ∧ t.mesh.gen = s.mesh.gen ∧ t.notice = s.notice)
  ∧ (∀ (s : State) (left : Nat), s.hold = .running → s.RingOpen → s.RingInv →
    s.path.port = some { kind := .selector, left := left } → s.path.host = none →
    ∃ t, exec .memoryTimeout s = .next t ∧ t.mem = s.mem ∧ t.clock = (s.pass left).clock
      ∧ s.Raises t (timeoutCode (some 0x103)) 3 (s.addrOf 0x103) ∧ (∃ more, t.path.buffer = s.path.buffer ++ more)
      ∧ t.mesh.awaitRead = false ∧ t.mesh.gen = 0 ∧ t.mesh.markA = .free ∧ t.mesh.markB = .free
      ∧ t.mesh.retireTimer = none ∧ t.notice = s.notice
      ∧ (s.mesh.st = .idle → s.mesh.dirty = true →
          t.mesh.st = .building ∧ t.mesh.snapshot = some { params := s.meshParams, gen := 1, bank := .a }))

/-! ### Slots -/

/-- A post that fails the slot unit's checks ends REFUSED with an empty body, and nothing but the slot changes: a wrong length
is BAD_LENGTH, then a set abort flag and then a refused static value are BAD_VALUE (R160, R180). A post whose kind code names no
kind ends REFUSED/BAD_KIND at the end of its memory cycle, and the completion echoes the code and the tag (R160 step 1). A NOP
ends DONE/OK with an empty body and changes nothing but its slot (R162). The length and the static ranges of every kind stand in
numbers (R5, R14, R25, R31, R35, R39, R62, R63, R93, R94, R101, R107, R110, R128, R135, R162, R173, R180). -/
def Obligations.SlotUnitPosts : Prop :=
  (∀ (s : State) (kind : Kind) (p : Post) (body : List Word) (code : ResCode), s.Ready →
    p.len.toNat = body.length → s.view p.slot = .host → s.body p.slot body.length = body →
    ((lengthOk kind body = false ∧ code = .badLength)
      ∨ (lengthOk kind body = true ∧ p.abort = true ∧ code = .badValue)
      ∨ (lengthOk kind body = true ∧ p.abort = false ∧ staticOk kind body = false ∧ code = .badValue)) →
    ∃ t, exec (requestRow kind p) s = .next t ∧ s.HandsOver t kind p ∧ t.Ends kind p { cls := .refused, code := code } []
      ∧ s.SameTime t ∧ s.SameLens t ∧ s.SameCooling t ∧ s.SameMesh t ∧ s.SameNews t)
  ∧ (∀ (s : State) (k : SlotId) (data : Word) (left : Nat), s.Awaiting (.hostWrite (s.addrOf (slotOffset k 0)) data 0xF .post false) left →
    s.view k = .host → s.slots.writer = Initial.progress →
    (data.extractLsb' 24 6 = 0 ∨ 20 ≤ (data.extractLsb' 24 6).toNat) →
    ∃ t, exec .memoryAnswer s = .next t ∧ t.view k = .host ∧ t.slots.queue = []
      ∧ t.path.buffer =
          [{ offset := slotOffset k 0
             data := completionHeader (data.extractLsb' 24 6) (data.extractLsb' 16 8) 0 { cls := .refused, code := .badKind }
             producer := .slotHeader }]
      ∧ s.SameTime t ∧ s.SameLens t ∧ s.SameCooling t ∧ s.SameMesh t ∧ s.SameNews t)
  ∧ (∀ (s : State) (p : Post), s.Ready → s.Posted p [] →
    ∃ t, exec (.nop p) s = .next t ∧ s.HandsOver t .nop p ∧ t.Ends .nop p { cls := .done, code := .ok } []
      ∧ s.SameTime t ∧ s.SameLens t ∧ s.SameCooling t ∧ s.SameMesh t ∧ s.SameNews t)
  ∧ (∀ (kind : Kind) (body : List Word), lengthOk kind body = true ↔
    match kind with
    | .nop | .thermalResume | .powerUp => body.length = 0
    | .axisHome | .axisStop | .orient | .powerDown => body.length = 1
    | .axisReport | .place | .keystone | .fanFloor | .fanReport | .noticeSetup => body.length = 2
    | .axisMoveTo | .axisMoveBy => body.length = 3
    | .corners => body.length = 4
    | .thresholds => body.length = 5
    | .axisSetup =>
      2 ≤ body.length ∧ body.length = 2 + ((List.range 9).filter (fun bit => (bodyWord body 2).getLsbD bit)).length
    | .fanCurve => 4 ≤ body.length ∧ body.length = 4 + (bodyWord body 4).toNat)
  ∧ (∀ w1 w2 w3 w4 w5 : Word,
    let half (w : Word) : Int := (w.extractLsb' 0 16).toInt
    let high (w : Word) : Int := (w.extractLsb' 16 16).toInt
    let code (w : Word) : Prop := -80 ≤ w.toInt ∧ w.toInt ≤ 300
    let corner (w : Word) : Prop := -240 ≤ half w ∧ half w ≤ 240 ∧ -180 ≤ high w ∧ high w ≤ 180
    (staticOk .nop [] = true ∧ staticOk .thermalResume [] = true ∧ staticOk .powerUp [] = true)
      ∧ (staticOk .axisHome [w1] = true ↔ w1.toNat ≤ 1)
      ∧ (staticOk .axisMoveTo [w1, w2, w3] = true ↔ w1.toNat ≤ 1 ∧ w3.toNat ≤ 2)
      ∧ (staticOk .axisMoveBy [w1, w2, w3] = true ↔ w1.toNat ≤ 1 ∧ w3.toNat ≤ 2)
      ∧ (staticOk .axisStop [w1] = true ↔ w1.toNat ≤ 1)
      ∧ (staticOk .axisReport [w1, w2] = true ↔ w1.toNat ≤ 1 ∧ w2.toNat ≤ 1)
      ∧ (staticOk .place [w1, w2] = true ↔
          -1920 ≤ w1.toInt ∧ w1.toInt ≤ 1920 ∧ -1080 ≤ w2.toInt ∧ w2.toInt ≤ 1080)
      ∧ (staticOk .keystone [w1, w2] = true ↔ -240 ≤ w1.toInt ∧ w1.toInt ≤ 240 ∧ -180 ≤ w2.toInt ∧ w2.toInt ≤ 180)
      ∧ (staticOk .corners [w1, w2, w3, w4] = true ↔ corner w1 ∧ corner w2 ∧ corner w3 ∧ corner w4)
      ∧ (staticOk .orient [w1] = true ↔ w1.toNat ≤ 1)
      ∧ (staticOk .thresholds [w1, w2, w3, w4, w5] = true ↔
          w1.toNat ≤ 3 ∧ code w2 ∧ code w3 ∧ code w4 ∧ w2.toInt < w3.toInt ∧ w3.toInt < w4.toInt
            ∧ 2 ≤ w5.toNat ∧ w5.toNat ≤ 40)
      ∧ (staticOk .fanFloor [w1, w2] = true ↔ w1.toNat ≤ 2 ∧ w2.toNat ≤ 100)
      ∧ (staticOk .fanReport [w1, w2] = true ↔ w1.toNat ≤ 2 ∧ w2.toNat ≤ 1)
      ∧ (staticOk .powerDown [w1] = true ↔ w1.toNat ≤ 1)
      ∧ (staticOk .noticeSetup [w1, w2] = true ↔ w1.toNat ≤ 255 ∧ w2.toNat ≤ 240 ∧ w2.toNat % 16 = 0)
      ∧ ∀ points : List Word,
          staticOk .fanCurve (w1 :: w2 :: w3 :: w4 :: points) = true ↔
            w1.toNat ≤ 1 ∧ w2.toNat ≤ 2 ∧ w3.toNat ≤ 3 ∧ 1 ≤ w4.toNat ∧ w4.toNat ≤ 8
              ∧ (∀ w ∈ points, -80 ≤ half w ∧ half w ≤ 300 ∧ (w.extractLsb' 16 16).toNat ≤ 100)
              ∧ (points.map half).Pairwise (fun x y => x < y))
  ∧ (∀ body : List Word, lengthOk .axisSetup body = true →
    (staticOk .axisSetup body = true ↔
      (bodyWord body 1).toNat ≤ 1 ∧ (bodyWord body 2).toNat < 512
        ∧ ((bodyWord body 2).getLsbD 8 = true → bodyWord body 1 = 1)
        ∧ ∀ bit, bit < 9 → (bodyWord body 2).getLsbD bit = true → SetupFieldInRange bit (setupWord body bit)))

/-- An abort whose tag matches (R158, R163, R164): a request on an axis queue leaves it and ends ENDED/ABORTED with the
position; a running one is stopped with the result ABORTED when its result is unset. An abort of a request on the mesh
generator's waiting list takes it off the list and ends it ENDED/ABORTED with G; the parameters stay (R77). An abort of a
waiting AXIS_STOP ends it ENDED/ABORTED, and the stop goes on (R54). An abort of the placement unit's reference fails the
placement: in MOVING its moves are stopped and the reference stays while one runs, in APPLYING it ends ENDED/ABORTED at once,
and in FAILED nothing changes (R12). An abort of a request that is being completed, whatever stands on the completion queue,
and a second abort reach the header word and change nothing else. -/
def Obligations.Aborts : Prop :=
  (∀ (s : State) (code kind : BitVec 6) (p : Post) (a : AxisId), s.Ready → kind ≠ 17 →
    (s.view p.slot = .part kind p.tag false (.axisQueue a) →
      ∃ t, exec (.abort code p) s = .next t ∧ s.TakesHeader t p.slot (postHeader code { p with abort := true })
        ∧ t.slots.queue = [{ slot := p.slot, result := { cls := .ended, code := .aborted }, body := [(s.axis a).counter] }]
        ∧ t.view p.slot = .part kind p.tag true .completing
        ∧ t.axis a = { s.axis a with queue := (s.axis a).queue.filter (fun q => decide (q.slot ≠ p.slot)) }
        ∧ t.axis (otherAxis a) = s.axis (otherAxis a)
        ∧ t.placement = s.placement ∧ s.SameTime t ∧ s.SameCooling t ∧ s.SameMesh t ∧ s.SameNews t)
    ∧ (∀ m, s.view p.slot = .part kind p.tag false (.axisRunning a) → (s.axis a).st.active = true →
        (s.axis a).move = some m →
      ∃ t, exec (.abort code p) s = .next t ∧ s.TakesHeader t p.slot (postHeader code { p with abort := true })
        ∧ t.slots.queue = [] ∧ t.view p.slot = .part kind p.tag true (.axisRunning a)
        ∧ s.Stopped t a .aborted
        ∧ (s.axis (otherAxis a)).SameButDrive (t.axis (otherAxis a))
        ∧ t.placement = s.placement ∧ s.SameTime t ∧ s.SameCooling t ∧ s.SameMesh t ∧ s.SameNews t)
    ∧ (s.view p.slot = .part kind p.tag false (.stopWait a) →
      ∃ t, exec (.abort code p) s = .next t ∧ s.TakesHeader t p.slot (postHeader code { p with abort := true })
        ∧ t.slots.queue = [{ slot := p.slot, result := { cls := .ended, code := .aborted }, body := [(s.axis a).counter] }]
        ∧ t.axis a = { s.axis a with stopWait := (s.axis a).stopWait.filter (fun q => decide (q ≠ p.slot)) }
        ∧ t.axis (otherAxis a) = s.axis (otherAxis a)
        ∧ t.placement = s.placement ∧ s.SameTime t ∧ s.SameCooling t ∧ s.SameMesh t ∧ s.SameNews t))
  ∧ (∀ (s : State) (code kind : BitVec 6) (p : Post), s.Ready → kind ≠ 17 →
    s.view p.slot = .part kind p.tag false .meshWait →
    ∃ t, exec (.abort code p) s = .next t ∧ s.TakesHeader t p.slot (postHeader code { p with abort := true })
      ∧ t.slots.queue = [{ slot := p.slot, result := { cls := .ended, code := .aborted }, body := [s.mesh.gen.setWidth 32] }]
      ∧ t.view p.slot = .part kind p.tag true .completing
      ∧ t.mesh = { s.mesh with waiting := s.mesh.waiting.filter (fun w => decide (w.slot ≠ p.slot)) }
      ∧ s.SameTime t ∧ s.SameLens t ∧ s.SameCooling t ∧ s.SameNews t)
  ∧ (∀ (s : State) (code kind : BitVec 6) (p : Post), s.Ready → kind ≠ 17 →
    s.view p.slot = .part kind p.tag false .placement → s.placement.ref = some p.slot →
    (s.placement.status = .moving → s.anyPlacementMove = true →
      ∃ t, exec (.abort code p) s = .next t ∧ s.TakesHeader t p.slot (postHeader code { p with abort := true })
        ∧ t.placement = { s.placement with status := .failed, firstFailure := some .aborted }
        ∧ t.slots.queue = [] ∧ t.view p.slot = .part kind p.tag true .placement
        ∧ (∀ a, (s.axis a).runsPlacement = true → (s.axis a).st.active = true → s.Stopped t a .stopped)
        ∧ (∀ a, ¬ ((s.axis a).runsPlacement = true ∧ (s.axis a).st.active = true) → (s.axis a).SameButDrive (t.axis a))
        ∧ s.SameTime t ∧ s.SameCooling t ∧ s.SameMesh t ∧ s.SameNews t)
    ∧ (s.placement.status = .applying →
      ∃ t, exec (.abort code p) s = .next t ∧ s.TakesHeader t p.slot (postHeader code { p with abort := true })
        ∧ t.placement = { s.placement with status := .failed, ref := none }
        ∧ t.slots.queue =
            [{ slot := p.slot
               result := { cls := .ended, code := .aborted }
               body := [s.axes.h.counter, s.axes.v.counter] }]
        ∧ t.view p.slot = .part kind p.tag true .completing
        ∧ t.axes = s.axes ∧ t.budget = s.budget ∧ s.SameTime t ∧ s.SameCooling t ∧ s.SameMesh t ∧ s.SameNews t)
    ∧ (s.placement.status = .failed →
      ∃ t, exec (.abort code p) s = .next t ∧ s.TakesHeader t p.slot (postHeader code { p with abort := true })
        ∧ t.slots.queue = [] ∧ t.view p.slot = .part kind p.tag true .placement
        ∧ s.SameTime t ∧ s.SameLens t ∧ s.SameCooling t ∧ s.SameMesh t ∧ s.SameNews t))
  ∧ (∀ (s : State) (code kind : BitVec 6) (p : Post) (taken : Bool) (h : Holder) (left : Nat),
    s.HeaderOnTheWay p.slot (postHeader code { p with abort := true }) .abort left →
    s.view p.slot = .part kind p.tag taken h → (taken = true ∨ h = .completing) →
    ∃ t, exec (.abort code p) s = .next t ∧ s.TakesHeader t p.slot (postHeader code { p with abort := true })
      ∧ t.view p.slot = .part kind p.tag true h ∧ (∀ k, k ≠ p.slot → t.view k = s.view k)
      ∧ t.slots.queue = s.slots.queue ∧ t.path.buffer = s.path.buffer ∧ t.events = s.events
      ∧ s.SameTime t ∧ s.SameLens t ∧ s.SameCooling t ∧ s.SameMesh t ∧ t.notice = s.notice)

/-! ### Requests of the axes -/

/-- A home that may start on an axis at rest starts (R25): HOMING, HOMED clear, the 12 s search timer, the young end of the
budget order at CREEP; a settled or failed placement is detached (R13). -/
def Obligations.HomeStarts : Prop :=
  ∀ (s : State) (p : Post) (a : AxisId), s.Ready → s.Posted p [axisWord a] → s.FreeToMove →
    (s.axis a).st = .idle → s.placementHeld = false → (s.axis a).indexCondition = false →
    ∃ t, exec (.axisHome p) s = .next t ∧ s.HandsOver t .axisHome p
      ∧ t.view p.slot = .part 2 p.tag false (.axisRunning a) ∧ t.slots.queue = []
      ∧ (t.axis a).st = .homing ∧ (t.axis a).homed = false ∧ (t.axis a).searchTimer = some 12000
      ∧ (t.axis a).counter = (s.axis a).counter
      ∧ (∃ m, (t.axis a).move = some m ∧ m.Fresh .home (some p.slot) (s.axis a).target .creep
          ∧ m.origin = (s.axis a).counter)
      ∧ t.budget.order = s.budget.order.filter (fun b => decide (b ≠ a)) ++ [a] ∧ t.budget.desire.get a = .creep
      ∧ (s.axis (otherAxis a)).SameButDrive (t.axis (otherAxis a))
      ∧ (s.placement.status = .settled ∨ s.placement.status = .failed → t.placement.status = .detached)
      ∧ (s.placement.status = .detached → t.placement = s.placement)
      ∧ s.SameTime t ∧ s.SameCooling t ∧ s.SameMesh t ∧ s.SameNews t

/-- A direct move that may start on a homed axis at rest starts (R42, R43): AXIS_MOVE_TO to its target, AXIS_MOVE_BY to the
position plus its delta. -/
def Obligations.DirectMoveStarts : Prop :=
  ∀ (s : State) (p : Post) (a : AxisId) (w : Word) (limit : Machine.Class) (kind : Kind) (target : Int), s.Ready →
    s.Posted p [axisWord a, w, limitWord limit] → limit ≠ .zero → s.FreeToMove →
    ((kind = .axisMoveTo ∧ target = w.toInt) ∨ (kind = .axisMoveBy ∧ target = (s.axis a).counter.toInt + w.toInt)) →
    (s.axis a).st = .idle → (s.axis a).homed = true → s.placementHeld = false →
    (s.axis a).cfg.limits.1 ≤ target → target ≤ (s.axis a).cfg.limits.2 →
    ∃ t, exec (requestRow kind p) s = .next t ∧ s.HandsOver t kind p
      ∧ t.view p.slot = .part kind.number p.tag false (.axisRunning a) ∧ t.slots.queue = []
      ∧ (t.axis a).st = .moving ∧ (t.axis a).target = target ∧ (t.axis a).counter = (s.axis a).counter
      ∧ (t.axis a).homed = true
      ∧ (∃ m, (t.axis a).move = some m ∧ m.Fresh .directMove (some p.slot) target limit)
      ∧ t.budget.order = s.budget.order.filter (fun b => decide (b ≠ a)) ++ [a]
      ∧ (s.axis (otherAxis a)).SameButDrive (t.axis (otherAxis a))
      ∧ (s.placement.status = .settled ∨ s.placement.status = .failed → t.placement.status = .detached)
      ∧ (s.placement.status = .detached → t.placement = s.placement)
      ∧ s.SameTime t ∧ s.SameCooling t ∧ s.SameMesh t ∧ s.SameNews t

/-- A direct request that does not start: while the placement unit holds a reference it ends REFUSED/PLACEMENT_BUSY (R40);
behind a running move it joins the axis queue; at rest the first failed check of R42 refuses it. A refusal has the position as
its body. -/
def Obligations.DirectRequestWaitsOrIsRefused : Prop :=
  ∀ (s : State) (p : Post) (a : AxisId) (kind : Kind) (w : Word) (limit : Machine.Class) (body : List Word) (req : DirectReq)
      (target : Option Int), s.Ready → s.Posted p body → limit ≠ .zero →
    ((kind = .axisHome ∧ body = [axisWord a] ∧ req = .home ∧ target = none)
      ∨ (kind = .axisMoveTo ∧ body = [axisWord a, w, limitWord limit] ∧ req = .moveTo w.toInt limit
          ∧ target = some w.toInt)
      ∨ (kind = .axisMoveBy ∧ body = [axisWord a, w, limitWord limit] ∧ req = .moveBy w.toInt limit
          ∧ target = some ((s.axis a).counter.toInt + w.toInt))) →
    (s.placementHeld = false → (s.axis a).st ≠ .idle → (s.axis a).st ≠ .fault →
      ∃ t, exec (requestRow kind p) s = .next t ∧ s.HandsOver t kind p
        ∧ t.view p.slot = .part kind.number p.tag false (.axisQueue a) ∧ t.slots.queue = []
        ∧ t.axis a = { s.axis a with queue := (s.axis a).queue ++ [{ slot := p.slot, req := req }] }
        ∧ t.axis (otherAxis a) = s.axis (otherAxis a) ∧ t.placement = s.placement
        ∧ s.SameTime t ∧ s.SameCooling t ∧ s.SameMesh t ∧ s.SameNews t)
    ∧ (∀ code : ResCode,
      ((s.placementHeld = true ∧ code = .placementBusy)
        ∨ (s.placementHeld = false ∧ ((s.axis a).st = .idle ∨ (s.axis a).st = .fault)
            ∧ ((s.power.mode ≠ .run ∧ code = .powerState)
              ∨ (s.power.mode = .run ∧ s.thermal.hb = .lost ∧ code = .hostLost)
              ∨ (s.power.mode = .run ∧ s.thermal.hb ≠ .lost ∧ s.pins.interlock = true ∧ code = .interlocked)
              ∨ (s.power.mode = .run ∧ s.thermal.hb ≠ .lost ∧ s.pins.interlock = false ∧ s.thermal.overall = .critical
                  ∧ code = .thermalBlock)
              ∨ (s.FreeToMove ∧ (s.axis a).st = .fault ∧ code = .axisFaulted)
              ∨ (s.FreeToMove ∧ (s.axis a).st = .idle ∧ target ≠ none ∧ (s.axis a).homed = false ∧ code = .notHomed)
              ∨ (s.FreeToMove ∧ (s.axis a).st = .idle ∧ (s.axis a).homed = true ∧ code = .outOfRange
                  ∧ ∃ x, target = some x ∧ (x < (s.axis a).cfg.limits.1 ∨ (s.axis a).cfg.limits.2 < x))))) →
      ∃ t, exec (requestRow kind p) s = .next t ∧ s.HandsOver t kind p
        ∧ t.Ends kind p { cls := .refused, code := code } [(s.axis a).counter]
        ∧ s.SameTime t ∧ s.SameLens t ∧ s.SameCooling t ∧ s.SameMesh t ∧ s.SameNews t)

/-- AXIS_STOP (R54): requests on the queue end ENDED/ABORTED, head first. At rest the stop then ends DONE/OK with the position;
a move that is running is stopped with the result STOPPED, and the stop waits for the axis to reach IDLE. -/
def Obligations.AxisStop : Prop :=
  ∀ (s : State) (p : Post) (a : AxisId), s.Ready → s.Posted p [axisWord a] → (s.axis a).pendingPark = false →
    ((s.axis a).st = .idle ∨ (s.axis a).st = .fault →
      ∃ t, exec (.axisStop p) s = .next t ∧ s.HandsOver t .axisStop p
        ∧ t.slots.queue =
            (s.axis a).queue.map (fun q =>
                { slot := q.slot, result := { cls := .ended, code := .aborted }, body := [(s.axis a).counter] })
              ++ [{ slot := p.slot, result := { cls := .done, code := .ok }, body := [(s.axis a).counter] }]
        ∧ t.axis a = { s.axis a with queue := [] } ∧ t.axis (otherAxis a) = s.axis (otherAxis a)
        ∧ t.placement = s.placement ∧ s.SameTime t ∧ s.SameCooling t ∧ s.SameMesh t ∧ s.SameNews t)
    ∧ (∀ m, (s.axis a).st.active = true → (s.axis a).move = some m →
      ∃ t, exec (.axisStop p) s = .next t ∧ s.HandsOver t .axisStop p
        ∧ t.slots.queue =
            (s.axis a).queue.map (fun q =>
              { slot := q.slot, result := { cls := .ended, code := .aborted }, body := [(s.axis a).counter] })
        ∧ t.view p.slot = .part 5 p.tag false (.stopWait a)
        ∧ (t.axis a).st = .stopping ∧ (t.axis a).drive.duty = 0 ∧ (t.axis a).queue = []
        ∧ (t.axis a).stopWait = (s.axis a).stopWait ++ [p.slot]
        ∧ (∃ n, (t.axis a).move = some n ∧ n.owner = m.owner
            ∧ n.result = some (m.result.getD { cls := .ended, code := .stopped }))
        ∧ (s.axis (otherAxis a)).SameButDrive (t.axis (otherAxis a))
        ∧ t.placement = s.placement ∧ s.SameTime t ∧ s.SameCooling t ∧ s.SameMesh t ∧ s.SameNews t)

/-- AXIS_REPORT (R35) ends DONE/OK with the seven words of the axis; with the clear flag it also zeroes the noise counts and
brings an axis in FAULT, with nothing waiting on it, back to IDLE. -/
def Obligations.AxisReport : Prop :=
  ∀ (s : State) (p : Post) (a : AxisId) (clear : Bool), s.Ready → s.Posted p [axisWord a, natWord (boolNat clear)] →
    (s.axis a).queue = [] → (s.axis a).pendingPark = false →
    ∃ t, exec (.axisReport p) s = .next t ∧ s.HandsOver t .axisReport p
      ∧ t.Ends .axisReport p { cls := .done, code := .ok }
          [s.axisStateWord a, natWord (boolNat (s.axis a).homed), (s.axis a).counter, signedWord (s.axis a).target,
            natWord (s.axis a).rejected, natWord (s.axis a).phaseErrors,
            natWord (match (s.axis a).faultCode with
              | .none => 0xFF
              | .stall => 19)]
      ∧ (clear = false → t.axes = s.axes)
      ∧ (clear = true → (s.axis a).st ≠ .fault → t.axis a = { s.axis a with rejected := 0, phaseErrors := 0 })
      ∧ (clear = true → (s.axis a).st = .fault →
          t.axis a = { s.axis a with rejected := 0, phaseErrors := 0, st := .idle, faultCode := .none })
      ∧ t.axis (otherAxis a) = s.axis (otherAxis a)
      ∧ t.placement = s.placement ∧ t.budget = s.budget ∧ s.SameTime t ∧ s.SameCooling t ∧ s.SameMesh t ∧ s.SameNews t

/-- AXIS_SETUP (R32, R33): an axis that is moving, has requests queued, or is held by the placement unit refuses it; else the
candidate replaces the configuration when it is valid as a whole, and a changed encoder or home value clears HOMED. A change of
the encoder, the home value, the limits, or the gain and center detaches a settled or failed placement (R13, R33). The candidate
is the configuration in force with each present field replaced by its word (R31, 12.4), and the check of the whole is R32's. -/
def Obligations.AxisSetup : Prop :=
  (∀ (s : State) (p : Post) (a : AxisId) (body : List Word), s.Ready → s.Posted p body →
    lengthOk .axisSetup body = true → staticOk .axisSetup body = true → axisOfWord (bodyWord body 1) = a →
    ((((s.axis a).st ≠ .idle ∧ (s.axis a).st ≠ .fault) ∨ (s.axis a).queue ≠ [] ∨ s.placementHeld = true) →
      ∃ t, exec (.axisSetup p) s = .next t ∧ s.HandsOver t .axisSetup p
        ∧ t.Ends .axisSetup p { cls := .refused, code := .axisBusy } []
        ∧ s.SameTime t ∧ s.SameLens t ∧ s.SameCooling t ∧ s.SameMesh t ∧ s.SameNews t)
    ∧ (((s.axis a).st = .idle ∨ (s.axis a).st = .fault) → (s.axis a).queue = [] → s.placementHeld = false →
      ((setupCandidate (s.axis a).cfg body).valid = false →
        ∃ t, exec (.axisSetup p) s = .next t ∧ s.HandsOver t .axisSetup p
          ∧ t.Ends .axisSetup p { cls := .refused, code := .badValue } []
          ∧ s.SameTime t ∧ s.SameLens t ∧ s.SameCooling t ∧ s.SameMesh t ∧ s.SameNews t)
      ∧ ((setupCandidate (s.axis a).cfg body).valid = true →
        ∃ t, exec (.axisSetup p) s = .next t ∧ s.HandsOver t .axisSetup p
          ∧ t.Ends .axisSetup p { cls := .done, code := .ok }
              [natWord (bitsNat ((s.axis a).cfg.changes (setupCandidate (s.axis a).cfg body)))]
          ∧ (t.axis a).cfg = setupCandidate (s.axis a).cfg body
          ∧ (t.axis a).homed =
              ((s.axis a).homed && decide ((t.axis a).cfg.encoder = (s.axis a).cfg.encoder)
                && decide ((t.axis a).cfg.homeValue = (s.axis a).cfg.homeValue))
          ∧ t.axis a = { s.axis a with cfg := (t.axis a).cfg, homed := (t.axis a).homed }
          ∧ t.axis (otherAxis a) = s.axis (otherAxis a) ∧ t.budget = s.budget
          ∧ (s.placement.status = .detached → t.placement = s.placement)
          ∧ (let detaches : Prop :=
              (t.axis a).cfg.encoder ≠ (s.axis a).cfg.encoder ∨ (t.axis a).cfg.homeValue ≠ (s.axis a).cfg.homeValue
                ∨ (t.axis a).cfg.limits ≠ (s.axis a).cfg.limits ∨ (t.axis a).cfg.gainCenter ≠ (s.axis a).cfg.gainCenter
            (detaches → s.placement.status = .settled ∨ s.placement.status = .failed →
                t.placement = { s.placement with status := .detached, ref := t.placement.ref })
              ∧ (¬ detaches → t.placement = s.placement))
          ∧ s.SameTime t ∧ s.SameCooling t ∧ s.SameMesh t ∧ s.SameNews t)))
  ∧ (∀ (c : AxisCfg) (body : List Word), lengthOk .axisSetup body = true →
    let set (bit : Nat) : Bool := (bodyWord body 2).getLsbD bit
    let w := setupWord body
    (setupCandidate c body).encoder = (if set 0 then encoderOfWord (w 0) else c.encoder)
      ∧ (setupCandidate c body).homeValue = (if set 1 then (w 1).toInt else c.homeValue)
      ∧ (setupCandidate c body).limits =
          (if set 2 then (((w 2).extractLsb' 0 16).toInt, ((w 2).extractLsb' 16 16).toInt) else c.limits)
      ∧ (setupCandidate c body).span = (if set 3 then (w 3).toNat else c.span)
      ∧ (setupCandidate c body).bands =
          (if set 4 then
            (((w 4).extractLsb' 0 16).toNat, ((w 4).extractLsb' 16 8).toNat, ((w 4).extractLsb' 24 8).toNat)
          else c.bands)
      ∧ (setupCandidate c body).gainCenter =
          (if set 5 then (((w 5).extractLsb' 0 8).toNat, ((w 5).extractLsb' 16 16).toInt) else c.gainCenter)
      ∧ (setupCandidate c body).park = (if set 6 then (w 6).toInt else c.park)
      ∧ (setupCandidate c body).primary =
          (if set 7 then
            { far := ((w 7).extractLsb' 0 8).toNat
              near := ((w 7).extractLsb' 8 8).toNat
              creep := ((w 7).extractLsb' 16 8).toNat }
          else c.primary)
      ∧ (setupCandidate c body).lift =
          (if set 8 then
            some
              { far := ((w 8).extractLsb' 0 8).toNat
                near := ((w 8).extractLsb' 8 8).toNat
                creep := ((w 8).extractLsb' 16 8).toNat }
          else c.lift))
  ∧ (∀ w : Word,
    (w.extractLsb' 0 2 = 1 → (encoderOfWord w).mode = .x1) ∧ (w.extractLsb' 0 2 = 2 → (encoderOfWord w).mode = .x2)
      ∧ (w.extractLsb' 0 2 = 3 → (encoderOfWord w).mode = .x4)
      ∧ (w.extractLsb' 2 2 = 0 → (encoderOfWord w).filter = 0) ∧ (w.extractLsb' 2 2 = 1 → (encoderOfWord w).filter = 1)
      ∧ (w.extractLsb' 2 2 = 2 → (encoderOfWord w).filter = 2) ∧ (w.extractLsb' 2 2 = 3 → (encoderOfWord w).filter = 4)
      ∧ (encoderOfWord w).phaseA = w.getLsbD 4 ∧ (encoderOfWord w).phaseB = w.getLsbD 5
      ∧ (encoderOfWord w).homePositive = w.getLsbD 6)
  ∧ (∀ c : AxisCfg, c.valid = true ↔
    c.limits.1 < c.limits.2 ∧ c.limits.1 ≤ c.homeValue ∧ c.homeValue ≤ c.limits.2
      ∧ c.limits.1 ≤ c.park ∧ c.park ≤ c.limits.2 ∧ c.bands.2.1 < c.bands.1 ∧ c.bands.2.2 < c.bands.2.1
      ∧ c.primary.creep ≤ c.primary.near ∧ c.primary.near ≤ c.primary.far
      ∧ ∀ d, c.lift = some d → d.creep ≤ d.near ∧ d.near ≤ d.far)

/-! ### Requests of placement and mesh -/

/-- PLACE on two axes at rest, all checks of R6 passed (R4, R7, R8): the record takes the split, an axis outside its deadband
starts a placement move at FAR, one inside it counts as settled, and with both inside the apply begins at once. PLACE refused by
the first failed check of R6, 1 to 10, with an empty body and nothing changed but its slot. A PLACE taken while an earlier PLACE
runs ends that one ENDED/SUPERSEDED with the positions (R11): a running placement move is retargeted in place (R58), an axis at
rest is taken as at a start. The split of a requested value (R3, R4): the optical part moves the axis by whole gains from its
center to a target within the limits, no whole number of pixels within the limits is nearer to the request, the rest is the
remainder, and it fails when no whole number of pixels lies within the limits. -/
def Obligations.PlaceAnswers : Prop :=
  ((∀ (s : State) (p : Post) (w1 w2 : Word) (sp : Split), s.Ready → s.Posted p [w1, w2] →
    staticOk .place [w1, w2] = true → s.FreeToMove → s.placementRuns = false →
    (∀ a, (s.axis a).st = .idle ∧ (s.axis a).homed = true ∧ (s.axis a).move = none ∧ (s.axis a).queue = []) →
    s.split s.placement.orientation w1.toInt w2.toInt = some sp →
    meshValid (s.splitMesh s.placement.orientation sp) = true →
    ∃ t, exec (.place p) s = .next t ∧ s.HandsOver t .place p
      ∧ t.view p.slot = .part 8 p.tag false .placement ∧ t.slots.queue = []
      ∧ t.placement.reqX = w1.toInt ∧ t.placement.reqY = w2.toInt
      ∧ t.HoldsSplit s.placement.orientation sp p.slot ∧ t.placement.firstFailure = none ∧ t.placement.noisy = false
      ∧ (∀ a, s.TakesAxis t a) ∧ t.AppliesWhenSettled
      ∧ s.SameTime t ∧ s.SameCooling t ∧ s.SameNews t)
  ∧ (∀ (s : State) (p : Post) (w1 w2 : Word) (code : ResCode), s.Ready → s.Posted p [w1, w2] →
    staticOk .place [w1, w2] = true →
    (s.PlaceRefusal code
      ∨ (s.FreeToMove ∧ (∀ a, (s.axis a).st ≠ .fault ∧ (s.axis a).homed = true) ∧ s.placementRuns = true
          ∧ (∃ k tag taken, s.placement.ref = some k ∧ s.view k = .part 11 tag taken .placement)
          ∧ code = .placementBusy)
      ∨ (s.MayPlace ∧ (∃ a, (s.axis a).Busy) ∧ code = .axisBusy)
      ∨ (s.MayPlace ∧ (∀ a, ¬ (s.axis a).Busy)
          ∧ s.split s.placement.orientation w1.toInt w2.toInt = none ∧ code = .outOfRange)
      ∨ (s.MayPlace ∧ (∀ a, ¬ (s.axis a).Busy)
          ∧ (∃ sp, s.split s.placement.orientation w1.toInt w2.toInt = some sp
              ∧ meshValid (s.splitMesh s.placement.orientation sp) = false)
          ∧ code = .meshLimit)) →
    ∃ t, exec (.place p) s = .next t ∧ s.HandsOver t .place p ∧ t.Ends .place p { cls := .refused, code := code } []
      ∧ s.SameTime t ∧ s.SameLens t ∧ s.SameCooling t ∧ s.SameMesh t ∧ s.SameNews t))
  ∧ (∀ (s : State) (p : Post) (w1 w2 : Word) (sp : Split) (k : SlotId) (tag : BitVec 8) (taken : Bool), s.Ready →
    s.Posted p [w1, w2] → staticOk .place [w1, w2] = true → s.MayPlace → (∀ a, ¬ (s.axis a).Busy) →
    s.placementRuns = true → s.placement.ref = some k → s.view k = .part 8 tag taken .placement →
    s.split s.placement.orientation w1.toInt w2.toInt = some sp →
    meshValid (s.splitMesh s.placement.orientation sp) = true →
    ∃ t, exec (.place p) s = .next t ∧ s.HandsOver t .place p
      ∧ t.view p.slot = .part 8 p.tag false .placement ∧ t.view k = .part 8 tag taken .completing
      ∧ t.slots.queue =
          [{ slot := k
             result := { cls := .ended, code := .superseded }
             body := [s.axes.h.counter, s.axes.v.counter] }]
      ∧ t.placement.reqX = w1.toInt ∧ t.placement.reqY = w2.toInt
      ∧ t.HoldsSplit s.placement.orientation sp p.slot ∧ t.placement.firstFailure = none ∧ t.placement.noisy = false
      ∧ (∀ a m, (s.axis a).move = some m → m.kind = .placement →
          ((s.axis a).st = .moving ∨ (s.axis a).st = .settling) →
          (t.axis a).st = (s.axis a).st ∧ (t.axis a).target = t.placement.targets.get a
            ∧ (t.axis a).move =
                some
                  { m with
                    target := t.placement.targets.get a, corrections := 0, tally := 0, noiseReported := false }
            ∧ t.placement.settled.get a = false)
      ∧ (∀ a, (s.axis a).st = .idle → s.TakesAxis t a) ∧ t.AppliesWhenSettled
      ∧ s.SameTime t ∧ s.SameCooling t ∧ s.SameNews t)
  ∧ (∀ (c : AxisCfg) (q : Int) (sp : AxisSplit), 0 < c.gainCenter.1 → splitAxis c q = some sp →
    sp.optical + sp.remainder = q ∧ sp.target = c.gainCenter.2 + sp.optical * c.gainCenter.1
      ∧ c.limits.1 ≤ sp.target ∧ sp.target ≤ c.limits.2
      ∧ ∀ o : Int, c.limits.1 ≤ c.gainCenter.2 + o * c.gainCenter.1 → c.gainCenter.2 + o * c.gainCenter.1 ≤ c.limits.2 →
          (q - sp.optical).natAbs ≤ (q - o).natAbs)
  ∧ (∀ (c : AxisCfg) (q : Int), 0 < c.gainCenter.1 → splitAxis c q = none →
    ∀ o : Int, c.gainCenter.2 + o * c.gainCenter.1 < c.limits.1 ∨ c.limits.2 < c.gainCenter.2 + o * c.gainCenter.1)
  ∧ (∀ (s : State) (o : Orientation) (x y : Int) (sp : Split), s.split o x y = some sp →
    splitAxis s.axes.h.cfg (if o = .floor then x else -x) = some sp.h
      ∧ splitAxis s.axes.v.cfg (if o = .floor then y else -y) = some sp.v
      ∧ sp.remX o = (if o = .floor then sp.h.remainder else -sp.h.remainder)
      ∧ sp.remY o = (if o = .floor then sp.v.remainder else -sp.v.remainder)
      ∧ s.splitMesh o sp =
          { corners := s.mesh.corners, translation := { dx := sp.remX o, dy := -sp.remY o }, orientation := o })

/-- ORIENT (R14): to the orientation in force it ends DONE/ALREADY; while a placement runs it ends REFUSED/PLACEMENT_BUSY; in
DETACHED or FAILED the new orientation comes into force and the request waits for the mesh. In SETTLED it re-runs the split of
the same request under the new orientation (R15): refused by the first failed check of R6, 1 to 6 and 8 to 10, with nothing
changed but its slot; else the new orientation comes into force, the axes are taken as at a PLACE, and the mesh is built anew.
The model's choices: to the orientation in force it ends DONE/ALREADY in every status, also while a placement runs (log 42);
where no axis has to travel, the build is taken for the new orientation before the apply, with the translation applied until
then (log 15). -/
def Obligations.Orient : Prop :=
  ∀ (s : State) (p : Post) (o : Orientation), s.Ready → s.Posted p [orientationWord o] →
    (o = s.placement.orientation →
      ∃ t, exec (.orient p) s = .next t ∧ s.HandsOver t .orient p ∧ t.Ends .orient p { cls := .done, code := .already } []
        ∧ s.SameTime t ∧ s.SameLens t ∧ s.SameCooling t ∧ s.SameMesh t ∧ s.SameNews t)
    ∧ (o ≠ s.placement.orientation → s.placementRuns = true →
      ∃ t, exec (.orient p) s = .next t ∧ s.HandsOver t .orient p
        ∧ t.Ends .orient p { cls := .refused, code := .placementBusy } []
        ∧ s.SameTime t ∧ s.SameLens t ∧ s.SameCooling t ∧ s.SameMesh t ∧ s.SameNews t)
    ∧ (o ≠ s.placement.orientation → s.placement.status = .detached ∨ s.placement.status = .failed →
      ∃ t, exec (.orient p) s = .next t ∧ s.HandsOver t .orient p
        ∧ t.view p.slot = .part 11 p.tag false .meshWait ∧ t.slots.queue = []
        ∧ t.placement = { s.placement with orientation := o }
        ∧ t.mesh.waiting = s.mesh.waiting ++ [{ slot := p.slot, needed := s.mesh.neededGen }]
        ∧ t.mesh.gen = s.mesh.gen ∧ t.mesh.corners = s.mesh.corners ∧ t.mesh.applied = s.mesh.applied
        ∧ (∀ f, s.power.mode ≠ .standby → (s.fan f).commanded ≤ (t.fan f).commanded)
        ∧ t.thermal = s.thermal ∧ t.power = s.power ∧ s.AxesSameButDrive t ∧ s.SameTime t ∧ s.SameNews t)
    ∧ (∀ code : ResCode, o ≠ s.placement.orientation → s.placement.status = .settled →
      (s.PlaceRefusal code
        ∨ (s.MayPlace ∧ (∃ a, (s.axis a).Busy) ∧ code = .axisBusy)
        ∨ (s.MayPlace ∧ (∀ a, ¬ (s.axis a).Busy) ∧ s.split o s.placement.reqX s.placement.reqY = none
            ∧ code = .outOfRange)
        ∨ (s.MayPlace ∧ (∀ a, ¬ (s.axis a).Busy)
            ∧ (∃ sp, s.split o s.placement.reqX s.placement.reqY = some sp ∧ meshValid (s.splitMesh o sp) = false)
            ∧ code = .meshLimit)) →
      ∃ t, exec (.orient p) s = .next t ∧ s.HandsOver t .orient p ∧ t.Ends .orient p { cls := .refused, code := code } []
        ∧ s.SameTime t ∧ s.SameLens t ∧ s.SameCooling t ∧ s.SameMesh t ∧ s.SameNews t)
    ∧ (∀ sp : Split, o ≠ s.placement.orientation → s.placement.status = .settled → s.MayPlace →
      (∀ a, (s.axis a).st = .idle ∧ (s.axis a).move = none ∧ (s.axis a).queue = []) →
      s.split o s.placement.reqX s.placement.reqY = some sp → meshValid (s.splitMesh o sp) = true →
      ∃ t, exec (.orient p) s = .next t ∧ s.HandsOver t .orient p
        ∧ t.view p.slot = .part 11 p.tag false .placement ∧ t.slots.queue = []
        ∧ t.placement.reqX = s.placement.reqX ∧ t.placement.reqY = s.placement.reqY
        ∧ t.HoldsSplit o sp p.slot ∧ t.placement.firstFailure = none ∧ t.placement.noisy = false
        ∧ (∀ a, s.TakesAxis t a) ∧ t.AppliesWhenSettled
        ∧ (t.placement.status = .moving → t.mesh.applied = s.mesh.applied)
        ∧ (s.mesh.st = .idle → s.mesh.awaitRead = false → s.mesh.mark s.mesh.target = .free →
            t.mesh.st = .building
              ∧ t.mesh.snapshot =
                  some { params := { s.meshParams with orientation := o }, gen := s.mesh.gen + 1, bank := s.mesh.target })
        ∧ (s.mesh.st = .building ∨ s.mesh.st = .flipPending → t.mesh.dirty = true)
        ∧ t.mesh.gen = s.mesh.gen ∧ t.mesh.corners = s.mesh.corners ∧ t.mesh.waiting = s.mesh.waiting
        ∧ t.thermal = s.thermal ∧ t.power = s.power ∧ s.SameTime t ∧ s.SameNews t)

/-- KEYSTONE and CORNERS (R62 to R64, R75): a record whose mesh fails the validity check, with the applied translation or,
while a placement runs, with its pending remainder, ends the request REFUSED/MESH_LIMIT; else it replaces the corner record
and the request waits for the flip that includes it: generation G + 1 before a build has taken its snapshot, G + 2 once one
has (R75). Found idle with a free bank, the generator takes the build at once into the bank that is not selected (R71). The
record of a KEYSTONE is R62's, that of CORNERS its four words', and the validity check is R67's over all 63 nodes. Where the
header write is on the port behind queued completions, the clause stands on the invariant that each of these names a slot that
the part holds as COMPLETING (R156, R165), which every step keeps. -/
def Obligations.CornerRecord : Prop :=
  (∀ (s : State) (p : Post) (kind : Kind) (body : List Word) (c : Corners) (needed : Half), s.Posted p body →
    lengthOk kind body = true → staticOk kind body = true →
    ((kind = .keystone ∧ c = keystoneCorners (bodyWord body 1).toInt (bodyWord body 2).toInt)
      ∨ (kind = .corners ∧ c = cornersOfBody body)) →
    ((s.mesh.st = .idle ∨ s.mesh.st = .waitRetire) ∧ needed = s.mesh.gen + 1
      ∨ (s.mesh.st = .building ∨ s.mesh.st = .flipPending) ∧ needed = s.mesh.gen + 2) →
    let first : MeshParams := { s.meshParams with corners := c }
    let second : MeshParams :=
      { corners := c
        translation := { dx := s.placement.remX, dy := -s.placement.remY }
        orientation := s.placement.orientation }
    (s.Ready → (meshValid first = false ∨ s.placementRuns = true ∧ meshValid second = false) →
      ∃ t, exec (requestRow kind p) s = .next t ∧ s.HandsOver t kind p
        ∧ t.Ends kind p { cls := .refused, code := .meshLimit } []
        ∧ s.SameTime t ∧ s.SameLens t ∧ s.SameCooling t ∧ s.SameMesh t ∧ s.SameNews t)
    ∧ (∀ left, (s.Ready ∨ s.HeaderOnTheWay p.slot (postHeader kind.number p) .post left ∧ s.CompletionsHeld) →
      meshValid first = true → (s.placementRuns = true → meshValid second = true) →
      ∃ t, exec (requestRow kind p) s = .next t ∧ s.TakesHeader t p.slot (postHeader kind.number p)
        ∧ t.view p.slot = .part kind.number p.tag false .meshWait ∧ t.slots.queue = s.slots.queue
        ∧ t.mesh.corners = c ∧ t.mesh.applied = s.mesh.applied ∧ t.mesh.gen = s.mesh.gen
        ∧ t.mesh.waiting = s.mesh.waiting ++ [{ slot := p.slot, needed := needed }]
        ∧ (s.mesh.st = .idle → s.mesh.awaitRead = false → s.mesh.mark s.mesh.target = .free →
            t.mesh.st = .building ∧ t.mesh.dirty = false
              ∧ t.mesh.snapshot = some { params := first, gen := s.mesh.gen + 1, bank := s.mesh.target })
        ∧ (s.Ready → s.mesh.st = .idle → s.mesh.awaitRead = false → s.mesh.mark s.mesh.target = .free →
            t.path.buffer.map Entry.offset = (List.range 16).map (fun i => s.mesh.target.offset + i))
        ∧ (s.mesh.st = .building ∨ s.mesh.st = .flipPending → t.mesh.dirty = true ∧ t.mesh.snapshot = s.mesh.snapshot)
        ∧ s.SameTime t ∧ s.SameLens t ∧ s.SameCooling t ∧ s.SameNews t))
  ∧ (∀ v h : Int, keystoneCorners v h =
    { tl := { dx := v, dy := h }, tr := { dx := -v, dy := 0 }, bl := { dx := 0, dy := -h }, br := { dx := 0, dy := 0 } })
  ∧ (∀ w1 w2 w3 w4 : Word,
    let disp (w : Word) : Disp := { dx := (w.extractLsb' 0 16).toInt, dy := (w.extractLsb' 16 16).toInt }
    cornersOfBody [w1, w2, w3, w4] = { tl := disp w1, tr := disp w2, bl := disp w3, br := disp w4 })
  ∧ (∀ m : MeshParams, meshValid m = true ↔
    (∀ c ≤ 8, ∀ r ≤ 6, 0 ≤ panelX m c r ∧ panelX m c r ≤ 30720 ∧ 0 ≤ panelY m c r ∧ panelY m c r ≤ 17280)
      ∧ (∀ c < 8, ∀ r ≤ 6, panelX m c r < panelX m (c + 1) r)
      ∧ (∀ c ≤ 8, ∀ r < 6, panelY m c r < panelY m c (r + 1)))

/-- Node values of a mesh (R65, R66): at every node each component is a third of the weighted sum of the four corners, rounded
to the nearest whole number, a sum and its negation alike, plus the translation in sixteenths; at the four corners of the grid
the value is the corner's displacement plus the translation, in sixteenths; in FLOOR the panel value is the screen value, and
in CEILING the panel position is the reflection of the opposite screen node's. -/
def Obligations.MeshNodes : Prop :=
  (∀ n : Int, 3 * third n - n ≤ 1 ∧ n - 3 * third n ≤ 1 ∧ third (-n) = -third n)
  ∧ (∀ (p : MeshParams) (c r : Nat), c ≤ 8 → r ≤ 6 →
    let sum (k : Disp → Int) : Int :=
      (8 - c : Int) * (6 - r : Int) * k p.corners.tl + c * (6 - r : Int) * k p.corners.tr + (8 - c : Int) * r * k p.corners.bl
        + c * r * k p.corners.br
    (screenNode p c r).dx = third (sum Disp.dx) + 16 * p.translation.dx
      ∧ (screenNode p c r).dy = third (sum Disp.dy) + 16 * p.translation.dy)
  ∧ (∀ p : MeshParams,
    (screenNode p 0 0).dx = 16 * (p.corners.tl.dx + p.translation.dx)
      ∧ (screenNode p 0 0).dy = 16 * (p.corners.tl.dy + p.translation.dy)
      ∧ (screenNode p 8 0).dx = 16 * (p.corners.tr.dx + p.translation.dx)
      ∧ (screenNode p 8 0).dy = 16 * (p.corners.tr.dy + p.translation.dy)
      ∧ (screenNode p 0 6).dx = 16 * (p.corners.bl.dx + p.translation.dx)
      ∧ (screenNode p 0 6).dy = 16 * (p.corners.bl.dy + p.translation.dy)
      ∧ (screenNode p 8 6).dx = 16 * (p.corners.br.dx + p.translation.dx)
      ∧ (screenNode p 8 6).dy = 16 * (p.corners.br.dy + p.translation.dy))
  ∧ (∀ (p : MeshParams) (c r : Nat), p.orientation = .floor → panelNode p c r = screenNode p c r)
  ∧ (∀ (p : MeshParams) (c r : Nat), p.orientation = .ceiling → c ≤ 8 → r ≤ 6 →
    panelX p c r = 30720 - (3840 * (8 - c : Nat) + (screenNode p (8 - c) (6 - r)).dx)
      ∧ panelY p c r = 17280 - (2880 * (6 - r : Nat) + (screenNode p (8 - c) (6 - r)).dy))

/-! ### Other requests -/

/-- FAN_CURVE (R110): the curve of the named set and fan is replaced; in the set in force the curve demand is formed anew from
the channel's last valid reading, or is 0 while it has none. The request ends DONE/OK with the curve demand. The duty of a curve
(R108): the first duty up to the first temperature, the last from the last one on, and at a breakpoint that breakpoint's duty;
between two breakpoints it lies between their duties. -/
def Obligations.FanCurves : Prop :=
  (∀ (s : State) (p : Post) (o : Orientation) (f : FanId) (c : ChannelId) (points : List Word), s.Ready →
    s.Posted p (orientationWord o :: fanWord f :: channelIdWord c :: natWord points.length :: points) →
    staticOk .fanCurve (orientationWord o :: fanWord f :: channelIdWord c :: natWord points.length :: points) = true →
    ∃ t, exec (.fanCurve p) s = .next t ∧ s.HandsOver t .fanCurve p
      ∧ (t.thermal.curves o).get f =
          { channel := c, points := points.map (fun w => ((w.setWidth 16).toInt, (w.extractLsb' 16 16).toNat)) }
      ∧ t.thermal.channels = s.thermal.channels ∧ t.thermal.overall = s.thermal.overall
      ∧ (o ≠ s.placement.orientation → t.fans = s.fans
          ∧ t.Ends .fanCurve p { cls := .done, code := .ok } [natWord (s.fan f).curve])
      ∧ (o = s.placement.orientation →
          (t.fan f).curve =
              (if (s.channel c).seen then curveAt ((t.thermal.curves o).get f).points (s.channel c).reading else 0)
            ∧ (s.power.mode ≠ .standby → (t.fan f).demand ≤ (t.fan f).commanded
                ∧ (t.fan f).commanded = max (s.fan f).commanded (t.fan f).demand)
            ∧ t.Ends .fanCurve p { cls := .done, code := .ok } [natWord (t.fan f).curve])
      ∧ t.placement = s.placement ∧ t.power = s.power ∧ s.AxesSameButDrive t ∧ s.SameTime t ∧ s.SameMesh t ∧ s.SameNews t)
  ∧ (∀ (pts : List (Int × Nat)), pts ≠ [] → risingPoints pts = true →
    (∀ q rest t, pts = q :: rest → t ≤ q.1 → curveAt pts t = q.2)
    ∧ (∀ q front t, pts = front ++ [q] → q.1 ≤ t → curveAt pts t = q.2)
    ∧ (∀ q ∈ pts, curveAt pts q.1 = q.2)
    ∧ (∀ front q r rest t, pts = front ++ q :: r :: rest → q.1 ≤ t → t ≤ r.1 →
        min q.2 r.2 ≤ curveAt pts t ∧ curveAt pts t ≤ max q.2 r.2
          ∧ (2 * (curveAt pts t : Int) - 1) * (r.1 - q.1) ≤ 2 * (q.2 * (r.1 - q.1) + (r.2 - q.2) * (t - q.1))
          ∧ 2 * (q.2 * (r.1 - q.1) + (r.2 - q.2) * (t - q.1)) < (2 * (curveAt pts t : Int) + 1) * (r.1 - q.1)))

/-- THRESHOLDS (R101): the channel's thresholds and hysteresis are replaced; its level is not moved, and is the body of DONE/OK.
-/
def Obligations.ThresholdsReplaced : Prop :=
  ∀ (s : State) (p : Post) (c : ChannelId) (w h k y : Word), s.Ready → s.Posted p [channelIdWord c, w, h, k, y] →
    staticOk .thresholds [channelIdWord c, w, h, k, y] = true →
    ∃ t, exec (.thresholds p) s = .next t ∧ s.HandsOver t .thresholds p
      ∧ t.Ends .thresholds p { cls := .done, code := .ok } [natWord (s.channel c).level.rank]
      ∧ t.channel c =
          { s.channel c with thr := { warm := w.toInt, hot := h.toInt, critical := k.toInt, hyst := (y.toNat : Int) } }
      ∧ (∀ d, d ≠ c → t.channel d = s.channel d) ∧ t.thermal.overall = s.thermal.overall ∧ t.fans = s.fans
      ∧ t.power = s.power ∧ s.SameTime t ∧ s.SameLens t ∧ s.SameMesh t ∧ s.SameNews t

/-- THERMAL_RESUME (R107), in the order of the rule: latch clear, ALREADY; HOT or CRITICAL or not RUN, THERMAL_BLOCK with the
latch kept; else the latch is cleared, DONE/OK, and CUT falls. Each outcome has the overall level as its body. A body length
other than 0 is BAD_LENGTH. It holds in every mode and in autonomous mode. -/
def Obligations.ThermalResume : Prop :=
  (∀ (s : State) (p : Post), s.Ready → s.Posted p [] →
    ∃ t, exec (.thermalResume p) s = .next t ∧ s.HandsOver t .thermalResume p
      ∧ (s.thermal.cutLatch = false →
          t.Ends .thermalResume p { cls := .done, code := .already } [natWord s.thermal.overall.rank]
            ∧ t.thermal = s.thermal)
      ∧ (s.thermal.cutLatch = true →
          (s.thermal.overall = .hot ∨ s.thermal.overall = .critical ∨ s.power.mode ≠ .run) →
          t.Ends .thermalResume p { cls := .refused, code := .thermalBlock } [natWord s.thermal.overall.rank]
            ∧ t.thermal = s.thermal)
      ∧ (s.thermal.cutLatch = true → s.thermal.overall ≠ .hot → s.thermal.overall ≠ .critical → s.power.mode = .run →
          t.Ends .thermalResume p { cls := .done, code := .ok } [natWord s.thermal.overall.rank]
            ∧ t.thermal = { s.thermal with cutLatch := false } ∧ t.cut = false)
      ∧ t.fans = s.fans ∧ t.power = s.power ∧ s.SameTime t ∧ s.SameLens t ∧ s.SameMesh t ∧ s.SameNews t)
  ∧ (∀ (s : State) (p : Post) (body : List Word), s.Ready → s.Posted p body → body ≠ [] →
    ∃ t, exec (.thermalResume p) s = .next t ∧ s.HandsOver t .thermalResume p
      ∧ t.Ends .thermalResume p { cls := .refused, code := .badLength } [] ∧ t.thermal = s.thermal)

/-- FAN_FLOOR (R93): the host floor of the fan is replaced, its demand formed anew, and a rise commanded at once (R83); the
request ends DONE/OK with the demand and the commanded duty. -/
def Obligations.FanFloor : Prop :=
  ∀ (s : State) (p : Post) (f : FanId) (w : Word), s.Ready → s.Posted p [fanWord f, w] → w.toNat ≤ 100 →
    ∃ t, exec (.fanFloor p) s = .next t ∧ s.HandsOver t .fanFloor p
      ∧ t.Ends .fanFloor p { cls := .done, code := .ok } [natWord (t.fan f).demand, natWord (t.fan f).commanded]
      ∧ (t.fan f).floor = w.toNat ∧ (∀ g, g ≠ f → (t.fan g).floor = (s.fan g).floor)
      ∧ (s.power.mode = .standby → (t.fan f).demand = 0 ∧ (t.fan f).commanded = 0)
      ∧ (s.power.mode ≠ .standby → w.toNat ≤ (t.fan f).demand
          ∧ (t.fan f).commanded = max (s.fan f).commanded (t.fan f).demand)
      ∧ t.thermal = s.thermal ∧ t.power = s.power ∧ t.placement = s.placement ∧ s.AxesSameButDrive t
      ∧ s.SameTime t ∧ s.SameMesh t ∧ s.SameNews t

/-- FAN_REPORT (R94) ends DONE/OK with the fan's state, commanded duty, RPM and retries. Without the clear flag it changes
nothing; with it the retries return to 0, and a FAILED fan leaves FAILED: it kicks while its commanded duty is above 0. -/
def Obligations.FanReport : Prop :=
  ∀ (s : State) (p : Post) (f : FanId) (clear : Bool), s.Ready → s.Posted p [fanWord f, natWord (boolNat clear)] →
    ∃ t, exec (.fanReport p) s = .next t ∧ s.HandsOver t .fanReport p
      ∧ t.Ends .fanReport p { cls := .done, code := .ok }
          [natWord (s.fan f).st.number, natWord (s.fan f).commanded, natWord (s.fan f).rpm, natWord (s.fan f).retries]
      ∧ (clear = false → s.SameLens t ∧ s.SameCooling t ∧ s.SameNews t)
      ∧ (clear = true → (s.fan f).st ≠ .failed →
          t.fan f = { s.fan f with retries := 0 } ∧ (∀ g, g ≠ f → t.fan g = s.fan g) ∧ s.SameLens t
            ∧ t.thermal = s.thermal ∧ s.SameNews t)
      ∧ (clear = true → (s.fan f).st = .failed →
          (t.fan f).retries = 0
            ∧ (0 < (s.fan f).commanded → s.power.mode ≠ .standby → (t.fan f).st = .kick ∧ (t.fan f).drive = 100)
            ∧ t.thermal.overall = { s with fans := t.fans }.overallNow)
      ∧ t.power = s.power ∧ t.placement = s.placement ∧ s.SameTime t ∧ s.SameMesh t

/-- POWER_DOWN (R128): in COOLDOWN it ends REFUSED/POWER_STATE and in STANDBY DONE/ALREADY, each with a body of three zeros;
in RUN it is taken and the cool-down begins (R129): shut-down kind, elapsed 0, the fans at 60 at least, CUT asserted. Each
axis ends its queue ENDED/ABORTED, head first, and stops a move with POWER_STATE (R57); a placement in APPLYING fails, its
request ended ENDED/POWER_STATE with the positions (R10). The model's choice (log 28): the queue of H ends before that of V,
and both before the placement's request. A park asked of an axis at rest starts, or has the result of the first failed check:
HOST_LOST, INTERLOCKED, THERMAL_BLOCK, AXIS_FAULTED, NOT_HOMED (R130, R44); that its class is REFUSED is read from R166 (log
14, DEDUCED). Any other axis holds the park pending. Lengths other than 1 and park flags other than 0 and 1 are refused by the
slot unit. -/
def Obligations.PowerDown : Prop :=
  (∀ (s : State) (p : Post) (park : Bool), s.Ready → s.Posted p [natWord (boolNat park)] →
    (s.power.mode ≠ .run →
      ∃ t, exec (.powerDown p) s = .next t ∧ s.HandsOver t .powerDown p
        ∧ (s.power.mode = .cooldown → t.Ends .powerDown p { cls := .refused, code := .powerState } [0, 0, 0])
        ∧ (s.power.mode = .standby → t.Ends .powerDown p { cls := .done, code := .already } [0, 0, 0])
        ∧ s.SameTime t ∧ s.SameLens t ∧ s.SameCooling t ∧ s.SameMesh t ∧ s.SameNews t)
    ∧ (s.power.mode = .run → (∀ a, ∀ q ∈ (s.axis a).queue, q.slot ≠ p.slot) →
      (s.placement.status = .applying → s.placement.ref ≠ some p.slot) →
      ∃ t, exec (.powerDown p) s = .next t ∧ s.HandsOver t .powerDown p
        ∧ t.view p.slot = .part 17 p.tag false .power
        ∧ t.power.mode = .cooldown ∧ t.power.kind = .shutdown ∧ t.power.elapsed = 0 ∧ t.power.minMet = false
        ∧ t.power.ref = some p.slot ∧ t.cut = true
        ∧ (∀ f, 60 ≤ (t.fan f).demand ∧ (t.fan f).commanded = max (s.fan f).commanded (t.fan f).demand)
        ∧ t.slots.queue =
            abortedQueue (s.axis .h) ++ abortedQueue (s.axis .v)
              ++ (if s.placement.status = .applying then
                s.placement.ref.toList.map (fun k =>
                  { slot := k
                    result := { cls := .ended, code := .powerState }
                    body := [s.axes.h.counter, s.axes.v.counter] })
              else [])
        ∧ (∀ a, (t.axis a).queue = [])
        ∧ (∀ a, (s.axis a).st.active = true → s.Stopped t a .powerState)
        ∧ (s.placement.status = .applying → t.placement = { s.placement with status := .failed, ref := none })
        ∧ (s.placement.status ≠ .applying → t.placement = s.placement)
        ∧ (park = false → t.power.park = { h := .notAsked, v := .notAsked }
            ∧ ∀ a, (s.axis a).st.active = false → t.axis a = { s.axis a with queue := [] })
        ∧ (park = true → ∀ a,
            ((s.axis a).st = .idle ∨ (s.axis a).st = .fault →
              (s.MayPark a →
                t.power.park.get a = .waiting ∧ (t.axis a).st = .moving
                  ∧ (∃ m, (t.axis a).move = some m ∧ m.Fresh .park none (s.axis a).cfg.park .near))
              ∧ (∀ code, s.ParkRefusal a code →
                  t.power.park.get a = .result { cls := .refused, code := code }
                    ∧ t.axis a = { s.axis a with queue := [], pendingPark := false }))
            ∧ ((s.axis a).st ≠ .idle → (s.axis a).st ≠ .fault →
                t.power.park.get a = .waiting ∧ (t.axis a).pendingPark = true)
            ∧ ((s.axis a).st = .stopping → t.axis a = { s.axis a with queue := [], pendingPark := true }))
        ∧ t.thermal = s.thermal ∧ s.SameTime t ∧ s.SameMesh t ∧ s.SameNews t))
  ∧ (∀ (s : State) (p : Post) (body : List Word), s.Ready → s.Posted p body →
      (body.length ≠ 1 →
        ∃ t, exec (.powerDown p) s = .next t ∧ t.Ends .powerDown p { cls := .refused, code := .badLength } []
          ∧ t.power = s.power)
      ∧ (∀ w, body = [w] → 1 < w.toNat →
        ∃ t, exec (.powerDown p) s = .next t ∧ t.Ends .powerDown p { cls := .refused, code := .badValue } []
          ∧ t.power = s.power))

/-- POWER_UP (R135): in RUN it ends DONE/ALREADY; from STANDBY the mode is RUN, the reading intervals restart at 250 ms (R98)
and the fans take their demand; from a cool-down, a park that is waited for has the result ENDED/CANCELLED at once, pending or
running, and the POWER_DOWN then ends ENDED/CANCELLED with the parks and the elapsed time, before the POWER_UP ends DONE/OK.
The model's choice (log 46): minimum met keeps its value outside COOLDOWN. -/
def Obligations.PowerUp : Prop :=
  ∀ (s : State) (p : Post), s.Ready → s.Posted p [] →
    (s.power.mode = .run →
      ∃ t, exec (.powerUp p) s = .next t ∧ s.HandsOver t .powerUp p ∧ t.Ends .powerUp p { cls := .done, code := .already } []
        ∧ s.SameTime t ∧ s.SameLens t ∧ s.SameCooling t ∧ s.SameMesh t ∧ s.SameNews t)
    ∧ (s.power.mode = .standby →
      ∃ t, exec (.powerUp p) s = .next t ∧ s.HandsOver t .powerUp p ∧ t.Ends .powerUp p { cls := .done, code := .ok } []
        ∧ t.power = { s.power with mode := .run } ∧ (∀ c, t.channel c = { s.channel c with timer := 250 })
        ∧ (∀ f, (t.fan f).commanded = max (s.fan f).commanded (t.fan f).demand)
        ∧ t.release = false ∧ t.thermal.overall = s.thermal.overall ∧ t.thermal.cutLatch = s.thermal.cutLatch
        ∧ t.thermal.hb = s.thermal.hb ∧ t.placement = s.placement ∧ s.AxesSameButDrive t ∧ s.SameTime t ∧ s.SameMesh t
        ∧ s.SameNews t)
    ∧ (∀ k, s.power.mode = .cooldown → s.power.ref = some k →
      let park : PerAxis Park :=
        { h := endedPark s.power.park.h .cancelled, v := endedPark s.power.park.v .cancelled }
      ∃ t, exec (.powerUp p) s = .next t ∧ s.HandsOver t .powerUp p
        ∧ t.slots.queue =
            [{ slot := k
               result := { cls := .ended, code := .cancelled }
               body := [parkWord park.h, parkWord park.v, natWord s.power.elapsed] },
              { slot := p.slot, result := { cls := .done, code := .ok }, body := [] }]
        ∧ t.power = { s.power with mode := .run, ref := none, park := park }
        ∧ (∀ a, s.ParkEnds t a .cancelled)
        ∧ (s.power.park.h ≠ .waiting → s.power.park.v ≠ .waiting → s.AxesSameButDrive t)
        ∧ t.thermal = s.thermal ∧ t.placement = s.placement ∧ s.SameTime t ∧ s.SameMesh t ∧ s.SameNews t)

/-- NOTICE_SETUP (R173): the enables and the base are replaced; pending flags and the stack stay; it ends DONE/OK with the
pending flags. -/
def Obligations.NoticeSetup : Prop :=
  ∀ (s : State) (p : Post) (mask base : Word), s.Ready → s.Posted p [mask, base] →
    mask.toNat ≤ 255 → base.toNat ≤ 240 → base.toNat % 16 = 0 →
    ∃ t, exec (.noticeSetup p) s = .next t ∧ s.HandsOver t .noticeSetup p
      ∧ t.Ends .noticeSetup p { cls := .done, code := .ok } [s.notice.pend.setWidth 32]
      ∧ t.notice = { s.notice with enable := mask.setWidth 8, base := base.toNat }
      ∧ s.SameTime t ∧ s.SameLens t ∧ s.SameCooling t ∧ s.SameMesh t
      ∧ t.events = s.events

/-! ### Encoders and moves -/

/-- A level change on input A of an encoder (R19): it starts the filter timer and counts nothing; a change back while it is
timed is a rejected edge; with the filter off it is decoded at once and counted by R18. The counting rules (R17, R18): in X4
every transition counts by one, in X2 those in which A changes, in X1 those in which A changes while B is low; forward is A
first, and a phase error counts nothing in any mode. A rejected edge, and a phase error of both inputs changing at once, raise
their noise count, which stops at 65535, and the noise tally of the move that runs, whose 64th raises ENCODER_NOISE once (R20,
R21, R51). -/
def Obligations.EncoderEdges : Prop :=
  (∀ (s : State) (a : AxisId) (l : EncLevels), s.Quiet →
    l.a ≠ (s.axis a).enc.a.raw → l.b = (s.axis a).enc.b.raw → l.i = (s.axis a).enc.i.raw →
    ((s.axis a).enc.a.timing = none → (s.axis a).cfg.encoder.filter ≠ 0 →
      exec (.encoderEdge a l) s =
        .next (s.setAxis a
          { s.axis a with
            enc := { (s.axis a).enc with
              a := { raw := l.a, filtered := (s.axis a).enc.a.filtered, timing := some (s.axis a).cfg.encoder.filter } } }))
    ∧ ((s.axis a).enc.a.timing.isSome = true → (s.axis a).move = none →
      exec (.encoderEdge a l) s =
        .next (s.setAxis a
          { s.axis a with
            enc := { (s.axis a).enc with a := { raw := l.a, filtered := (s.axis a).enc.a.filtered, timing := none } }
            rejected := min 65535 ((s.axis a).rejected + 1) }))
    ∧ ((s.axis a).enc.a.timing = none → (s.axis a).cfg.encoder.filter = 0 → l.a ≠ (s.axis a).enc.a.filtered →
      (s.axis a).st = .idle →
      ∃ t, exec (.encoderEdge a l) s = .next t ∧ (t.axis a).enc.a = { raw := l.a, filtered := l.a, timing := none }
        ∧ (t.axis a).counter =
            (s.axis a).counter
              + signedWord (countDelta (s.axis a).cfg.encoder.mode
                  ((s.axis a).enc.a.filtered, (s.axis a).enc.b.filtered) (l.a, (s.axis a).enc.b.filtered))
        ∧ t.axis (otherAxis a) = s.axis (otherAxis a)
        ∧ s.SameGround t ∧ s.SameCooling t ∧ s.SameMesh t ∧ s.SameNews t ∧ t.slots = s.slots))
  ∧ (∀ (s : State) (a : AxisId) (l : EncLevels) (m : Move), s.Quiet → s.RingOpen → s.RingInv → (s.axis a).move = some m →
    l.a ≠ (s.axis a).enc.a.raw → l.i = (s.axis a).enc.i.raw →
    ((s.axis a).enc.a.timing.isSome = true → l.b = (s.axis a).enc.b.raw →
      ∃ t, exec (.encoderEdge a l) s = .next t ∧ s.TallyRises t a m
        ∧ t.axis a =
            { s.axis a with
              enc := { (s.axis a).enc with a := { raw := l.a, filtered := (s.axis a).enc.a.filtered, timing := none } }
              rejected := min 65535 ((s.axis a).rejected + 1)
              move := (t.axis a).move }
        ∧ t.axis (otherAxis a) = s.axis (otherAxis a)
        ∧ s.SameGround t ∧ s.SameCooling t ∧ s.SameMesh t ∧ t.slots = s.slots ∧ t.notice = s.notice)
    ∧ ((s.axis a).enc.a.timing = none → (s.axis a).enc.b.timing = none → (s.axis a).cfg.encoder.filter = 0 →
      l.b ≠ (s.axis a).enc.b.raw → l.a ≠ (s.axis a).enc.a.filtered → l.b ≠ (s.axis a).enc.b.filtered →
      (s.axis a).enc.i.filtered = false →
      ∃ t, exec (.encoderEdge a l) s = .next t ∧ s.TallyRises t a m
        ∧ t.axis a =
            { s.axis a with
              enc := { (s.axis a).enc with
                a := { raw := l.a, filtered := l.a, timing := none }, b := { raw := l.b, filtered := l.b, timing := none } }
              phaseErrors := min 65535 ((s.axis a).phaseErrors + 1)
              move := (t.axis a).move }
        ∧ t.axis (otherAxis a) = s.axis (otherAxis a)
        ∧ s.SameGround t ∧ s.SameCooling t ∧ s.SameMesh t ∧ t.slots = s.slots ∧ t.notice = s.notice))
  ∧ (∀ (a b : Bool),
    countDelta .x4 (a, b) (!a, b) = (if a = b then 1 else -1) ∧ countDelta .x4 (a, b) (a, !b) = (if a = b then -1 else 1)
      ∧ countDelta .x2 (a, b) (!a, b) = (if a = b then 1 else -1) ∧ countDelta .x2 (a, b) (a, !b) = 0
      ∧ countDelta .x1 (a, b) (!a, b) = (if b then 0 else if a then -1 else 1) ∧ countDelta .x1 (a, b) (a, !b) = 0
      ∧ ∀ m, countDelta m (a, b) (!a, !b) = 0 ∧ countDelta m (a, b) (a, b) = 0)

/-- A level that has held for its filter time is accepted (R17, R19, R22): the filtered level follows the pin, and a counted
transition moves the counter and stamps the position time. At rest an index event changes nothing (R23). A qualified index
event in HOMING (R23, R26): the counter takes the home value, the axis is homed, and it goes to STOPPING with the result
DONE/OK. So it does at a decoder transition into the index phase while the index is high, which is counted first: on a homed
axis in MOVING or SETTLING the slip check of R30 sees the counter that the transition leaves. -/
def Obligations.FilterAccepts : Prop :=
  (∀ (s : State) (a : AxisId) (left : Nat), s.Quiet → (s.axis a).st = .idle → (s.axis a).enc.a.timing = some left →
    (s.axis a).enc.a.raw ≠ (s.axis a).enc.a.filtered →
    ∃ t, exec (.filterAccept a { a := true, b := false, i := false }) s = .next t
      ∧ (t.axis a).enc.a = { raw := (s.axis a).enc.a.raw, filtered := (s.axis a).enc.a.raw, timing := none }
      ∧ t.clock = (s.pass left).clock
      ∧ (let d := countDelta (s.axis a).cfg.encoder.mode
            ((s.axis a).enc.a.filtered, (s.axis a).enc.b.filtered) ((s.axis a).enc.a.raw, (s.axis a).enc.b.filtered)
        (t.axis a).counter = (s.axis a).counter + signedWord d
          ∧ (t.axis a).posTime = if d = 0 then (s.axis a).posTime else t.clock.uptime)
      ∧ (t.axis a).homed = (s.axis a).homed ∧ (t.axis a).st = .idle
      ∧ (t.axis (otherAxis a)).counter = (s.axis (otherAxis a)).counter
      ∧ t.mem = s.mem ∧ t.placement = s.placement ∧ t.budget = s.budget ∧ t.slots = s.slots ∧ s.SameNews t)
  ∧ (∀ (s : State) (a : AxisId) (m : Move) (left : Nat), s.Quiet → (s.axis a).st = .homing → (s.axis a).move = some m →
    m.result = none → (s.axis a).enc.i = { raw := true, filtered := false, timing := some left } →
    (s.axis a).enc.a.filtered = (s.axis a).cfg.encoder.phaseA →
    (s.axis a).enc.b.filtered = (s.axis a).cfg.encoder.phaseB →
    ∃ t, exec (.filterAccept a { a := false, b := false, i := true }) s = .next t
      ∧ (t.axis a).counter = signedWord (s.axis a).cfg.homeValue ∧ (t.axis a).posTime = t.clock.uptime
      ∧ (t.axis a).homed = true ∧ (t.axis a).st = .stopping ∧ (t.axis a).drive.duty = 0 ∧ (t.axis a).searchTimer = none
      ∧ (∃ n, (t.axis a).move = some n ∧ n.owner = m.owner ∧ n.result = some { cls := .done, code := .ok })
      ∧ t.budget.desire.get a = .zero ∧ t.clock = (s.pass left).clock
      ∧ t.mem = s.mem ∧ t.placement = s.placement ∧ t.slots = s.slots ∧ s.SameNews t)
  ∧ (∀ (s : State) (a : AxisId) (m : Move) (left : Nat), s.Quiet → s.RingOpen → s.RingInv → (s.axis a).move = some m →
    (s.axis a).enc.i.filtered = true → (s.axis a).enc.a.timing = some left →
    (s.axis a).enc.a.raw ≠ (s.axis a).enc.a.filtered → (s.axis a).enc.a.raw = (s.axis a).cfg.encoder.phaseA →
    (s.axis a).enc.b.filtered = (s.axis a).cfg.encoder.phaseB →
    let d := countDelta (s.axis a).cfg.encoder.mode
      ((s.axis a).enc.a.filtered, (s.axis a).enc.b.filtered) ((s.axis a).enc.a.raw, (s.axis a).enc.b.filtered)
    let counted := (s.axis a).counter + signedWord d
    ∃ t, exec (.filterAccept a { a := true, b := false, i := false }) s = .next t
      ∧ ((s.axis a).st = .homing → m.result = none →
          (t.axis a).counter = signedWord (s.axis a).cfg.homeValue ∧ (t.axis a).posTime = t.clock.uptime
            ∧ (t.axis a).homed = true ∧ (t.axis a).st = .stopping ∧ (t.axis a).drive.duty = 0
            ∧ (t.axis a).searchTimer = none ∧ t.budget.desire.get a = .zero ∧ s.NoEvent t
            ∧ ∃ n, (t.axis a).move = some n ∧ n.owner = m.owner ∧ n.result = some { cls := .done, code := .ok })
      ∧ (((s.axis a).st = .moving ∨ (s.axis a).st = .settling) → (s.axis a).homed = true →
          (t.axis a).counter = counted
            ∧ ((counted.toInt - (s.axis a).cfg.homeValue).natAbs ≤ 2 * (s.axis a).cfg.bands.2.2 →
                (t.axis a).homed = true ∧ (t.axis a).st = (s.axis a).st ∧ (t.axis a).move = some m ∧ s.NoEvent t)
            ∧ (2 * (s.axis a).cfg.bands.2.2 < (counted.toInt - (s.axis a).cfg.homeValue).natAbs →
                (t.axis a).homed = false ∧ s.Stopped t a .slip
                  ∧ s.Raises t (eventCode .slip (axisNumber a)) counted (signedWord (s.axis a).cfg.homeValue)))
      ∧ t.clock = (s.pass left).clock ∧ t.mem = s.mem ∧ t.placement = s.placement ∧ t.slots = s.slots
      ∧ t.notice = s.notice)

/-- A motion period in MOVING (R45 to R48): inside the deadband the drive is off and the axis settles; outside it the axis
drives toward its target at the duty of its class, when it has the supply for it. An axis to which the older one leaves less
than a CREEP share holds with the drive off, and its hold time grows; a hold time of 2000 ms ends the move with
ENDED/BUDGET_TIMEOUT, unless the result was set before. Under R118 a lone axis always finds 6 units, so only the younger of
two can hold. A motion period in HOMING (R26) drives in the home direction at CREEP, on V with the lift set against gravity,
or holds; the search timer runs on. -/
def Obligations.MotionPeriod : Prop :=
  (∀ (s : State) (a : AxisId) (m : Move), s.Quiet → (s.axis a).st = .moving → (s.axis a).move = some m →
    ((m.target - (s.axis a).counter.toInt).natAbs ≤ (s.axis a).cfg.bands.2.2 →
      ∃ t, exec (.motionPeriod a) s = .next t ∧ (t.axis a).st = .settling ∧ (t.axis a).drive.duty = 0
        ∧ (t.axis a).move = some { m with settleCount := 0 } ∧ t.budget.desire.get a = .zero
        ∧ (t.axis a).prevCount = (s.axis a).counter ∧ (t.axis a).counter = (s.axis a).counter
        ∧ t.clock = (s.passMs (s.axis a).periodTimer).clock ∧ t.mem = s.mem ∧ t.slots = s.slots ∧ s.SameNews t)
    ∧ (∀ cls : Machine.Class, (s.axis a).cfg.bands.2.2 < (m.target - (s.axis a).counter.toInt).natAbs →
      cls = ((bandClass (s.axis a).cfg.bands (m.target - (s.axis a).counter.toInt)).slower m.limit).slower
        (s.thermalCap m.kind) →
      cls ≠ .zero → s.budget.order = [a] → 16 ≤ s.budget.capacity - s.totalDraw → m.stallCount + 1 < 50 →
      ∃ t, exec (.motionPeriod a) s = .next t ∧ (t.axis a).st = .moving ∧ t.budget.desire.get a = cls
        ∧ t.budget.allot.get a = cls
        ∧ (t.axis a).drive.positive = decide (0 < m.target - (s.axis a).counter.toInt)
        ∧ (t.axis a).drive.duty =
            ((s.axis a).cfg.duties (liftSet a s.placement.orientation
              (decide (0 < m.target - (s.axis a).counter.toInt)))).get cls
        ∧ (∃ n, (t.axis a).move = some n ∧ n.holdTime = 0 ∧ n.limited = m.limited ∧ n.target = m.target)
        ∧ (t.axis a).counter = (s.axis a).counter
        ∧ t.clock = (s.passMs (s.axis a).periodTimer).clock ∧ t.mem = s.mem ∧ t.slots = s.slots ∧ s.SameNews t)
    ∧ ((s.axis a).cfg.bands.2.2 < (m.target - (s.axis a).counter.toInt).natAbs →
      (s.budget.capacity = 40 ∨ s.budget.capacity = 64) → s.AllotInv → s.budget.order = [otherAxis a, a] →
      s.budget.capacity - s.totalDraw - (s.budget.allot.get (otherAxis a)).reserve < 4 →
      (m.holdTime + 1 < 2000 →
        ∃ t, exec (.motionPeriod a) s = .next t ∧ (t.axis a).st = .moving ∧ (t.axis a).drive.duty = 0
          ∧ t.budget.allot.get a = .zero ∧ t.budget.allot.get (otherAxis a) = s.budget.allot.get (otherAxis a)
          ∧ (t.axis a).move = some { m with holdTime := m.holdTime + 1, limited := min 65535 (m.limited + 1) }
          ∧ t.clock = (s.passMs (s.axis a).periodTimer).clock ∧ t.mem = s.mem ∧ t.slots = s.slots ∧ s.SameNews t)
      ∧ (m.holdTime = 1999 → ∀ c : Instr, (c = .budgetTimeout a ∨ c = .motionPeriod a) →
        ∃ t, exec c s = .next t ∧ s.Stopped t a .budgetTimeout
          ∧ t.budget.desire.get a = .zero ∧ (t.axis a).homed = (s.axis a).homed
          ∧ (t.axis a).counter = (s.axis a).counter
          ∧ (s.axis (otherAxis a)).st = (t.axis (otherAxis a)).st
          ∧ (s.axis (otherAxis a)).move = (t.axis (otherAxis a)).move
          ∧ t.clock = (s.passMs (s.axis a).periodTimer).clock ∧ t.mem = s.mem ∧ t.slots = s.slots
          ∧ t.placement = s.placement ∧ s.SameNews t)))
  ∧ (∀ (s : State) (a : AxisId) (m : Move), s.Quiet → (s.axis a).st = .homing → (s.axis a).move = some m →
    (s.budget.order = [a] → 4 ≤ s.budget.capacity - s.totalDraw → m.stallCount + 1 < 50 →
      ∃ t, exec (.motionPeriod a) s = .next t ∧ (t.axis a).st = .homing ∧ t.budget.desire.get a = .creep
        ∧ t.budget.allot.get a = .creep ∧ (t.axis a).drive.positive = (s.axis a).cfg.encoder.homePositive
        ∧ (t.axis a).drive.duty =
            ((s.axis a).cfg.duties (liftSet a s.placement.orientation (s.axis a).cfg.encoder.homePositive)).creep
        ∧ (∃ n, (t.axis a).move = some n ∧ n.holdTime = 0 ∧ n.owner = m.owner ∧ n.origin = m.origin ∧ n.result = m.result)
        ∧ (t.axis a).searchTimer = ((s.passMs (s.axis a).periodTimer).axis a).searchTimer
        ∧ (t.axis a).counter = (s.axis a).counter ∧ (t.axis a).homed = (s.axis a).homed
        ∧ t.clock = (s.passMs (s.axis a).periodTimer).clock ∧ t.mem = s.mem ∧ t.slots = s.slots
        ∧ t.placement = s.placement ∧ s.SameNews t)
    ∧ ((s.budget.capacity = 40 ∨ s.budget.capacity = 64) → s.AllotInv → s.budget.order = [otherAxis a, a] →
      s.budget.capacity - s.totalDraw - (s.budget.allot.get (otherAxis a)).reserve < 4 → m.holdTime + 1 < 2000 →
      ∃ t, exec (.motionPeriod a) s = .next t ∧ (t.axis a).st = .homing ∧ (t.axis a).drive.duty = 0
        ∧ t.budget.allot.get a = .zero
        ∧ (t.axis a).move = some { m with holdTime := m.holdTime + 1, limited := min 65535 (m.limited + 1) }
        ∧ (t.axis a).searchTimer = ((s.passMs (s.axis a).periodTimer).axis a).searchTimer
        ∧ (t.axis a).homed = (s.axis a).homed ∧ (t.axis a).counter = (s.axis a).counter
        ∧ t.clock = (s.passMs (s.axis a).periodTimer).clock ∧ t.mem = s.mem ∧ t.slots = s.slots ∧ s.SameNews t))

/-- The class of a motion period (R45, R46): the band of the distance, no faster than the request's limit, and no faster than
NEAR while the overall level is HOT or for a park in a cool-down. The model's choice (log 34): NEAR at CRITICAL too, at which no
move runs. The allotments (R121, R122): the head of the budget order gets the fastest class that neither exceeds its desire nor
reserves more than the capacity leaves after the fans, the second the same of what the head's reservation leaves; an axis not on
the order gets none. -/
def Obligations.ClassesAndAllotments : Prop :=
  (∀ (bands : Nat × Nat × Nat) (d : Int) (s : State) (kind : MoveKind),
    (bands.1 < d.natAbs → bandClass bands d = .far)
      ∧ (d.natAbs ≤ bands.1 → bands.2.1 < d.natAbs → bandClass bands d = .near)
      ∧ (d.natAbs ≤ bands.1 → d.natAbs ≤ bands.2.1 → bandClass bands d = .creep)
      ∧ (s.thermalCap kind = .near ↔
          s.thermal.overall = .hot ∨ s.thermal.overall = .critical ∨ (kind = .park ∧ s.power.mode = .cooldown))
      ∧ (s.thermalCap kind = .near ∨ s.thermalCap kind = .far)
      ∧ ∀ x y : Machine.Class, ((x.slower y).rank ≤ x.rank ∧ (x.slower y).rank ≤ y.rank) ∧ (x.slower y = x ∨ x.slower y = y))
  ∧ (∀ (s : State) (a : AxisId), s.budget.order = [a] →
    (s.allotNow.get (otherAxis a) = .zero)
      ∧ (s.allotNow.get a).rank ≤ (s.budget.desire.get a).rank
      ∧ (s.allotNow.get a).reserve ≤ s.budget.capacity - s.totalDraw
      ∧ ∀ c : Machine.Class, c.rank ≤ (s.budget.desire.get a).rank → c.reserve ≤ s.budget.capacity - s.totalDraw →
          c.rank ≤ (s.allotNow.get a).rank)
  ∧ (∀ (s : State) (a : AxisId), s.budget.order = [otherAxis a, a] →
    let older := s.allotNow.get (otherAxis a)
    let younger := s.allotNow.get a
    let whole := s.budget.capacity - s.totalDraw
    older.rank ≤ (s.budget.desire.get (otherAxis a)).rank ∧ older.reserve ≤ whole
      ∧ (∀ c : Machine.Class, c.rank ≤ (s.budget.desire.get (otherAxis a)).rank → c.reserve ≤ whole → c.rank ≤ older.rank)
      ∧ younger.rank ≤ (s.budget.desire.get a).rank ∧ younger.reserve ≤ whole - older.reserve
      ∧ (∀ c : Machine.Class, c.rank ≤ (s.budget.desire.get a).rank → c.reserve ≤ whole - older.reserve →
          c.rank ≤ younger.rank))
  ∧ (∀ s : State, s.budget.order = [] → s.allotNow = { h := .zero, v := .zero })

/-- The fiftieth driven period in a row without a count stalls the axis (R49): FAULT, drive off, off the budget order; the
direct move ends ENDED/STALL with the body of R59, STALL is raised with the position and the last duty, and the axis's notice is
set. -/
def Obligations.Stall : Prop :=
  ∀ (s : State) (a : AxisId) (m : Move) (k : SlotId) (cls : Machine.Class) (duty : Nat), s.Ready → s.RingOpen →
    (s.axis a).st = .moving →
    (s.axis a).move = some m → m.kind = .directMove → m.owner = some k → m.stallCount = 49 → (s.axis a).queue = [] →
    (s.axis a).counter = (s.axis a).prevCount → s.budget.order = [a] → 16 ≤ s.budget.capacity - s.totalDraw →
    (s.axis a).cfg.bands.2.2 < (m.target - (s.axis a).counter.toInt).natAbs →
    cls = ((bandClass (s.axis a).cfg.bands (m.target - (s.axis a).counter.toInt)).slower m.limit).slower (s.thermalCap m.kind) →
    cls ≠ .zero →
    duty = ((s.axis a).cfg.duties (liftSet a s.placement.orientation
      (decide (0 < m.target - (s.axis a).counter.toInt)))).get cls →
    0 < duty →
    ∃ t, exec (.stall a) s = .next t ∧ (t.axis a).st = .fault ∧ (t.axis a).faultCode = .stall ∧ (t.axis a).move = none
      ∧ (t.axis a).drive.duty = 0 ∧ (t.axis a).homed = (s.axis a).homed ∧ (t.axis a).counter = (s.axis a).counter
      ∧ t.budget.order = [] ∧ t.budget.desire.get a = .zero
      ∧ t.slots.queue =
          [{ slot := k
             result := { cls := .ended, code := .stall }
             body := [(s.axis a).counter, signedWord m.target, natWord m.corrections, natWord m.limited,
               natWord (min 65535 m.tally)] }]
      ∧ s.Raises t (eventCode .stall (axisNumber a)) (s.axis a).counter (natWord duty)
      ∧ t.notice = { s.notice with pend := s.notice.pend ||| (axisSource a).bit }
      ∧ t.clock = (s.passMs (s.axis a).periodTimer).clock ∧ t.mem = s.mem
      ∧ t.mesh = (s.passMs (s.axis a).periodTimer).mesh

/-- How a placement ends. The last placement move that settles begins the apply (R8): the remainder becomes the applied
translation, and the generation that includes it is needed. The drained flip that reaches that generation settles the
placement and ends its request DONE/OK, or DONE/OK_NOISY, with the optical screen values, the remainder and the positions
(R9). A placement move that ends in settle failure while the status is MOVING makes the placement fail with that code: the
other axis's placement move is stopped, and the request ends with the positions once no placement move runs (R10). The clause
of the flip stands on the invariant that with no completion left the writer of completions is at its start (R165), which every
step keeps. -/
def Obligations.PlacementEnds : Prop :=
  (∀ (s : State) (a : AxisId) (m : Move) (k : SlotId) (kind : BitVec 6) (tag : BitVec 8) (taken : Bool), s.Ready →
    (s.axis a).st = .settling → (s.axis a).move = some m → m.kind = .placement → m.settleCount = 19 →
    (s.axis a).queue = [] → (s.axis a).stopWait = [] → (s.axis a).pendingPark = false →
    s.placement.status = .moving → s.placement.ref = some k → s.view k = .part kind tag taken .placement →
    ((m.target - (s.axis a).counter.toInt).natAbs ≤ (s.axis a).cfg.bands.2.2 →
      ∃ t, exec (.settleEnd a) s = .next t ∧ (t.axis a).st = .idle ∧ (t.axis a).move = none
        ∧ t.placement.settled = s.placement.settled.set a true
        ∧ t.placement.noisy = (s.placement.noisy || decide (64 ≤ m.tally))
        ∧ t.placement.ref = s.placement.ref ∧ t.slots = s.slots
        ∧ (s.placement.settled.get (otherAxis a) = false →
            t.placement.status = .moving ∧ t.mesh.applied = s.mesh.applied)
        ∧ (s.placement.settled.get (otherAxis a) = true →
            t.placement.status = .applying
              ∧ t.mesh.applied = { dx := s.placement.remX, dy := s.placement.remY }
              ∧ t.placement.needed =
                  (if s.mesh.st = .idle ∨ s.mesh.st = .waitRetire then s.mesh.gen + 1 else s.mesh.gen + 2))
        ∧ t.mem = s.mem ∧ s.SameNews t)
    ∧ ((s.axis a).cfg.bands.2.2 < (m.target - (s.axis a).counter.toInt).natAbs → 3 ≤ m.corrections →
      ∃ t, exec (.settleEnd a) s = .next t ∧ (t.axis a).st = .idle ∧ (t.axis a).move = none
        ∧ t.placement.status = .failed ∧ t.placement.firstFailure = some .settleFail
        ∧ t.placement.settled = s.placement.settled
        ∧ ((s.axis (otherAxis a)).runsPlacement = true →
            t.placement.ref = some k ∧ t.slots = s.slots
              ∧ ((s.axis (otherAxis a)).st.active = true → s.Stopped t (otherAxis a) .stopped))
        ∧ ((s.axis (otherAxis a)).runsPlacement = false →
            t.placement.ref = none
              ∧ t.slots.queue =
                  [{ slot := k
                     result := { cls := .ended, code := .settleFail }
                     body := [s.axes.h.counter, s.axes.v.counter] }]
              ∧ t.view k = .part kind tag taken .completing)
        ∧ t.mesh.applied = s.mesh.applied ∧ t.mem = s.mem ∧ s.SameNews t))
  ∧ (∀ (s : State) (e : Entry) (rest : List Entry) (left : Nat) (sn : Snapshot) (k : SlotId) (kind : BitVec 6) (tag : BitVec 8)
      (taken : Bool), s.hold = .running → s.path.host = none → s.path.buffer = e :: rest →
    s.path.port = some { kind := .drain, left := left } → e.producer = .meshSelector → s.mesh.snapshot = some sn →
    s.mesh.waiting = [] → s.slots.queue = [] → s.slots.writer = Initial.progress → s.placement.ref = some k →
    s.view k = .part kind tag taken .placement →
    (s.placement.status = .applying → (sn.gen - s.placement.needed).toNat < 32768 →
      ∃ t, exec .memoryAnswer s = .next t
        ∧ t.placement = { s.placement with status := .settled, ref := none }
        ∧ t.view k = .part kind tag taken .completing
        ∧ t.slots.queue =
            [{ slot := k
               result := { cls := .done, code := if s.placement.noisy then .okNoisy else .ok }
               body :=
                 (match s.placement.orientation with
                    | .floor => [signedWord s.placement.optical.h, signedWord s.placement.optical.v]
                    | .ceiling => [signedWord (-s.placement.optical.h), signedWord (-s.placement.optical.v)])
                   ++ [signedWord s.placement.remX, signedWord s.placement.remY, s.axes.h.counter, s.axes.v.counter] }]
        ∧ s.AxesSameButDrive t ∧ s.SameTime t ∧ s.SameCooling t)
    ∧ (s.placement.status ≠ .applying ∨ 32768 ≤ (sn.gen - s.placement.needed).toNat →
      ∃ t, exec .memoryAnswer s = .next t ∧ t.placement = s.placement ∧ t.view k = s.view k ∧ t.slots.queue = []
        ∧ s.AxesSameButDrive t ∧ s.SameTime t ∧ s.SameCooling t))

/-- The twentieth settle period (R50): inside the deadband the direct move ends DONE, OK_NOISY from a tally of 64 on; outside it
a correction begins, up to three; then the move ends ENDED/SETTLE_FAIL. The model's choice (log 27): a correction carries on the
hold time that the move brought into the settle. -/
def Obligations.SettleEnd : Prop :=
  ∀ (s : State) (a : AxisId) (m : Move) (k : SlotId), s.Ready → (s.axis a).st = .settling → (s.axis a).move = some m →
    m.kind = .directMove → m.owner = some k → m.settleCount = 19 → (s.axis a).queue = [] → (s.axis a).stopWait = [] →
    (s.axis a).pendingPark = false →
    ((s.axis a).cfg.bands.2.2 < (m.target - (s.axis a).counter.toInt).natAbs → m.corrections < 3 →
      ∃ t, exec (.settleEnd a) s = .next t ∧ (t.axis a).st = .moving
        ∧ (t.axis a).move = some { m with corrections := m.corrections + 1, stallCount := 0, settleCount := 0 }
        ∧ t.slots = s.slots ∧ t.mem = s.mem ∧ t.placement = s.placement ∧ s.SameNews t)
    ∧ (∀ r : Result,
      (((m.target - (s.axis a).counter.toInt).natAbs ≤ (s.axis a).cfg.bands.2.2 ∧ m.tally < 64
          ∧ r = { cls := .done, code := .ok })
        ∨ ((m.target - (s.axis a).counter.toInt).natAbs ≤ (s.axis a).cfg.bands.2.2 ∧ 64 ≤ m.tally
          ∧ r = { cls := .done, code := .okNoisy })
        ∨ ((s.axis a).cfg.bands.2.2 < (m.target - (s.axis a).counter.toInt).natAbs ∧ 3 ≤ m.corrections
          ∧ r = { cls := .ended, code := .settleFail })) →
      ∃ t, exec (.settleEnd a) s = .next t ∧ (t.axis a).st = .idle ∧ (t.axis a).move = none
        ∧ (t.axis a).drive.duty = 0 ∧ (t.axis a).counter = (s.axis a).counter
        ∧ t.slots.queue =
            [{ slot := k
               result := r
               body := [(s.axis a).counter, signedWord m.target, natWord m.corrections, natWord m.limited,
                 natWord (min 65535 m.tally)] }]
        ∧ t.clock = (s.passMs (s.axis a).periodTimer).clock ∧ t.mem = s.mem ∧ t.placement = s.placement ∧ s.SameNews t)

/-- STOPPING ends at the tenth quiet period in a row, or at the 500th period if that one is not the tenth quiet one, with
STOP_SLOW and the position (R52): the axis is IDLE, the direct move ends with the result that was set, and every stop that
waited ends DONE/OK after it. -/
def Obligations.StoppingEnds : Prop :=
  ∀ (s : State) (a : AxisId) (m : Move) (k : SlotId) (r : Result), s.Ready → (s.axis a).st = .stopping →
    (s.axis a).move = some m → m.kind = .directMove → m.owner = some k → m.result = some r → (s.axis a).queue = [] →
    (s.axis a).pendingPark = false →
    (∀ c : Instr,
      (((s.axis a).counter = (s.axis a).prevCount ∧ m.quiet = 9 ∧ c = .stoppingEnd a)
        ∨ (((s.axis a).counter ≠ (s.axis a).prevCount ∨ m.quiet < 9) ∧ m.stops = 499 ∧ s.RingOpen ∧ c = .stopSlow a)) →
      ∃ t, exec c s = .next t ∧ (t.axis a).st = .idle ∧ (t.axis a).move = none ∧ (t.axis a).stopWait = []
        ∧ (t.axis a).counter = (s.axis a).counter
        ∧ t.slots.queue =
            { slot := k
              result := r
              body := [(s.axis a).counter, signedWord m.target, natWord m.corrections, natWord m.limited,
                natWord (min 65535 m.tally)] }
              :: (s.axis a).stopWait.map (fun q =>
                { slot := q, result := { cls := .done, code := .ok }, body := [(s.axis a).counter] })
        ∧ (c = .stoppingEnd a → s.SameNews t)
        ∧ (c = .stopSlow a →
            s.Raises t (eventCode .stopSlow (axisNumber a)) (s.axis a).counter 0 ∧ t.notice = s.notice)
        ∧ t.clock = (s.passMs (s.axis a).periodTimer).clock ∧ t.mem = s.mem ∧ t.placement = s.placement)

/-- A home search fails (R27): its search timer expires, or a counted transition takes the travel in the home direction beyond
the span; the axis is in STOPPING with the result ENDED/HOME_FAIL unless a result was set, and HOMED stays clear. The slip
check (R30): a qualified index event on a homed axis in MOVING or SETTLING, more than twice the deadband from the home value,
clears HOMED, raises SLIP with the counter and the home value, and stops the move with ENDED/SLIP; within it nothing but the
filtered level changes. The model's choice (log 36): the travel is the difference of the two signed counts, formed without
wrapping also where the counter has wrapped during the search. -/
def Obligations.HomeTimeout : Prop :=
  (∀ (s : State) (a : AxisId) (m : Move) (left : Nat), s.Quiet → (s.axis a).st = .homing → (s.axis a).move = some m →
    (s.axis a).searchTimer = some left →
    ∃ t, exec (.homeTimeout a) s = .next t ∧ (t.axis a).st = .stopping ∧ (t.axis a).drive.duty = 0
      ∧ (t.axis a).searchTimer = none ∧ (t.axis a).homed = (s.axis a).homed
      ∧ (∃ n, (t.axis a).move = some n ∧ n.owner = m.owner
          ∧ n.result = some (m.result.getD { cls := .ended, code := .homeFail }))
      ∧ t.clock = (s.passMs left).clock ∧ t.mem = s.mem ∧ t.slots = s.slots ∧ t.placement = s.placement ∧ s.SameNews t)
  ∧ (∀ (s : State) (a : AxisId) (m : Move) (left : Nat) (d travel : Int), s.Quiet → (s.axis a).st = .homing →
    (s.axis a).move = some m → (s.axis a).enc.i.filtered = false → (s.axis a).enc.a.timing = some left →
    (s.axis a).enc.a.raw ≠ (s.axis a).enc.a.filtered →
    d = countDelta (s.axis a).cfg.encoder.mode
      ((s.axis a).enc.a.filtered, (s.axis a).enc.b.filtered) ((s.axis a).enc.a.raw, (s.axis a).enc.b.filtered) →
    d ≠ 0 →
    travel =
      (if (s.axis a).cfg.encoder.homePositive then ((s.axis a).counter + signedWord d).toInt - m.origin.toInt
        else m.origin.toInt - ((s.axis a).counter + signedWord d).toInt) →
    ∃ t, exec (.filterAccept a { a := true, b := false, i := false }) s = .next t
      ∧ (t.axis a).counter = (s.axis a).counter + signedWord d ∧ (t.axis a).homed = (s.axis a).homed
      ∧ (((s.axis a).cfg.span : Int) < travel →
          s.Stopped t a .homeFail ∧ (t.axis a).searchTimer = none
            ∧ ∃ n, (t.axis a).move = some n ∧ n.failTravel = travel)
      ∧ (travel ≤ ((s.axis a).cfg.span : Int) → (t.axis a).st = .homing ∧ (t.axis a).move = some m)
      ∧ t.clock = (s.pass left).clock ∧ t.mem = s.mem ∧ t.slots = s.slots ∧ t.placement = s.placement ∧ s.SameNews t)
  ∧ (∀ (s : State) (a : AxisId) (m : Move) (left : Nat), s.Quiet → s.RingOpen → s.RingInv →
    ((s.axis a).st = .moving ∨ (s.axis a).st = .settling) → (s.axis a).move = some m → (s.axis a).homed = true →
    (s.axis a).enc.i = { raw := true, filtered := false, timing := some left } →
    (s.axis a).enc.a.filtered = (s.axis a).cfg.encoder.phaseA →
    (s.axis a).enc.b.filtered = (s.axis a).cfg.encoder.phaseB →
    ∃ t, exec (.filterAccept a { a := false, b := false, i := true }) s = .next t
      ∧ (t.axis a).counter = (s.axis a).counter ∧ (t.axis a).posTime = (s.axis a).posTime
      ∧ (((s.axis a).counter.toInt - (s.axis a).cfg.homeValue).natAbs ≤ 2 * (s.axis a).cfg.bands.2.2 →
          (t.axis a).homed = true ∧ (t.axis a).st = (s.axis a).st ∧ (t.axis a).move = some m ∧ s.NoEvent t)
      ∧ (2 * (s.axis a).cfg.bands.2.2 < ((s.axis a).counter.toInt - (s.axis a).cfg.homeValue).natAbs →
          (t.axis a).homed = false ∧ s.Stopped t a .slip ∧ t.budget.desire.get a = .zero
            ∧ s.Raises t (eventCode .slip (axisNumber a)) (s.axis a).counter (signedWord (s.axis a).cfg.homeValue))
      ∧ t.clock = (s.pass left).clock ∧ t.mem = s.mem ∧ t.slots.views = s.slots.views ∧ t.slots.queue = s.slots.queue
      ∧ t.placement = s.placement ∧ t.notice = s.notice)

/-! ### Lines, fans and temperatures -/

/-- INTERLOCK (R56): its assertion stops every axis in HOMING, MOVING or SETTLING with the result INTERLOCKED and raises
INTERLOCK_ON with their number; its release raises INTERLOCK_OFF. The model's choice (log 7): a command for an edge to the
level the line has changes nothing. SUPPLY_LOW (R117): the capacity is 40 while it is asserted and 64 while it is not; each
edge raises its event with the new capacity and the total fan draw, and the allotments follow. -/
def Obligations.LineEdges : Prop :=
  (∀ s : State, s.Ready → s.RingOpen →
    (s.pins.interlock = false →
      ∃ t, exec .interlockAsserted s = .next t ∧ t.pins = { s.pins with interlock := true }
        ∧ (∀ a, (s.axis a).st.active = true → (t.axis a).st = .stopping ∧ (t.axis a).drive.duty = 0
            ∧ ∀ m, (s.axis a).move = some m → ∃ n, (t.axis a).move = some n ∧ n.owner = m.owner
                ∧ n.result = some (m.result.getD { cls := .ended, code := .interlocked }))
        ∧ (∀ a, (s.axis a).st.active = false → (t.axis a).st = (s.axis a).st ∧ (t.axis a).move = (s.axis a).move)
        ∧ s.Records t (eventCode .interlockOn 0) (natWord s.activeCount) 0
        ∧ t.mem = s.mem ∧ t.clock = s.clock ∧ t.slots = s.slots ∧ t.placement = s.placement ∧ s.SameCooling t
        ∧ s.SameMesh t ∧ t.notice = s.notice)
    ∧ (s.pins.interlock = true →
      ∃ t, exec .interlockReleased s = .next t ∧ t.pins = { s.pins with interlock := false }
        ∧ s.Records t (eventCode .interlockOff 0) 0 0
        ∧ t.mem = s.mem ∧ t.clock = s.clock ∧ t.slots = s.slots ∧ s.SameLens t ∧ s.SameCooling t ∧ s.SameMesh t
        ∧ t.notice = s.notice)
    ∧ (s.pins.interlock = true → exec .interlockAsserted s = .next s)
    ∧ (s.pins.interlock = false → exec .interlockReleased s = .next s))
  ∧ (∀ s : State, s.Ready → s.RingOpen →
    (s.pins.supplyLow = false →
      ∃ t, exec .supplyLowAsserted s = .next t ∧ t.pins = { s.pins with supplyLow := true } ∧ t.budget.capacity = 40
        ∧ t.budget.desire = s.budget.desire ∧ t.budget.order = s.budget.order ∧ t.budget.allot = t.allotNow
        ∧ s.Records t (eventCode .supplyLow 0) 40 (natWord s.totalDraw)
        ∧ s.AxesSameButDrive t ∧ t.mem = s.mem ∧ t.clock = s.clock ∧ t.slots = s.slots ∧ t.placement = s.placement
        ∧ s.SameCooling t ∧ s.SameMesh t ∧ t.notice = s.notice)
    ∧ (s.pins.supplyLow = true →
      ∃ t, exec .supplyLowDeasserted s = .next t ∧ t.pins = { s.pins with supplyLow := false } ∧ t.budget.capacity = 64
        ∧ t.budget.desire = s.budget.desire ∧ t.budget.order = s.budget.order ∧ t.budget.allot = t.allotNow
        ∧ s.Records t (eventCode .supplyOk 0) 64 (natWord s.totalDraw)
        ∧ s.AxesSameButDrive t ∧ t.mem = s.mem ∧ t.clock = s.clock ∧ t.slots = s.slots ∧ t.placement = s.placement
        ∧ s.SameCooling t ∧ s.SameMesh t ∧ t.notice = s.notice))

/-- The fan tick (R84): a commanded duty above the demand falls by 5, not below the demand; a result below 20 becomes 0. The
kick timer expires (R87): RUN at the commanded duty, a fresh 400 ms tach window, no capture, the 10 s clean timer. The clean
timer expires (R92): the retries return to 0. A tick comes at a whole second of uptime, however
much time has passed without one, for as long as the uptime counter does not wrap (R84). The model's choice (log 29): the next
tick is 1000 ms away in every state, also where the counter wraps. -/
def Obligations.FanTickAndTimers : Prop :=
  (∀ (s : State), s.Quiet →
    ∃ t, exec .fanTick s = .next t
      ∧ (∀ f, (t.fan f).commanded =
          if (s.fan f).commanded ≤ (s.fan f).demand then (s.fan f).commanded
          else if max ((s.fan f).commanded - 5) (s.fan f).demand < 20 then 0
          else max ((s.fan f).commanded - 5) (s.fan f).demand)
      ∧ (∀ f, (t.fan f).demand = (s.fan f).demand ∧ (t.fan f).retries = (s.fan f).retries
          ∧ ((s.fan f).st = .failed → (t.fan f).st = .failed)
          ∧ ((t.fan f).commanded < (s.fan f).commanded → (s.fan f).st = .run → 0 < (t.fan f).commanded →
              (t.fan f).st = .run ∧ (t.fan f).drive = (t.fan f).commanded))
      ∧ t.clock.fanTick = 1000 ∧ t.clock.uptime = (s.passMs s.clock.fanTick).clock.uptime
      ∧ (s.ClockInv → s.OnSeconds → s.clock.uptime.toNat + s.clock.fanTick < 2 ^ 32 → t.clock.uptime.toNat % 1000 = 0)
      ∧ t.mem = s.mem ∧ t.slots = s.slots ∧ t.placement = s.placement ∧ t.events = s.events ∧ t.notice = s.notice)
  ∧ (∀ (s : State) (us : Nat), s.OnSeconds → s.hold ≠ .powerOn →
    s.clock.uptime.toNat + (s.clock.usInMs + us) / 1000 < 2 ^ 32 → (s.pass us).OnSeconds)
  ∧ (∀ (s : State) (f : FanId) (left : Nat), s.Quiet →
    ((s.fan f).kickTimer = some left →
      ∃ t, exec (.kickEnd f) s = .next t ∧ (t.fan f).st = .run ∧ (t.fan f).drive = (s.fan f).commanded
        ∧ (t.fan f).commanded = (s.fan f).commanded ∧ (t.fan f).kickTimer = none ∧ (t.fan f).tachWindow = some 0
        ∧ (t.fan f).capValid = false ∧ (t.fan f).cleanTimer = some 10000 ∧ (t.fan f).retries = (s.fan f).retries
        ∧ (∀ g, g ≠ f → (t.fan g).st = (s.fan g).st ∧ (t.fan g).drive = (s.fan g).drive)
        ∧ t.clock = (s.passMs left).clock ∧ t.mem = s.mem ∧ t.slots = s.slots ∧ t.placement = s.placement
        ∧ t.events = s.events ∧ t.notice = s.notice)
    ∧ ((s.fan f).cleanTimer = some left →
      ∃ t, exec (.cleanTimerExpiry f) s = .next t ∧ (t.fan f).retries = 0 ∧ (t.fan f).cleanTimer = none
        ∧ (t.fan f).st = (s.fan f).st ∧ (t.fan f).commanded = (s.fan f).commanded ∧ (t.fan f).drive = (s.fan f).drive
        ∧ t.clock = (s.passMs left).clock ∧ t.mem = s.mem ∧ t.slots = s.slots ∧ t.placement = s.placement
        ∧ t.budget = s.budget ∧ t.events = s.events ∧ t.notice = s.notice))

/-- A tachometer edge within the tach window (R88): the first one after a clear captures the timer; a later one closer than
500 microseconds is ignored; any other sets the RPM to 30000000 over the period, at most 60000 and, for a period of at most
400 ms, at least 75, and captures. Each accepted edge restarts the 400 ms window, which counts the microseconds since. The
tach window expires (R89 to R91): RPM 0 and no capture. In RUN it is a stall: up to the third the fan kicks again and
FAN_STALL is raised; the fourth fails it, at duty 100, and sets the FAN notice. An edge later than the window finds it
expired, and is a first one. -/
def Obligations.Tachometer : Prop :=
  (∀ (s : State) (f : FanId) (elapsed : Word), s.Quiet →
    (∀ n, (s.fan f).tachWindow = some n → n + elapsed.toNat ≤ 400000) →
    ∃ t, exec (.tachEdge f elapsed) s = .next t
      ∧ t.clock = (s.pass elapsed.toNat).clock ∧ t.clock.usTimer = s.clock.usTimer + elapsed
      ∧ ((s.fan f).capValid = false →
          (t.fan f).capValid = true ∧ (t.fan f).capTime = t.clock.usTimer ∧ (t.fan f).rpm = (s.fan f).rpm
            ∧ (t.fan f).tachWindow = some 0)
      ∧ ((s.fan f).capValid = true → (t.clock.usTimer - (s.fan f).capTime).toNat < 500 →
          (t.fan f).capTime = (s.fan f).capTime ∧ (t.fan f).rpm = (s.fan f).rpm
            ∧ (t.fan f).tachWindow = (s.fan f).tachWindow.map (fun n => n + elapsed.toNat))
      ∧ ((s.fan f).capValid = true → 500 ≤ (t.clock.usTimer - (s.fan f).capTime).toNat →
          (t.fan f).capTime = t.clock.usTimer
            ∧ (t.fan f).rpm = 30000000 / (t.clock.usTimer - (s.fan f).capTime).toNat
            ∧ (t.fan f).rpm ≤ 60000 ∧ ((t.clock.usTimer - (s.fan f).capTime).toNat ≤ 400000 → 75 ≤ (t.fan f).rpm)
            ∧ (t.fan f).tachWindow = some 0)
      ∧ (t.fan f).st = (s.fan f).st ∧ (t.fan f).commanded = (s.fan f).commanded ∧ (t.fan f).drive = (s.fan f).drive
      ∧ (∀ g, g ≠ f → (t.fan g).rpm = (s.fan g).rpm ∧ (t.fan g).capTime = (s.fan g).capTime)
      ∧ t.mem = s.mem ∧ t.slots = s.slots ∧ t.events = s.events ∧ t.notice = s.notice)
  ∧ (∀ (s : State) (f : FanId) (elapsed : Word) (n : Nat), s.Ready → s.RingOpen → (s.fan f).tachWindow = some n →
    400000 < n + elapsed.toNat →
    ∃ t, exec (.tachEdge f elapsed) s = .next t ∧ t.clock.usTimer = s.clock.usTimer + elapsed
      ∧ (t.fan f).rpm = 0 ∧ (t.fan f).capValid = true ∧ (t.fan f).capTime = t.clock.usTimer
      ∧ (t.fan f).tachWindow = some 0
      ∧ ((s.fan f).st ≠ .run → (t.fan f).st = (s.fan f).st ∧ t.events = s.events ∧ t.notice = s.notice)
      ∧ ((s.fan f).st = .run → (s.fan f).retries < 3 → 0 < (s.fan f).commanded →
          (t.fan f).st = .kick ∧ (t.fan f).drive = 100 ∧ (t.fan f).retries = (s.fan f).retries + 1
            ∧ s.RaisesAt t (s.pass (400000 - n)).clock.uptime (eventCode .fanStall (fanNumber f))
                (natWord ((s.fan f).retries + 1)) (natWord (s.fan f).commanded)
            ∧ t.notice = s.notice)
      ∧ t.mem = s.mem ∧ t.slots = s.slots)
  ∧ (∀ (s : State) (f : FanId) (n : Nat), s.Ready → s.RingOpen → (s.fan f).tachWindow = some n →
    ∃ t, exec (.tachWindowExpiry f) s = .next t ∧ (t.fan f).rpm = 0 ∧ (t.fan f).capValid = false
      ∧ (t.fan f).tachWindow = none ∧ t.clock = (s.pass (400000 - n)).clock ∧ t.mem = s.mem ∧ t.slots = s.slots
      ∧ ((s.fan f).st ≠ .run → (t.fan f).st = (s.fan f).st ∧ t.events = s.events ∧ t.notice = s.notice)
      ∧ ((s.fan f).st = .run → (s.fan f).retries < 3 → 0 < (s.fan f).commanded →
          (t.fan f).st = .kick ∧ (t.fan f).kickTimer = some 500 ∧ (t.fan f).drive = 100 ∧ (t.fan f).cleanTimer = none
            ∧ (t.fan f).retries = (s.fan f).retries + 1 ∧ (t.fan f).commanded = (s.fan f).commanded
            ∧ s.Records t (eventCode .fanStall (fanNumber f)) (natWord ((s.fan f).retries + 1)) (natWord (s.fan f).commanded)
            ∧ t.notice = s.notice)
      ∧ ((s.fan f).st = .run → (s.fan f).retries = 3 → s.power.mode ≠ .standby →
          (t.fan f).st = .failed ∧ (t.fan f).drive = 100 ∧ (t.fan f).retries = 4
            ∧ t.notice.pend.getLsbD 1 = true ∧ Level.hot.rank ≤ t.thermal.overall.rank))

/-- A completed reading (R99 to R106): a valid one becomes the reading and moves the level by R100; the second invalid one in
a row puts the channel in FAULT, and the fourth valid one in a row takes it out. In the same step the fans that the channel
governs take the curve's duty (R109), the overall level follows with THERMAL_LEVEL (R103), each fan's demand is formed anew
and a rise commanded at once (R82, R83, R104), and entering CRITICAL sets the cut latch and THERMAL and stops the axes (R106).
In a cool-down a SOURCE reading that leaves the three conditions true ends it (R131); in STANDBY a change of the highest level
to HOT or above begins a re-cool (R134). The demand is the largest of the terms that apply, at least 20 unless 0, and 0 in
STANDBY (R82). The level after a valid reading (R100): at or above a higher threshold it rises to the highest one reached;
below the present threshold less the hysteresis it falls by one; else it holds. The model's choice (log 43): where the fourth
valid reading clears the fault and moves the level too, the overall level is recomputed once. The model's choice (log 46):
minimum met keeps its value outside COOLDOWN. -/
def Obligations.Temperatures : Prop :=
  (∀ (s : State) (c : ChannelId) (code : Int), s.Quiet → s.power.mode = .run →
    ∃ t, exec (.temperatureReading c code) s = .next t
      ∧ (t.channel c).timer = 250 ∧ (t.channel c).latest = code ∧ (t.channel c).thr = (s.channel c).thr
      ∧ (-80 ≤ code → code ≤ 300 →
          (t.channel c).reading = code ∧ (t.channel c).seen = true ∧ (t.channel c).latestValid = true
            ∧ (t.channel c).invalidStreak = 0 ∧ (t.channel c).validStreak = min 4 ((s.channel c).validStreak + 1)
            ∧ (t.channel c).fault = ((s.channel c).fault && decide ((s.channel c).validStreak + 1 < 4))
            ∧ (t.channel c).level = nextLevel (s.channel c).thr (s.channel c).level code
            ∧ ∀ f, (t.fan f).curve =
                if (s.curveOf f).channel = c then curveAt (s.curveOf f).points code else (s.fan f).curve)
      ∧ (code < -80 ∨ 300 < code →
          (t.channel c).reading = (s.channel c).reading ∧ (t.channel c).seen = (s.channel c).seen
            ∧ (t.channel c).latestValid = false ∧ (t.channel c).validStreak = 0
            ∧ (t.channel c).invalidStreak = min 2 ((s.channel c).invalidStreak + 1)
            ∧ (t.channel c).fault = ((s.channel c).fault || decide (1 ≤ (s.channel c).invalidStreak))
            ∧ (t.channel c).level = (s.channel c).level
            ∧ ∀ f, (t.fan f).curve = (s.fan f).curve)
      ∧ t.thermal.overall = t.overallNow
      ∧ (t.thermal.overall = .critical → s.thermal.overall ≠ .critical →
          t.thermal.cutLatch = true ∧ t.notice.pend.getLsbD 0 = true ∧ (∀ a, (t.axis a).st.active = false)
            ∧ ∀ a, (s.axis a).st.active = true → s.Stopped t a .thermalBlock)
      ∧ (t.thermal.overall ≠ .critical → t.thermal.cutLatch = s.thermal.cutLatch
          ∧ ∀ x : NoticeSource, x ≠ .event → t.notice.pend.getLsbD x.prio = s.notice.pend.getLsbD x.prio)
      ∧ (∀ f, (s.fan f).commanded ≤ (t.fan f).commanded ∧ (t.fan f).demand ≤ (t.fan f).commanded
          ∧ (t.fan f).demand = t.demandOf f)
      ∧ (t.thermal.overall = s.thermal.overall → ∀ f, (t.fan f).commanded = max (s.fan f).commanded (t.fan f).demand)
      ∧ (s.RingOpen → s.RingInv →
          ((t.channel c).fault = (s.channel c).fault ∨ (t.channel c).fault = false →
            (t.thermal.overall = s.thermal.overall → s.NoEvent t)
              ∧ (t.thermal.overall ≠ s.thermal.overall →
                  s.Raises t (eventCode .thermalLevel (channelNumber c)) (natWord t.thermal.overall.rank)
                    (natWord s.thermal.overall.rank)))
          ∧ ((s.channel c).fault = false → (t.channel c).fault = true → t.thermal.overall = s.thermal.overall →
              s.Raises t (eventCode .channelFault (channelNumber c)) (signedWord code) (signedWord (s.channel c).reading)))
      ∧ t.power = s.power ∧ t.placement = s.placement ∧ t.mem = s.mem ∧ t.slots = s.slots
      ∧ t.clock = (s.passMs (s.channel c).timer).clock)
  ∧ (∀ (s : State) (code : Int) (k : SlotId) (now : Power), s.Ready → s.power.mode = .cooldown → s.power.ref = some k →
    now = (s.passMs (s.channel .source).timer).power →
    ∃ t, exec (.temperatureReading .source code) s = .next t
      ∧ ((now.minMet = true ∧ (t.channel .source).fault = false ∧ (t.channel .source).reading ≤ 90
            ∧ now.park.h ≠ .waiting ∧ now.park.v ≠ .waiting) →
          t.highestLevel.rank < Level.hot.rank →
          t.power = { now with mode := .standby, ref := none } ∧ t.release = true
            ∧ t.slots.queue =
                [{ slot := k
                   result := { cls := .done, code := .ok }
                   body := [parkWord now.park.h, parkWord now.park.v, natWord now.elapsed] }]
            ∧ t.notice.pend.getLsbD 4 = true ∧ (∀ d, (t.channel d).timer = 2000)
            ∧ ∀ f, (t.fan f).demand = 0 ∧ (t.fan f).commanded = 0)
      ∧ ((now.minMet = false ∨ (t.channel .source).fault = true ∨ 90 < (t.channel .source).reading
            ∨ now.park.h = .waiting ∨ now.park.v = .waiting) →
          t.power = now ∧ t.slots = s.slots ∧ (t.channel .source).timer = 250))
  ∧ (∀ (s : State) (c : ChannelId) (code : Int), s.Quiet → s.power.mode = .standby →
    ∃ t, exec (.temperatureReading c code) s = .next t
      ∧ ((t.highestLevel = s.highestLevel ∨ t.highestLevel.rank < Level.hot.rank) →
          t.power = s.power ∧ (t.channel c).timer = 2000 ∧ ∀ f, (t.fan f).demand = 0)
      ∧ (t.highestLevel ≠ s.highestLevel → Level.hot.rank ≤ t.highestLevel.rank →
          t.power =
              { mode := .cooldown
                kind := .recool
                elapsed := 0
                minMet := false
                park := { h := .notAsked, v := .notAsked }
                ref := none }
            ∧ t.release = false ∧ t.cut = true ∧ (∀ d, (t.channel d).timer = 250)
            ∧ (∀ f, 60 ≤ (t.fan f).demand ∧ (t.fan f).demand ≤ (t.fan f).commanded ∧ (t.fan f).demand = t.demandOf f
                ∧ ((s.fan f).st = .off → (t.fan f).st = .kick))
            ∧ t.notice.pend.getLsbD 4 = true)
      ∧ t.thermal.hb = s.thermal.hb ∧ t.placement = s.placement ∧ t.mem = s.mem ∧ t.slots = s.slots)
  ∧ (∀ (s : State) (f : FanId),
    (s.power.mode = .standby → s.demandOf f = 0)
      ∧ ∀ m, s.power.mode ≠ .standby → s.DemandTerm f m → (∀ v, s.DemandTerm f v → v ≤ m) →
          s.demandOf f = if m = 0 then 0 else max m 20)
  ∧ (∀ (t : Thresholds) (r : Int), t.warm < t.hot → t.hot < t.critical → 0 ≤ t.hyst →
    (t.critical ≤ r → ∀ old, nextLevel t old r = .critical)
      ∧ (t.hot ≤ r → r < t.critical → nextLevel t .normal r = .hot ∧ nextLevel t .warm r = .hot ∧ nextLevel t .hot r = .hot)
      ∧ (t.warm ≤ r → r < t.hot → nextLevel t .normal r = .warm ∧ nextLevel t .warm r = .warm)
      ∧ (r < t.warm → nextLevel t .normal r = .normal)
      ∧ (r < t.warm → t.warm - t.hyst ≤ r → nextLevel t .warm r = .warm)
      ∧ (r < t.warm - t.hyst → nextLevel t .warm r = .normal)
      ∧ (r < t.hot → t.hot - t.hyst ≤ r → nextLevel t .hot r = .hot)
      ∧ (r < t.hot - t.hyst → nextLevel t .hot r = .warm)
      ∧ (r < t.critical → t.critical - t.hyst ≤ r → nextLevel t .critical r = .critical)
      ∧ (r < t.critical - t.hyst → nextLevel t .critical r = .hot))

/-- The heartbeat timer expires while armed (R113): autonomous mode, HOST_LOST with the uptime of the last heartbeat, every
active axis stopped with HOST_LOST, every fan outside STANDBY at 100. -/
def Obligations.HeartbeatTimeout : Prop :=
  ∀ (s : State) (left : Nat), s.Ready → s.RingOpen → s.thermal.hb = .armed → s.thermal.hbTimer = some left →
    ∃ t, exec .heartbeatTimeout s = .next t ∧ t.thermal.hb = .lost ∧ t.thermal.hbTimer = none ∧ t.dim = true
      ∧ t.thermal.lostAt = t.clock.uptime ∧ t.clock = (s.passMs left).clock
      ∧ s.Records t (eventCode .hostLost 0) s.thermal.lastBeat 0
      ∧ (∀ a, (s.axis a).st.active = true → (t.axis a).st = .stopping ∧ (t.axis a).drive.duty = 0
          ∧ ∀ m, (s.axis a).move = some m → ∃ n, (t.axis a).move = some n ∧ n.owner = m.owner
              ∧ n.result = some (m.result.getD { cls := .ended, code := .hostLost }))
      ∧ (∀ a, (s.axis a).st.active = false → (t.axis a).st = (s.axis a).st ∧ (t.axis a).move = (s.axis a).move)
      ∧ (s.power.mode ≠ .standby → ∀ f, 100 ≤ (t.fan f).demand ∧ 100 ≤ (t.fan f).commanded)
      ∧ t.mem = s.mem ∧ t.slots = s.slots ∧ t.placement = s.placement ∧ t.notice = s.notice

/-! ### Cool-down and mesh timers -/

/-- Elapsed reaches 60000 with the source hot or in FAULT (R131): the minimum is met, and the cool-down goes on. The end of a
cool-down with every channel below HOT (R131, R133): at the minimum when the source has cooled and no park is waited for,
DONE/OK; at 300000 ms whatever remains, ENDED/COOLDOWN_TIMEOUT, where a park that is waited for has the result
ENDED/COOLDOWN_TIMEOUT at once, pending or running (R132). The POWER_DOWN ends with the parks and the elapsed time,
STANDBY is entered, the fans stop, RELEASE is asserted, the readings slow down and POWER is set. With a channel HOT or above the
request ends alike, and a re-cool begins at once in place of STANDBY (R133, R134). The times stand on the clock invariant. -/
def Obligations.CooldownClock : Prop :=
  (∀ s : State, s.Quiet → s.ClockInv → s.power.mode = .cooldown → s.power.minMet = false → s.power.elapsed ≤ 60000 →
    (90 < s.thermal.channels.source.reading ∨ s.thermal.channels.source.fault = true ∨ s.power.park.h = .waiting
      ∨ s.power.park.v = .waiting) →
    ∃ t, exec .minimumMet s = .next t ∧ t.power = { s.power with minMet := true, elapsed := 60000 }
      ∧ t.clock = (s.passMs (60000 - s.power.elapsed)).clock ∧ t.mem = s.mem ∧ t.slots = s.slots
      ∧ t.placement = s.placement ∧ t.budget = s.budget ∧ s.SameNews t)
  ∧ (∀ (s : State) (c : Instr) (k : SlotId) (r : Result) (at_ : Nat), s.Ready → s.ClockInv → s.power.mode = .cooldown →
    s.power.ref = some k → s.power.elapsed ≤ at_ →
    ((c = .minimumMet ∧ s.power.minMet = false ∧ at_ = 60000 ∧ s.thermal.channels.source.reading ≤ 90
        ∧ s.thermal.channels.source.fault = false ∧ s.power.park.h ≠ .waiting ∧ s.power.park.v ≠ .waiting
        ∧ r = { cls := .done, code := .ok })
      ∨ (c = .cooldownTimeout ∧ at_ = 300000 ∧ r = { cls := .ended, code := .cooldownTimeout })) →
    let park : PerAxis Park :=
      { h := endedPark s.power.park.h .cooldownTimeout, v := endedPark s.power.park.v .cooldownTimeout }
    ∃ t, exec c s = .next t ∧ t.power.ref = none
      ∧ t.slots.queue = [{ slot := k, result := r, body := [parkWord park.h, parkWord park.v, natWord at_] }]
      ∧ (∀ a, s.ParkEnds t a .cooldownTimeout)
      ∧ (s.highestLevel.rank < Level.hot.rank →
          t.power.mode = .standby ∧ t.power.elapsed = at_ ∧ t.power.park = park ∧ t.release = true
            ∧ (∀ f, (t.fan f).demand = 0 ∧ (t.fan f).commanded = 0 ∧ (t.fan f).drive = 0)
            ∧ (∀ d, (t.channel d).timer = 2000 ∧ (t.channel d).reading = (s.channel d).reading))
      ∧ (Level.hot.rank ≤ s.highestLevel.rank →
          t.power =
              { mode := .cooldown
                kind := .recool
                elapsed := 0
                minMet := false
                park := { h := .notAsked, v := .notAsked }
                ref := none }
            ∧ t.release = false ∧ t.cut = true ∧ ∀ f, 60 ≤ (t.fan f).commanded)
      ∧ t.thermal.hb = .disarmed
      ∧ t.notice = { s.notice with pend := s.notice.pend ||| NoticeSource.power.bit }
      ∧ t.clock = (s.passMs (at_ - s.power.elapsed)).clock ∧ t.mem = s.mem ∧ t.placement = s.placement
      ∧ t.events.p = s.events.p)

/-- FSYNC, or the expiry of the retirement timer, frees a RETIRING bank (R74); the expiry raises FRAME_SYNC_MISSING, with the
bank code and the generation, once in a run of missing syncs. A generator that waited for the bank then takes its build (R71).
-/
def Obligations.RetiringBankIsFreed : Prop :=
  ∀ s : State, s.Ready → s.RingOpen →
    (∃ t, exec .fsync s = .next t ∧ t.mesh.retireTimer = none ∧ t.mesh.missingRun = false
      ∧ (∀ bank, t.mesh.mark bank = if s.mesh.mark bank = .retiring then .free else s.mesh.mark bank)
      ∧ (s.mesh.st = .waitRetire → s.mesh.dirty = true → s.mesh.awaitRead = false → s.mesh.mark s.mesh.target = .retiring →
          t.mesh.st = .building
            ∧ t.mesh.snapshot = some { params := s.meshParams, gen := s.mesh.gen + 1, bank := s.mesh.target })
      ∧ t.mesh.gen = s.mesh.gen ∧ s.SameGround t ∧ s.SameLens t ∧ s.SameCooling t ∧ s.SameNews t ∧ t.slots = s.slots)
    ∧ (∀ left bank, s.mesh.retireTimer = some left → s.mesh.mark bank = .retiring → s.mesh.mark (otherBank bank) ≠ .retiring →
      ∃ t, exec .retirementTimeout s = .next t ∧ t.mesh.retireTimer = none ∧ t.mesh.missingRun = true
        ∧ (∀ bank, t.mesh.mark bank = if s.mesh.mark bank = .retiring then .free else s.mesh.mark bank)
        ∧ (s.mesh.missingRun = true → s.SameNews t)
        ∧ (s.mesh.missingRun = false →
            s.Raises t (eventCode .frameSyncMissing 0) (natWord bank.number) (s.mesh.gen.setWidth 32) ∧ t.notice = s.notice)
        ∧ (s.mesh.st = .waitRetire → s.mesh.dirty = true → s.mesh.awaitRead = false →
            s.mesh.mark s.mesh.target = .retiring →
            t.mesh.st = .building
              ∧ t.mesh.snapshot = some { params := s.meshParams, gen := s.mesh.gen + 1, bank := s.mesh.target })
        ∧ t.mesh.gen = s.mesh.gen ∧ t.clock = (s.passMs left).clock ∧ t.mem = s.mem ∧ t.slots = s.slots
        ∧ t.placement = s.placement)

/-- The test of a selector word (R181), its use on the word that the reset-time read returns (R78, R79), whatever stands in the
buffer, and that every selector the part writes passes it. A word that names a bank sets the generation and the marks; one that
names none leaves generation 0 and two FREE banks, and the build of R79 goes to bank A. -/
def Obligations.SelectorNames : Prop :=
  (∀ (w : Word) (bank : Bank) (g : Half),
    readSelector w = some (bank, g) ↔
      w.extractLsb' 24 8 = 0 ∧ g = w.extractLsb' 8 16
        ∧ ((w.extractLsb' 0 8 = 1 ∧ bank = .a) ∨ (w.extractLsb' 0 8 = 2 ∧ bank = .b)))
  ∧ (∀ (bank : Bank) (g : Half), readSelector (selectorWord bank g) = some (bank, g))
  ∧ (∀ (s : State) (left : Nat), s.hold = .running → s.path.port = some { kind := .selector, left := left } →
    ∃ t, exec .memoryAnswer s = .next t ∧ t.mesh.awaitRead = false ∧ t.mem = s.mem
      ∧ (∀ bank g, readSelector (Memory.readWord s.mem (wordBase (s.addrOf 0x103))) = some (bank, g) →
          t.mesh.gen = g ∧ t.mesh.mark bank = .selected ∧ t.mesh.mark (otherBank bank) = .retiring
            ∧ t.mesh.retireTimer = some 100)
      ∧ (readSelector (Memory.readWord s.mem (wordBase (s.addrOf 0x103))) = none →
          t.mesh.gen = 0 ∧ t.mesh.markA = .free ∧ t.mesh.markB = .free ∧ t.mesh.retireTimer = none
            ∧ (s.mesh.st = .idle → s.mesh.dirty = true →
                t.mesh.st = .building ∧ t.mesh.snapshot = some { params := s.meshParams, gen := 1, bank := .a })))

/-! ### Invariants that every step keeps -/

/-- The memory list keeps its canonical form. The list is the model's own representation (log 1) of the memory behind the
port. -/
def Obligations.MemoryStaysCanonical : Prop :=
  ∀ s t : State, Memory.wf s.mem = true → step s = .next t → Memory.wf t.mem = true

/-- The in-service stack rises strictly toward the top, so it holds each source at most once (R170). -/
def Obligations.StackKeepsRising : Prop :=
  (∀ s t : State, stackRises s.notice.stack = true → step s = .next t → stackRises t.notice.stack = true)
    ∧ ∀ l : List NoticeSource, stackRises l = true → l.Nodup ∧ l.length ≤ 8

/-- The buffer, the streak and the refusal count stay within their ranges (R145, R148, R150). After every step nothing is left
to claim or grant while the part runs (log 10). Slots and their owners agree (R156): a slot stands at most once, on the
completion queue, an axis queue, as a running move, a waiting AXIS_STOP, the placement reference, the waiting list or the
POWER_DOWN reference, and only while the part holds it under that holder; and with no completion left the writer of
completions is at its start (R165). -/
def Obligations.PathStaysQuietAndInRange : Prop :=
  (∀ s t : State, s.PathInv → step s = .next t → t.PathInv)
  ∧ (∀ s t : State, s.QuietInv → step s = .next t → t.QuietInv)
  ∧ (∀ s t : State, s.SlotInv → step s = .next t → t.SlotInv)

/-- The lines DIM, CUT (R105) and RELEASE (R127). RELEASE is asserted only in STANDBY, and whenever it is asserted CUT is
asserted and every fan is commanded 0 and at rest (R127). -/
def Obligations.LinesFollowTheMode : Prop :=
  (∀ s : State,
    (s.dim = true ↔ s.thermal.overall = .hot ∨ s.thermal.overall = .critical ∨ s.thermal.hb = .lost)
      ∧ (s.cut = true ↔ s.thermal.cutLatch = true ∨ s.power.mode ≠ .run)
      ∧ (s.release = true ↔ s.power.mode = .standby))
  ∧ ((∀ s t : State, s.StandbyInv → step s = .next t → t.StandbyInv)
    ∧ ∀ s : State, s.StandbyInv → s.release = true →
        s.power.mode = .standby ∧ s.cut = true ∧ ∀ f, (s.fan f).commanded = 0 ∧ (s.fan f).drive = 0)

/-- The allotments in force are always those of the present capacity, fan draw, desires and order (R121, R122). -/
def Obligations.AllotmentsStayCurrent : Prop :=
  ∀ s t : State, s.AllotInv → step s = .next t → t.AllotInv

/-- The ring's occupancy stays between 0 and 32, and the outgoing records run from the queued P to P (R175 to R177). -/
def Obligations.RingStaysConsistent : Prop :=
  (∀ s t : State, s.RingInv → step s = .next t → t.RingInv) ∧ ∀ s : State, s.RingInv → s.events.occupancy ≤ 32

/-- The state right after reset satisfies every invariant, and is the release of a power-on reset with all straps and inputs low
(log 3). -/
def Obligations.InvariantsHoldAtReset : Prop :=
  Memory.wf State.reset.mem = true ∧ stackRises State.reset.notice.stack = true ∧ State.reset.PathInv
    ∧ State.reset.QuietInv ∧ State.reset.StandbyInv ∧ State.reset.AllotInv ∧ State.reset.RingInv ∧ State.reset.ClockInv
    ∧ State.reset.SlotInv
    ∧ exec .resetRelease
        (State.reset.powerOn
          { straps := { region := 0, orient := .floor }
            supplyLow := false
            interlock := false
            encH := { a := false, b := false, i := false }
            encV := { a := false, b := false, i := false } }) = .next State.reset

end
end

