-- ==== Sys2Proof/Laws/State.lean ====
section
/-! SUPPORT. One lemma per field per update of the state: what each named setter leaves alone and what it sets, and what
reading back gives. All by rfl, or by cases on the index. -/

namespace Sys2Proof.Machine

@[simp] theorem State.setAxis_pending (s : State) (a : AxisId) (x : Axis) : (s.setAxis a x).pending = s.pending := rfl
@[simp] theorem State.setAxis_free (s : State) (a : AxisId) (x : Axis) : (s.setAxis a x).free = s.free := rfl
@[simp] theorem State.setAxis_clock (s : State) (a : AxisId) (x : Axis) : (s.setAxis a x).clock = s.clock := rfl
@[simp] theorem State.setAxis_hold (s : State) (a : AxisId) (x : Axis) : (s.setAxis a x).hold = s.hold := rfl
@[simp] theorem State.setAxis_pins (s : State) (a : AxisId) (x : Axis) : (s.setAxis a x).pins = s.pins := rfl
@[simp] theorem State.setAxis_mem (s : State) (a : AxisId) (x : Axis) : (s.setAxis a x).mem = s.mem := rfl
@[simp] theorem State.setAxis_path (s : State) (a : AxisId) (x : Axis) : (s.setAxis a x).path = s.path := rfl
@[simp] theorem State.setAxis_slots (s : State) (a : AxisId) (x : Axis) : (s.setAxis a x).slots = s.slots := rfl
@[simp] theorem State.setAxis_placement (s : State) (a : AxisId) (x : Axis) : (s.setAxis a x).placement = s.placement := rfl
@[simp] theorem State.setAxis_mesh (s : State) (a : AxisId) (x : Axis) : (s.setAxis a x).mesh = s.mesh := rfl
@[simp] theorem State.setAxis_fans (s : State) (a : AxisId) (x : Axis) : (s.setAxis a x).fans = s.fans := rfl
@[simp] theorem State.setAxis_thermal (s : State) (a : AxisId) (x : Axis) : (s.setAxis a x).thermal = s.thermal := rfl
@[simp] theorem State.setAxis_budget (s : State) (a : AxisId) (x : Axis) : (s.setAxis a x).budget = s.budget := rfl
@[simp] theorem State.setAxis_power (s : State) (a : AxisId) (x : Axis) : (s.setAxis a x).power = s.power := rfl
@[simp] theorem State.setAxis_notice (s : State) (a : AxisId) (x : Axis) : (s.setAxis a x).notice = s.notice := rfl
@[simp] theorem State.setAxis_events (s : State) (a : AxisId) (x : Axis) : (s.setAxis a x).events = s.events := rfl

@[simp] theorem State.setFan_pending (s : State) (f : FanId) (x : Fan) : (s.setFan f x).pending = s.pending := rfl
@[simp] theorem State.setFan_free (s : State) (f : FanId) (x : Fan) : (s.setFan f x).free = s.free := rfl
@[simp] theorem State.setFan_clock (s : State) (f : FanId) (x : Fan) : (s.setFan f x).clock = s.clock := rfl
@[simp] theorem State.setFan_hold (s : State) (f : FanId) (x : Fan) : (s.setFan f x).hold = s.hold := rfl
@[simp] theorem State.setFan_pins (s : State) (f : FanId) (x : Fan) : (s.setFan f x).pins = s.pins := rfl
@[simp] theorem State.setFan_mem (s : State) (f : FanId) (x : Fan) : (s.setFan f x).mem = s.mem := rfl
@[simp] theorem State.setFan_path (s : State) (f : FanId) (x : Fan) : (s.setFan f x).path = s.path := rfl
@[simp] theorem State.setFan_slots (s : State) (f : FanId) (x : Fan) : (s.setFan f x).slots = s.slots := rfl
@[simp] theorem State.setFan_axes (s : State) (f : FanId) (x : Fan) : (s.setFan f x).axes = s.axes := rfl
@[simp] theorem State.setFan_placement (s : State) (f : FanId) (x : Fan) : (s.setFan f x).placement = s.placement := rfl
@[simp] theorem State.setFan_mesh (s : State) (f : FanId) (x : Fan) : (s.setFan f x).mesh = s.mesh := rfl
@[simp] theorem State.setFan_thermal (s : State) (f : FanId) (x : Fan) : (s.setFan f x).thermal = s.thermal := rfl
@[simp] theorem State.setFan_budget (s : State) (f : FanId) (x : Fan) : (s.setFan f x).budget = s.budget := rfl
@[simp] theorem State.setFan_power (s : State) (f : FanId) (x : Fan) : (s.setFan f x).power = s.power := rfl
@[simp] theorem State.setFan_notice (s : State) (f : FanId) (x : Fan) : (s.setFan f x).notice = s.notice := rfl
@[simp] theorem State.setFan_events (s : State) (f : FanId) (x : Fan) : (s.setFan f x).events = s.events := rfl

@[simp] theorem State.setChannel_pending (s : State) (c : ChannelId) (x : Channel) : (s.setChannel c x).pending = s.pending := rfl
@[simp] theorem State.setChannel_free (s : State) (c : ChannelId) (x : Channel) : (s.setChannel c x).free = s.free := rfl
@[simp] theorem State.setChannel_clock (s : State) (c : ChannelId) (x : Channel) : (s.setChannel c x).clock = s.clock := rfl
@[simp] theorem State.setChannel_hold (s : State) (c : ChannelId) (x : Channel) : (s.setChannel c x).hold = s.hold := rfl
@[simp] theorem State.setChannel_pins (s : State) (c : ChannelId) (x : Channel) : (s.setChannel c x).pins = s.pins := rfl
@[simp] theorem State.setChannel_mem (s : State) (c : ChannelId) (x : Channel) : (s.setChannel c x).mem = s.mem := rfl
@[simp] theorem State.setChannel_path (s : State) (c : ChannelId) (x : Channel) : (s.setChannel c x).path = s.path := rfl
@[simp] theorem State.setChannel_slots (s : State) (c : ChannelId) (x : Channel) : (s.setChannel c x).slots = s.slots := rfl
@[simp] theorem State.setChannel_axes (s : State) (c : ChannelId) (x : Channel) : (s.setChannel c x).axes = s.axes := rfl
@[simp] theorem State.setChannel_placement (s : State) (c : ChannelId) (x : Channel) : (s.setChannel c x).placement = s.placement := rfl
@[simp] theorem State.setChannel_mesh (s : State) (c : ChannelId) (x : Channel) : (s.setChannel c x).mesh = s.mesh := rfl
@[simp] theorem State.setChannel_fans (s : State) (c : ChannelId) (x : Channel) : (s.setChannel c x).fans = s.fans := rfl
@[simp] theorem State.setChannel_budget (s : State) (c : ChannelId) (x : Channel) : (s.setChannel c x).budget = s.budget := rfl
@[simp] theorem State.setChannel_power (s : State) (c : ChannelId) (x : Channel) : (s.setChannel c x).power = s.power := rfl
@[simp] theorem State.setChannel_notice (s : State) (c : ChannelId) (x : Channel) : (s.setChannel c x).notice = s.notice := rfl
@[simp] theorem State.setChannel_events (s : State) (c : ChannelId) (x : Channel) : (s.setChannel c x).events = s.events := rfl

@[simp] theorem State.setView_pending (s : State) (k : SlotId) (v : SlotView) : (s.setView k v).pending = s.pending := rfl
@[simp] theorem State.setView_free (s : State) (k : SlotId) (v : SlotView) : (s.setView k v).free = s.free := rfl
@[simp] theorem State.setView_clock (s : State) (k : SlotId) (v : SlotView) : (s.setView k v).clock = s.clock := rfl
@[simp] theorem State.setView_hold (s : State) (k : SlotId) (v : SlotView) : (s.setView k v).hold = s.hold := rfl
@[simp] theorem State.setView_pins (s : State) (k : SlotId) (v : SlotView) : (s.setView k v).pins = s.pins := rfl
@[simp] theorem State.setView_mem (s : State) (k : SlotId) (v : SlotView) : (s.setView k v).mem = s.mem := rfl
@[simp] theorem State.setView_path (s : State) (k : SlotId) (v : SlotView) : (s.setView k v).path = s.path := rfl
@[simp] theorem State.setView_axes (s : State) (k : SlotId) (v : SlotView) : (s.setView k v).axes = s.axes := rfl
@[simp] theorem State.setView_placement (s : State) (k : SlotId) (v : SlotView) : (s.setView k v).placement = s.placement := rfl
@[simp] theorem State.setView_mesh (s : State) (k : SlotId) (v : SlotView) : (s.setView k v).mesh = s.mesh := rfl
@[simp] theorem State.setView_fans (s : State) (k : SlotId) (v : SlotView) : (s.setView k v).fans = s.fans := rfl
@[simp] theorem State.setView_thermal (s : State) (k : SlotId) (v : SlotView) : (s.setView k v).thermal = s.thermal := rfl
@[simp] theorem State.setView_budget (s : State) (k : SlotId) (v : SlotView) : (s.setView k v).budget = s.budget := rfl
@[simp] theorem State.setView_power (s : State) (k : SlotId) (v : SlotView) : (s.setView k v).power = s.power := rfl
@[simp] theorem State.setView_notice (s : State) (k : SlotId) (v : SlotView) : (s.setView k v).notice = s.notice := rfl
@[simp] theorem State.setView_events (s : State) (k : SlotId) (v : SlotView) : (s.setView k v).events = s.events := rfl

@[simp] theorem State.setShadow_pending (s : State) (k : SlotId) (w : Fin 16) (x : Word) : (s.setShadow k w x).pending = s.pending := rfl
@[simp] theorem State.setShadow_free (s : State) (k : SlotId) (w : Fin 16) (x : Word) : (s.setShadow k w x).free = s.free := rfl
@[simp] theorem State.setShadow_clock (s : State) (k : SlotId) (w : Fin 16) (x : Word) : (s.setShadow k w x).clock = s.clock := rfl
@[simp] theorem State.setShadow_hold (s : State) (k : SlotId) (w : Fin 16) (x : Word) : (s.setShadow k w x).hold = s.hold := rfl
@[simp] theorem State.setShadow_pins (s : State) (k : SlotId) (w : Fin 16) (x : Word) : (s.setShadow k w x).pins = s.pins := rfl
@[simp] theorem State.setShadow_mem (s : State) (k : SlotId) (w : Fin 16) (x : Word) : (s.setShadow k w x).mem = s.mem := rfl
@[simp] theorem State.setShadow_path (s : State) (k : SlotId) (w : Fin 16) (x : Word) : (s.setShadow k w x).path = s.path := rfl
@[simp] theorem State.setShadow_axes (s : State) (k : SlotId) (w : Fin 16) (x : Word) : (s.setShadow k w x).axes = s.axes := rfl
@[simp] theorem State.setShadow_placement (s : State) (k : SlotId) (w : Fin 16) (x : Word) : (s.setShadow k w x).placement = s.placement := rfl
@[simp] theorem State.setShadow_mesh (s : State) (k : SlotId) (w : Fin 16) (x : Word) : (s.setShadow k w x).mesh = s.mesh := rfl
@[simp] theorem State.setShadow_fans (s : State) (k : SlotId) (w : Fin 16) (x : Word) : (s.setShadow k w x).fans = s.fans := rfl
@[simp] theorem State.setShadow_thermal (s : State) (k : SlotId) (w : Fin 16) (x : Word) : (s.setShadow k w x).thermal = s.thermal := rfl
@[simp] theorem State.setShadow_budget (s : State) (k : SlotId) (w : Fin 16) (x : Word) : (s.setShadow k w x).budget = s.budget := rfl
@[simp] theorem State.setShadow_power (s : State) (k : SlotId) (w : Fin 16) (x : Word) : (s.setShadow k w x).power = s.power := rfl
@[simp] theorem State.setShadow_notice (s : State) (k : SlotId) (w : Fin 16) (x : Word) : (s.setShadow k w x).notice = s.notice := rfl
@[simp] theorem State.setShadow_events (s : State) (k : SlotId) (w : Fin 16) (x : Word) : (s.setShadow k w x).events = s.events := rfl

@[simp] theorem State.setWriter_pending (s : State) (w : Progress) : (s.setWriter w).pending = s.pending := rfl
@[simp] theorem State.setWriter_free (s : State) (w : Progress) : (s.setWriter w).free = s.free := rfl
@[simp] theorem State.setWriter_clock (s : State) (w : Progress) : (s.setWriter w).clock = s.clock := rfl
@[simp] theorem State.setWriter_hold (s : State) (w : Progress) : (s.setWriter w).hold = s.hold := rfl
@[simp] theorem State.setWriter_pins (s : State) (w : Progress) : (s.setWriter w).pins = s.pins := rfl
@[simp] theorem State.setWriter_mem (s : State) (w : Progress) : (s.setWriter w).mem = s.mem := rfl
@[simp] theorem State.setWriter_path (s : State) (w : Progress) : (s.setWriter w).path = s.path := rfl
@[simp] theorem State.setWriter_axes (s : State) (w : Progress) : (s.setWriter w).axes = s.axes := rfl
@[simp] theorem State.setWriter_placement (s : State) (w : Progress) : (s.setWriter w).placement = s.placement := rfl
@[simp] theorem State.setWriter_mesh (s : State) (w : Progress) : (s.setWriter w).mesh = s.mesh := rfl
@[simp] theorem State.setWriter_fans (s : State) (w : Progress) : (s.setWriter w).fans = s.fans := rfl
@[simp] theorem State.setWriter_thermal (s : State) (w : Progress) : (s.setWriter w).thermal = s.thermal := rfl
@[simp] theorem State.setWriter_budget (s : State) (w : Progress) : (s.setWriter w).budget = s.budget := rfl
@[simp] theorem State.setWriter_power (s : State) (w : Progress) : (s.setWriter w).power = s.power := rfl
@[simp] theorem State.setWriter_notice (s : State) (w : Progress) : (s.setWriter w).notice = s.notice := rfl
@[simp] theorem State.setWriter_events (s : State) (w : Progress) : (s.setWriter w).events = s.events := rfl

@[simp] theorem State.queueEntry_pending (s : State) (o : Nat) (d : Word) (p : Producer) : (s.queueEntry o d p).pending = s.pending := rfl
@[simp] theorem State.queueEntry_free (s : State) (o : Nat) (d : Word) (p : Producer) : (s.queueEntry o d p).free = s.free := rfl
@[simp] theorem State.queueEntry_clock (s : State) (o : Nat) (d : Word) (p : Producer) : (s.queueEntry o d p).clock = s.clock := rfl
@[simp] theorem State.queueEntry_hold (s : State) (o : Nat) (d : Word) (p : Producer) : (s.queueEntry o d p).hold = s.hold := rfl
@[simp] theorem State.queueEntry_pins (s : State) (o : Nat) (d : Word) (p : Producer) : (s.queueEntry o d p).pins = s.pins := rfl
@[simp] theorem State.queueEntry_mem (s : State) (o : Nat) (d : Word) (p : Producer) : (s.queueEntry o d p).mem = s.mem := rfl
@[simp] theorem State.queueEntry_slots (s : State) (o : Nat) (d : Word) (p : Producer) : (s.queueEntry o d p).slots = s.slots := rfl
@[simp] theorem State.queueEntry_axes (s : State) (o : Nat) (d : Word) (p : Producer) : (s.queueEntry o d p).axes = s.axes := rfl
@[simp] theorem State.queueEntry_placement (s : State) (o : Nat) (d : Word) (p : Producer) : (s.queueEntry o d p).placement = s.placement := rfl
@[simp] theorem State.queueEntry_mesh (s : State) (o : Nat) (d : Word) (p : Producer) : (s.queueEntry o d p).mesh = s.mesh := rfl
@[simp] theorem State.queueEntry_fans (s : State) (o : Nat) (d : Word) (p : Producer) : (s.queueEntry o d p).fans = s.fans := rfl
@[simp] theorem State.queueEntry_thermal (s : State) (o : Nat) (d : Word) (p : Producer) : (s.queueEntry o d p).thermal = s.thermal := rfl
@[simp] theorem State.queueEntry_budget (s : State) (o : Nat) (d : Word) (p : Producer) : (s.queueEntry o d p).budget = s.budget := rfl
@[simp] theorem State.queueEntry_power (s : State) (o : Nat) (d : Word) (p : Producer) : (s.queueEntry o d p).power = s.power := rfl
@[simp] theorem State.queueEntry_notice (s : State) (o : Nat) (d : Word) (p : Producer) : (s.queueEntry o d p).notice = s.notice := rfl
@[simp] theorem State.queueEntry_events (s : State) (o : Nat) (d : Word) (p : Producer) : (s.queueEntry o d p).events = s.events := rfl

@[simp] theorem State.answerRead_pending (s : State) (w : Word) : (s.answerRead w).pending = s.pending := rfl
@[simp] theorem State.answerRead_free (s : State) (w : Word) : (s.answerRead w).free = s.free := rfl
@[simp] theorem State.answerRead_clock (s : State) (w : Word) : (s.answerRead w).clock = s.clock := rfl
@[simp] theorem State.answerRead_hold (s : State) (w : Word) : (s.answerRead w).hold = s.hold := rfl
@[simp] theorem State.answerRead_pins (s : State) (w : Word) : (s.answerRead w).pins = s.pins := rfl
@[simp] theorem State.answerRead_mem (s : State) (w : Word) : (s.answerRead w).mem = s.mem := rfl
@[simp] theorem State.answerRead_slots (s : State) (w : Word) : (s.answerRead w).slots = s.slots := rfl
@[simp] theorem State.answerRead_axes (s : State) (w : Word) : (s.answerRead w).axes = s.axes := rfl
@[simp] theorem State.answerRead_placement (s : State) (w : Word) : (s.answerRead w).placement = s.placement := rfl
@[simp] theorem State.answerRead_mesh (s : State) (w : Word) : (s.answerRead w).mesh = s.mesh := rfl
@[simp] theorem State.answerRead_fans (s : State) (w : Word) : (s.answerRead w).fans = s.fans := rfl
@[simp] theorem State.answerRead_thermal (s : State) (w : Word) : (s.answerRead w).thermal = s.thermal := rfl
@[simp] theorem State.answerRead_budget (s : State) (w : Word) : (s.answerRead w).budget = s.budget := rfl
@[simp] theorem State.answerRead_power (s : State) (w : Word) : (s.answerRead w).power = s.power := rfl
@[simp] theorem State.answerRead_notice (s : State) (w : Word) : (s.answerRead w).notice = s.notice := rfl
@[simp] theorem State.answerRead_events (s : State) (w : Word) : (s.answerRead w).events = s.events := rfl

@[simp] theorem State.answerWrite_pending (s : State) : (s.answerWrite).pending = s.pending := rfl
@[simp] theorem State.answerWrite_free (s : State) : (s.answerWrite).free = s.free := rfl
@[simp] theorem State.answerWrite_clock (s : State) : (s.answerWrite).clock = s.clock := rfl
@[simp] theorem State.answerWrite_hold (s : State) : (s.answerWrite).hold = s.hold := rfl
@[simp] theorem State.answerWrite_pins (s : State) : (s.answerWrite).pins = s.pins := rfl
@[simp] theorem State.answerWrite_mem (s : State) : (s.answerWrite).mem = s.mem := rfl
@[simp] theorem State.answerWrite_slots (s : State) : (s.answerWrite).slots = s.slots := rfl
@[simp] theorem State.answerWrite_axes (s : State) : (s.answerWrite).axes = s.axes := rfl
@[simp] theorem State.answerWrite_placement (s : State) : (s.answerWrite).placement = s.placement := rfl
@[simp] theorem State.answerWrite_mesh (s : State) : (s.answerWrite).mesh = s.mesh := rfl
@[simp] theorem State.answerWrite_fans (s : State) : (s.answerWrite).fans = s.fans := rfl
@[simp] theorem State.answerWrite_thermal (s : State) : (s.answerWrite).thermal = s.thermal := rfl
@[simp] theorem State.answerWrite_budget (s : State) : (s.answerWrite).budget = s.budget := rfl
@[simp] theorem State.answerWrite_power (s : State) : (s.answerWrite).power = s.power := rfl
@[simp] theorem State.answerWrite_notice (s : State) : (s.answerWrite).notice = s.notice := rfl
@[simp] theorem State.answerWrite_events (s : State) : (s.answerWrite).events = s.events := rfl

@[simp] theorem State.beginCycle_pending (s : State) (k : CycleKind) : (s.beginCycle k).pending = s.pending := rfl
@[simp] theorem State.beginCycle_free (s : State) (k : CycleKind) : (s.beginCycle k).free = s.free := rfl
@[simp] theorem State.beginCycle_clock (s : State) (k : CycleKind) : (s.beginCycle k).clock = s.clock := rfl
@[simp] theorem State.beginCycle_hold (s : State) (k : CycleKind) : (s.beginCycle k).hold = s.hold := rfl
@[simp] theorem State.beginCycle_pins (s : State) (k : CycleKind) : (s.beginCycle k).pins = s.pins := rfl
@[simp] theorem State.beginCycle_mem (s : State) (k : CycleKind) : (s.beginCycle k).mem = s.mem := rfl
@[simp] theorem State.beginCycle_slots (s : State) (k : CycleKind) : (s.beginCycle k).slots = s.slots := rfl
@[simp] theorem State.beginCycle_axes (s : State) (k : CycleKind) : (s.beginCycle k).axes = s.axes := rfl
@[simp] theorem State.beginCycle_placement (s : State) (k : CycleKind) : (s.beginCycle k).placement = s.placement := rfl
@[simp] theorem State.beginCycle_mesh (s : State) (k : CycleKind) : (s.beginCycle k).mesh = s.mesh := rfl
@[simp] theorem State.beginCycle_fans (s : State) (k : CycleKind) : (s.beginCycle k).fans = s.fans := rfl
@[simp] theorem State.beginCycle_thermal (s : State) (k : CycleKind) : (s.beginCycle k).thermal = s.thermal := rfl
@[simp] theorem State.beginCycle_budget (s : State) (k : CycleKind) : (s.beginCycle k).budget = s.budget := rfl
@[simp] theorem State.beginCycle_power (s : State) (k : CycleKind) : (s.beginCycle k).power = s.power := rfl
@[simp] theorem State.beginCycle_notice (s : State) (k : CycleKind) : (s.beginCycle k).notice = s.notice := rfl
@[simp] theorem State.beginCycle_events (s : State) (k : CycleKind) : (s.beginCycle k).events = s.events := rfl

@[simp] theorem State.freePort_pending (s : State) : (s.freePort).pending = s.pending := rfl
@[simp] theorem State.freePort_free (s : State) : (s.freePort).free = s.free := rfl
@[simp] theorem State.freePort_clock (s : State) : (s.freePort).clock = s.clock := rfl
@[simp] theorem State.freePort_hold (s : State) : (s.freePort).hold = s.hold := rfl
@[simp] theorem State.freePort_pins (s : State) : (s.freePort).pins = s.pins := rfl
@[simp] theorem State.freePort_mem (s : State) : (s.freePort).mem = s.mem := rfl
@[simp] theorem State.freePort_slots (s : State) : (s.freePort).slots = s.slots := rfl
@[simp] theorem State.freePort_axes (s : State) : (s.freePort).axes = s.axes := rfl
@[simp] theorem State.freePort_placement (s : State) : (s.freePort).placement = s.placement := rfl
@[simp] theorem State.freePort_mesh (s : State) : (s.freePort).mesh = s.mesh := rfl
@[simp] theorem State.freePort_fans (s : State) : (s.freePort).fans = s.fans := rfl
@[simp] theorem State.freePort_thermal (s : State) : (s.freePort).thermal = s.thermal := rfl
@[simp] theorem State.freePort_budget (s : State) : (s.freePort).budget = s.budget := rfl
@[simp] theorem State.freePort_power (s : State) : (s.freePort).power = s.power := rfl
@[simp] theorem State.freePort_notice (s : State) : (s.freePort).notice = s.notice := rfl
@[simp] theorem State.freePort_events (s : State) : (s.freePort).events = s.events := rfl

@[simp] theorem State.setProgress_pending (s : State) (a : AxisId) (b : Bool) : (s.setProgress a b).pending = s.pending := rfl
@[simp] theorem State.setProgress_free (s : State) (a : AxisId) (b : Bool) : (s.setProgress a b).free = s.free := rfl
@[simp] theorem State.setProgress_clock (s : State) (a : AxisId) (b : Bool) : (s.setProgress a b).clock = s.clock := rfl
@[simp] theorem State.setProgress_hold (s : State) (a : AxisId) (b : Bool) : (s.setProgress a b).hold = s.hold := rfl
@[simp] theorem State.setProgress_pins (s : State) (a : AxisId) (b : Bool) : (s.setProgress a b).pins = s.pins := rfl
@[simp] theorem State.setProgress_mem (s : State) (a : AxisId) (b : Bool) : (s.setProgress a b).mem = s.mem := rfl
@[simp] theorem State.setProgress_path (s : State) (a : AxisId) (b : Bool) : (s.setProgress a b).path = s.path := rfl
@[simp] theorem State.setProgress_slots (s : State) (a : AxisId) (b : Bool) : (s.setProgress a b).slots = s.slots := rfl
@[simp] theorem State.setProgress_axes (s : State) (a : AxisId) (b : Bool) : (s.setProgress a b).axes = s.axes := rfl
@[simp] theorem State.setProgress_mesh (s : State) (a : AxisId) (b : Bool) : (s.setProgress a b).mesh = s.mesh := rfl
@[simp] theorem State.setProgress_fans (s : State) (a : AxisId) (b : Bool) : (s.setProgress a b).fans = s.fans := rfl
@[simp] theorem State.setProgress_thermal (s : State) (a : AxisId) (b : Bool) : (s.setProgress a b).thermal = s.thermal := rfl
@[simp] theorem State.setProgress_budget (s : State) (a : AxisId) (b : Bool) : (s.setProgress a b).budget = s.budget := rfl
@[simp] theorem State.setProgress_power (s : State) (a : AxisId) (b : Bool) : (s.setProgress a b).power = s.power := rfl
@[simp] theorem State.setProgress_notice (s : State) (a : AxisId) (b : Bool) : (s.setProgress a b).notice = s.notice := rfl
@[simp] theorem State.setProgress_events (s : State) (a : AxisId) (b : Bool) : (s.setProgress a b).events = s.events := rfl

@[simp] theorem State.setPark_pending (s : State) (a : AxisId) (p : Park) : (s.setPark a p).pending = s.pending := rfl
@[simp] theorem State.setPark_free (s : State) (a : AxisId) (p : Park) : (s.setPark a p).free = s.free := rfl
@[simp] theorem State.setPark_clock (s : State) (a : AxisId) (p : Park) : (s.setPark a p).clock = s.clock := rfl
@[simp] theorem State.setPark_hold (s : State) (a : AxisId) (p : Park) : (s.setPark a p).hold = s.hold := rfl
@[simp] theorem State.setPark_pins (s : State) (a : AxisId) (p : Park) : (s.setPark a p).pins = s.pins := rfl
@[simp] theorem State.setPark_mem (s : State) (a : AxisId) (p : Park) : (s.setPark a p).mem = s.mem := rfl
@[simp] theorem State.setPark_path (s : State) (a : AxisId) (p : Park) : (s.setPark a p).path = s.path := rfl
@[simp] theorem State.setPark_slots (s : State) (a : AxisId) (p : Park) : (s.setPark a p).slots = s.slots := rfl
@[simp] theorem State.setPark_axes (s : State) (a : AxisId) (p : Park) : (s.setPark a p).axes = s.axes := rfl
@[simp] theorem State.setPark_placement (s : State) (a : AxisId) (p : Park) : (s.setPark a p).placement = s.placement := rfl
@[simp] theorem State.setPark_mesh (s : State) (a : AxisId) (p : Park) : (s.setPark a p).mesh = s.mesh := rfl
@[simp] theorem State.setPark_fans (s : State) (a : AxisId) (p : Park) : (s.setPark a p).fans = s.fans := rfl
@[simp] theorem State.setPark_thermal (s : State) (a : AxisId) (p : Park) : (s.setPark a p).thermal = s.thermal := rfl
@[simp] theorem State.setPark_budget (s : State) (a : AxisId) (p : Park) : (s.setPark a p).budget = s.budget := rfl
@[simp] theorem State.setPark_notice (s : State) (a : AxisId) (p : Park) : (s.setPark a p).notice = s.notice := rfl
@[simp] theorem State.setPark_events (s : State) (a : AxisId) (p : Park) : (s.setPark a p).events = s.events := rfl

@[simp] theorem State.setMinMet_pending (s : State) : (s.setMinMet).pending = s.pending := rfl
@[simp] theorem State.setMinMet_free (s : State) : (s.setMinMet).free = s.free := rfl
@[simp] theorem State.setMinMet_clock (s : State) : (s.setMinMet).clock = s.clock := rfl
@[simp] theorem State.setMinMet_hold (s : State) : (s.setMinMet).hold = s.hold := rfl
@[simp] theorem State.setMinMet_pins (s : State) : (s.setMinMet).pins = s.pins := rfl
@[simp] theorem State.setMinMet_mem (s : State) : (s.setMinMet).mem = s.mem := rfl
@[simp] theorem State.setMinMet_path (s : State) : (s.setMinMet).path = s.path := rfl
@[simp] theorem State.setMinMet_slots (s : State) : (s.setMinMet).slots = s.slots := rfl
@[simp] theorem State.setMinMet_axes (s : State) : (s.setMinMet).axes = s.axes := rfl
@[simp] theorem State.setMinMet_placement (s : State) : (s.setMinMet).placement = s.placement := rfl
@[simp] theorem State.setMinMet_mesh (s : State) : (s.setMinMet).mesh = s.mesh := rfl
@[simp] theorem State.setMinMet_fans (s : State) : (s.setMinMet).fans = s.fans := rfl
@[simp] theorem State.setMinMet_thermal (s : State) : (s.setMinMet).thermal = s.thermal := rfl
@[simp] theorem State.setMinMet_budget (s : State) : (s.setMinMet).budget = s.budget := rfl
@[simp] theorem State.setMinMet_notice (s : State) : (s.setMinMet).notice = s.notice := rfl
@[simp] theorem State.setMinMet_events (s : State) : (s.setMinMet).events = s.events := rfl

@[simp] theorem State.withPending_free (s : State) (q : List Instr) : (s.withPending q).free = s.free := rfl
@[simp] theorem State.withPending_clock (s : State) (q : List Instr) : (s.withPending q).clock = s.clock := rfl
@[simp] theorem State.withPending_hold (s : State) (q : List Instr) : (s.withPending q).hold = s.hold := rfl
@[simp] theorem State.withPending_pins (s : State) (q : List Instr) : (s.withPending q).pins = s.pins := rfl
@[simp] theorem State.withPending_mem (s : State) (q : List Instr) : (s.withPending q).mem = s.mem := rfl
@[simp] theorem State.withPending_path (s : State) (q : List Instr) : (s.withPending q).path = s.path := rfl
@[simp] theorem State.withPending_slots (s : State) (q : List Instr) : (s.withPending q).slots = s.slots := rfl
@[simp] theorem State.withPending_axes (s : State) (q : List Instr) : (s.withPending q).axes = s.axes := rfl
@[simp] theorem State.withPending_placement (s : State) (q : List Instr) : (s.withPending q).placement = s.placement := rfl
@[simp] theorem State.withPending_mesh (s : State) (q : List Instr) : (s.withPending q).mesh = s.mesh := rfl
@[simp] theorem State.withPending_fans (s : State) (q : List Instr) : (s.withPending q).fans = s.fans := rfl
@[simp] theorem State.withPending_thermal (s : State) (q : List Instr) : (s.withPending q).thermal = s.thermal := rfl
@[simp] theorem State.withPending_budget (s : State) (q : List Instr) : (s.withPending q).budget = s.budget := rfl
@[simp] theorem State.withPending_power (s : State) (q : List Instr) : (s.withPending q).power = s.power := rfl
@[simp] theorem State.withPending_notice (s : State) (q : List Instr) : (s.withPending q).notice = s.notice := rfl
@[simp] theorem State.withPending_events (s : State) (q : List Instr) : (s.withPending q).events = s.events := rfl

/-! ### Reading back -/

@[simp] theorem PerAxis.get_set_self {α : Type} (p : PerAxis α) (a : AxisId) (x : α) : (p.set a x).get a = x := by
  cases a <;> rfl

theorem PerAxis.get_set_other {α : Type} (p : PerAxis α) (a b : AxisId) (x : α) (h : b ≠ a) :
    (p.set a x).get b = p.get b := by
  cases a <;> cases b <;> first | rfl | exact absurd rfl h

@[simp] theorem PerFan.get_set_self {α : Type} (p : PerFan α) (f : FanId) (x : α) : (p.set f x).get f = x := by
  cases f <;> rfl

theorem PerFan.get_set_other {α : Type} (p : PerFan α) (f g : FanId) (x : α) (h : g ≠ f) : (p.set f x).get g = p.get g := by
  cases f <;> cases g <;> first | rfl | exact absurd rfl h

@[simp] theorem PerChannel.get_set_self {α : Type} (p : PerChannel α) (c : ChannelId) (x : α) : (p.set c x).get c = x := by
  cases c <;> rfl

theorem PerChannel.get_set_other {α : Type} (p : PerChannel α) (c d : ChannelId) (x : α) (h : d ≠ c) :
    (p.set c x).get d = p.get d := by
  cases c <;> cases d <;> first | rfl | exact absurd rfl h

@[simp] theorem PerPair.get_set_self {α : Type} (p : PerPair α) (k : PairId) (x : α) : (p.set k x).get k = x := by
  cases k <;> rfl

theorem PerPair.get_set_other {α : Type} (p : PerPair α) (k j : PairId) (x : α) (h : j ≠ k) : (p.set k x).get j = p.get j := by
  cases k <;> cases j <;> first | rfl | exact absurd rfl h

@[simp] theorem State.axis_setAxis_self (s : State) (a : AxisId) (x : Axis) : (s.setAxis a x).axis a = x := by
  simp [State.axis, State.setAxis]

theorem State.axis_setAxis_other (s : State) (a b : AxisId) (x : Axis) (h : b ≠ a) : (s.setAxis a x).axis b = s.axis b := by
  simp [State.axis, State.setAxis, PerAxis.get_set_other _ _ _ _ h]

@[simp] theorem State.fan_setFan_self (s : State) (f : FanId) (x : Fan) : (s.setFan f x).fan f = x := by
  simp [State.fan, State.setFan]

theorem State.fan_setFan_other (s : State) (f g : FanId) (x : Fan) (h : g ≠ f) : (s.setFan f x).fan g = s.fan g := by
  simp [State.fan, State.setFan, PerFan.get_set_other _ _ _ _ h]

@[simp] theorem State.channel_setChannel_self (s : State) (c : ChannelId) (x : Channel) :
    (s.setChannel c x).channel c = x := by
  simp [State.channel, State.setChannel]

@[simp] theorem State.view_setView_self (s : State) (k : SlotId) (v : SlotView) : (s.setView k v).view k = v := by
  simp [State.view, State.setView]

theorem State.view_setView_other (s : State) (k j : SlotId) (v : SlotView) (h : j ≠ k) :
    (s.setView k v).view j = s.view j := by
  simp only [State.view, State.setView]
  exact Vector.getElem_set_ne _ _ (fun e => h (Fin.ext e.symm))

@[simp] theorem State.shadowWord_setView (s : State) (k j : SlotId) (v : SlotView) (w : Fin 16) :
    (s.setView k v).shadowWord j w = s.shadowWord j w := rfl

@[simp] theorem State.view_setShadow (s : State) (k j : SlotId) (w : Fin 16) (x : Word) :
    (s.setShadow k w x).view j = s.view j := rfl

@[simp] theorem State.shadowWord_setShadow_self (s : State) (k : SlotId) (w : Fin 16) (x : Word) :
    (s.setShadow k w x).shadowWord k w = x := by
  simp [State.shadowWord, State.setShadow]

end Sys2Proof.Machine
end

