-- ==== Sys2Proof/Laws/Outer.lean ====
section
/-! SUPPORT. What the blocks' functions leave alone: clock, pins, reset state, memory, memory path, in-service stack and the
command queue. One lemma per function, so that a proof about memory, the path or the stack never unfolds a block. -/

namespace Sys2Proof.Machine

/-- The parts of the state that the axis, placement, mesh, fan, thermal, budget, power and slot functions never change. -/
def State.outer (s : State) :=
  (s.pending, s.free, s.clock, s.hold, s.pins, s.mem, s.path, s.notice.stack)

/-- A record update of other fields, the notice controller's stack kept. -/
@[simp] theorem State.update_outer (t : State) (sl : SlotUnit) (ax : PerAxis Axis) (pl : Placement) (me : Mesh)
    (fa : PerFan Fan) (th : Thermal) (bu : Budget) (po : Power) (no : Notice) (ev : EventWriter)
    (h : no.stack = t.notice.stack) :
    (State.mk t.pending t.free t.clock t.hold t.pins t.mem t.path sl ax pl me fa th bu po no ev).outer = t.outer := by
  simp [State.outer, h]

/-! ### Ops -/

@[simp] theorem State.setAxis_outer (s : State) (a : AxisId) (x : Axis) : (s.setAxis a x).outer = s.outer := by
  unfold State.setAxis; (try dsimp only); (repeat' split) <;> simp

@[simp] theorem State.setFan_outer (s : State) (f : FanId) (x : Fan) : (s.setFan f x).outer = s.outer := by
  unfold State.setFan; (try dsimp only); (repeat' split) <;> simp

@[simp] theorem State.setChannel_outer (s : State) (c : ChannelId) (x : Channel) : (s.setChannel c x).outer = s.outer := by
  unfold State.setChannel; (try dsimp only); (repeat' split) <;> simp

@[simp] theorem State.raiseNotice_outer (s : State) (n : NoticeSource) : (s.raiseNotice n).outer = s.outer := by
  unfold State.raiseNotice; (try dsimp only); (repeat' split) <;> simp

@[simp] theorem State.placeRecord_outer (s : State) (code : Half) (va vb : Word) : (s.placeRecord code va vb).outer = s.outer := by
  unfold State.placeRecord; (try dsimp only); (repeat' split) <;> simp

@[simp] theorem State.loseEvent_outer (s : State) : (s.loseEvent).outer = s.outer := by
  unfold State.loseEvent; (try dsimp only); (repeat' split) <;> simp

@[simp] theorem State.raiseCode_outer (s : State) (code : Half) (va vb : Word) : (s.raiseCode code va vb).outer = s.outer := by
  unfold State.raiseCode; (try dsimp only); (repeat' split) <;> simp

@[simp] theorem State.raiseEvent_outer (s : State) (k : EventKind) (subject : Nat) (va vb : Word) : (s.raiseEvent k subject va vb).outer = s.outer := by
  unfold State.raiseEvent; (try dsimp only); (repeat' split) <;> simp

@[simp] theorem State.setView_outer (s : State) (k : SlotId) (v : SlotView) : (s.setView k v).outer = s.outer := by
  unfold State.setView; (try dsimp only); (repeat' split) <;> simp

@[simp] theorem State.setHolder_outer (s : State) (k : SlotId) (h : Holder) : (s.setHolder k h).outer = s.outer := by
  unfold State.setHolder; (try dsimp only); (repeat' split) <;> simp

@[simp] theorem State.setShadow_outer (s : State) (k : SlotId) (w : Fin 16) (x : Word) : (s.setShadow k w x).outer = s.outer := by
  unfold State.setShadow; (try dsimp only); (repeat' split) <;> simp

@[simp] theorem State.complete_outer (s : State) (k : SlotId) (r : Result) (body : List Word) : (s.complete k r body).outer = s.outer := by
  unfold State.complete; (try dsimp only); (repeat' split) <;> simp

@[simp] theorem State.completeRef_outer (s : State) (ref : Option SlotId) (r : Result) (body : List Word) : (s.completeRef ref r body).outer = s.outer := by
  unfold State.completeRef; (try dsimp only); (repeat' split) <;> simp

/-! ### Budget -/

@[simp] theorem State.rebudget_outer (s : State) : (s.rebudget).outer = s.outer := by
  unfold State.rebudget; (try dsimp only); (repeat' split) <;> simp

@[simp] theorem State.setDesire_outer (s : State) (a : AxisId) (c : Class) : (s.setDesire a c).outer = s.outer := by
  unfold State.setDesire; (try dsimp only); (repeat' split) <;> simp

@[simp] theorem State.joinOrder_outer (s : State) (a : AxisId) (c : Class) : (s.joinOrder a c).outer = s.outer := by
  unfold State.joinOrder; (try dsimp only); (repeat' split) <;> simp

@[simp] theorem State.leaveOrder_outer (s : State) (a : AxisId) : (s.leaveOrder a).outer = s.outer := by
  unfold State.leaveOrder; (try dsimp only); (repeat' split) <;> simp

/-! ### Encoder -/

@[simp] theorem State.enterStopping_outer (s : State) (a : AxisId) (r : Result) : (s.enterStopping a r).outer = s.outer := by
  unfold State.enterStopping; (try dsimp only); (repeat' split) <;> simp

@[simp] theorem State.stopCause_outer (s : State) (a : AxisId) (c : ResCode) : (s.stopCause a c).outer = s.outer := by
  unfold State.stopCause; (try dsimp only); (repeat' split) <;> simp

@[simp] theorem State.stopBoth_outer (s : State) (c : ResCode) : (s.stopBoth c).outer = s.outer := by
  unfold State.stopBoth; (try dsimp only); (repeat' split) <;> simp

@[simp] theorem State.addNoise_outer (s : State) (a : AxisId) : (s.addNoise a).outer = s.outer := by
  unfold State.addNoise; (try dsimp only); (repeat' split) <;> simp

@[simp] theorem State.rejectEdge_outer (s : State) (a : AxisId) : (s.rejectEdge a).outer = s.outer := by
  unfold State.rejectEdge; (try dsimp only); (repeat' split) <;> simp

@[simp] theorem State.phaseError_outer (s : State) (a : AxisId) : (s.phaseError a).outer = s.outer := by
  unfold State.phaseError; (try dsimp only); (repeat' split) <;> simp

@[simp] theorem State.setCounter_outer (s : State) (a : AxisId) (w : Word) : (s.setCounter a w).outer = s.outer := by
  unfold State.setCounter; (try dsimp only); (repeat' split) <;> simp

@[simp] theorem State.homeFound_outer (s : State) (a : AxisId) : (s.homeFound a).outer = s.outer := by
  unfold State.homeFound; (try dsimp only); (repeat' split) <;> simp

@[simp] theorem State.slipCheck_outer (s : State) (a : AxisId) : (s.slipCheck a).outer = s.outer := by
  unfold State.slipCheck; (try dsimp only); (repeat' split) <;> simp

@[simp] theorem State.indexEvent_outer (s : State) (a : AxisId) : (s.indexEvent a).outer = s.outer := by
  unfold State.indexEvent; (try dsimp only); (repeat' split) <;> simp

@[simp] theorem State.homeFail_outer (s : State) (a : AxisId) : (s.homeFail a).outer = s.outer := by
  unfold State.homeFail; (try dsimp only); (repeat' split) <;> simp

@[simp] theorem State.spanCheck_outer (s : State) (a : AxisId) : (s.spanCheck a).outer = s.outer := by
  unfold State.spanCheck; (try dsimp only); (repeat' split) <;> simp

@[simp] theorem State.decoderUpdate_outer (s : State) (a : AxisId) (l : EncLevels) : (s.decoderUpdate a l).outer = s.outer := by
  unfold State.decoderUpdate; (try dsimp only); (repeat' split) <;> simp

@[simp] theorem State.rejectEdges_outer (s : State) (a : AxisId) (n : Nat) : (s.rejectEdges a n).outer = s.outer := by
  induction n generalizing s with
  | zero => rfl
  | succ n ih => simp [State.rejectEdges, ih]

@[simp] theorem State.encoderLevels_outer (s : State) (a : AxisId) (l : EncLevels) : (s.encoderLevels a l).outer = s.outer := by
  unfold State.encoderLevels; (try dsimp only); (repeat' split) <;> simp

@[simp] theorem State.acceptInputs_outer (s : State) (a : AxisId) (m : EncLevels) : (s.acceptInputs a m).outer = s.outer := by
  unfold State.acceptInputs; (try dsimp only); (repeat' split) <;> simp

/-! ### Mesh -/

@[simp] theorem State.takeSnapshot_outer (s : State) : (s.takeSnapshot).outer = s.outer := by
  unfold State.takeSnapshot; (try dsimp only); (repeat' split) <;> simp

@[simp] theorem State.meshRun_outer (s : State) : (s.meshRun).outer = s.outer := by
  unfold State.meshRun; (try dsimp only); (repeat' split) <;> simp

@[simp] theorem State.markDirty_outer (s : State) : (s.markDirty).outer = s.outer := by
  unfold State.markDirty; (try dsimp only); (repeat' split) <;> simp

@[simp] theorem State.takeFsync_outer (s : State) : (s.takeFsync).outer = s.outer := by
  unfold State.takeFsync; (try dsimp only); (repeat' split) <;> simp

@[simp] theorem State.retireExpiry_outer (s : State) : (s.retireExpiry).outer = s.outer := by
  unfold State.retireExpiry; (try dsimp only); (repeat' split) <;> simp

@[simp] theorem State.endReached_outer (s : State) (g : Half) (l : List Waiting) : (s.endReached g l).outer = s.outer := by
  induction l generalizing s with
  | nil => rfl
  | cons w l ih => simp only [State.endReached, ih]; split <;> simp

@[simp] theorem State.joinWaiting_outer (s : State) (k : SlotId) (needed : Half) : (s.joinWaiting k needed).outer = s.outer := by
  unfold State.joinWaiting; (try dsimp only); (repeat' split) <;> simp

@[simp] theorem State.takeCornerRecord_outer (s : State) (k : SlotId) (c : Corners) : (s.takeCornerRecord k c).outer = s.outer := by
  unfold State.takeCornerRecord; (try dsimp only); (repeat' split) <;> simp

@[simp] theorem State.takeKeystone_outer (s : State) (k : SlotId) (body : List Word) : (s.takeKeystone k body).outer = s.outer := by
  unfold State.takeKeystone; (try dsimp only); (repeat' split) <;> simp

@[simp] theorem State.takeCorners_outer (s : State) (k : SlotId) (body : List Word) : (s.takeCorners k body).outer = s.outer := by
  unfold State.takeCorners; (try dsimp only); (repeat' split) <;> simp

@[simp] theorem State.abortWaiting_outer (s : State) (k : SlotId) : (s.abortWaiting k).outer = s.outer := by
  unfold State.abortWaiting; (try dsimp only); (repeat' split) <;> simp

@[simp] theorem State.selectorAnswer_outer (s : State) (w : Option Word) : (s.selectorAnswer w).outer = s.outer := by
  unfold State.selectorAnswer; (try dsimp only); (repeat' split) <;> simp

/-! ### Fans -/

@[simp] theorem State.drawFan_outer (s : State) (f : FanId) (x : Fan) : (s.drawFan f x).outer = s.outer := by
  simp [State.drawFan]

@[simp] theorem State.refreshFan_outer (s : State) (f : FanId) : (s.refreshFan f).outer = s.outer := by
  simp [State.refreshFan]

@[simp] theorem State.tickFan_outer (s : State) (f : FanId) : (s.tickFan f).outer = s.outer := by
  simp [State.tickFan]

@[simp] theorem State.refreshFans_outer (s : State) : (s.refreshFans).outer = s.outer := by
  unfold State.refreshFans; (try dsimp only); (repeat' split) <;> simp

@[simp] theorem State.tickFans_outer (s : State) : (s.tickFans).outer = s.outer := by
  unfold State.tickFans; (try dsimp only); (repeat' split) <;> simp

@[simp] theorem State.takeFanFloor_outer (s : State) (k : SlotId) (body : List Word) : (s.takeFanFloor k body).outer = s.outer := by
  unfold State.takeFanFloor; (try dsimp only); (repeat' split) <;> simp

/-! ### Thermal -/

@[simp] theorem State.updateOverall_outer (s : State) (subject : Nat) : (s.updateOverall subject).outer = s.outer := by
  unfold State.updateOverall; (try dsimp only); (repeat' split) <;> simp

@[simp] theorem State.fanStall_outer (s : State) (f : FanId) : (s.fanStall f).outer = s.outer := by
  unfold State.fanStall; (try dsimp only); (repeat' split) <;> simp

@[simp] theorem State.tachSilence_outer (s : State) (f : FanId) : (s.tachSilence f).outer = s.outer := by
  unfold State.tachSilence; (try dsimp only); (repeat' split) <;> simp

@[simp] theorem State.takeFanReport_outer (s : State) (k : SlotId) (body : List Word) : (s.takeFanReport k body).outer = s.outer := by
  unfold State.takeFanReport; (try dsimp only); (repeat' split) <;> simp

@[simp] theorem State.restartTimers_outer (s : State) (ms : Nat) : (s.restartTimers ms).outer = s.outer := by
  unfold State.restartTimers; (try dsimp only); (repeat' split) <;> simp

@[simp] theorem State.handCurves_outer (s : State) (c : ChannelId) : (s.handCurves c).outer = s.outer := by
  unfold State.handCurves; (try dsimp only); (repeat' split) <;> simp

@[simp] theorem State.channelReading_outer (s : State) (c : ChannelId) (code : Int) : (s.channelReading c code).outer = s.outer := by
  unfold State.channelReading; (try dsimp only); (repeat' split) <;> simp

@[simp] theorem State.takeThresholds_outer (s : State) (k : SlotId) (body : List Word) : (s.takeThresholds k body).outer = s.outer := by
  unfold State.takeThresholds; (try dsimp only); (repeat' split) <;> simp

@[simp] theorem State.takeThermalResume_outer (s : State) (k : SlotId) : (s.takeThermalResume k).outer = s.outer := by
  unfold State.takeThermalResume; (try dsimp only); (repeat' split) <;> simp

@[simp] theorem State.takeFanCurve_outer (s : State) (k : SlotId) (body : List Word) : (s.takeFanCurve k body).outer = s.outer := by
  unfold State.takeFanCurve; (try dsimp only); (repeat' split) <;> simp

@[simp] theorem State.heartbeatWrite_outer (s : State) : (s.heartbeatWrite).outer = s.outer := by
  unfold State.heartbeatWrite; (try dsimp only); (repeat' split) <;> simp

@[simp] theorem State.hostLost_outer (s : State) : (s.hostLost).outer = s.outer := by
  unfold State.hostLost; (try dsimp only); (repeat' split) <;> simp

@[simp] theorem State.disarm_outer (s : State) : (s.disarm).outer = s.outer := by
  unfold State.disarm; (try dsimp only); (repeat' split) <;> simp

/-! ### Power -/

@[simp] theorem State.recool_outer (s : State) : (s.recool).outer = s.outer := by
  unfold State.recool; (try dsimp only); (repeat' split) <;> simp

@[simp] theorem State.enterStandby_outer (s : State) : (s.enterStandby).outer = s.outer := by
  unfold State.enterStandby; (try dsimp only); (repeat' split) <;> simp

@[simp] theorem State.endCooldown_outer (s : State) (r : Result) : (s.endCooldown r).outer = s.outer := by
  unfold State.endCooldown; (try dsimp only); (repeat' split) <;> simp

@[simp] theorem State.checkCooldown_outer (s : State) : (s.checkCooldown).outer = s.outer := by
  unfold State.checkCooldown; (try dsimp only); (repeat' split) <;> simp

@[simp] theorem State.setPark_outer (s : State) (a : AxisId) (p : Park) : (s.setPark a p).outer = s.outer := by
  unfold State.setPark; (try dsimp only); (repeat' split) <;> simp

@[simp] theorem State.parkReport_outer (s : State) (a : AxisId) (r : Result) : (s.parkReport a r).outer = s.outer := by
  unfold State.parkReport; (try dsimp only); (repeat' split) <;> simp

@[simp] theorem State.settlePark_outer (s : State) (a : AxisId) (c : ResCode) : (s.settlePark a c).outer = s.outer := by
  unfold State.settlePark; (try dsimp only); (repeat' split) <;> simp

@[simp] theorem State.cooldownExpiry_outer (s : State) : (s.cooldownExpiry).outer = s.outer := by
  unfold State.cooldownExpiry; (try dsimp only); (repeat' split) <;> simp

@[simp] theorem State.takePowerUp_outer (s : State) (k : SlotId) : (s.takePowerUp k).outer = s.outer := by
  unfold State.takePowerUp; (try dsimp only); (repeat' split) <;> simp

@[simp] theorem State.takeReading_outer (s : State) (c : ChannelId) (code : Int) : (s.takeReading c code).outer = s.outer := by
  unfold State.takeReading; (try dsimp only); (repeat' split) <;> simp

/-! ### Placement -/

@[simp] theorem State.startMove_outer (s : State) (a : AxisId) (kind : MoveKind) (owner : Option SlotId) (target : Int) (limit : Class) : (s.startMove a kind owner target limit).outer = s.outer := by
  unfold State.startMove; (try dsimp only); (repeat' split) <;> simp

@[simp] theorem State.detach_outer (s : State) : (s.detach).outer = s.outer := by
  unfold State.detach; (try dsimp only); (repeat' split) <;> simp

@[simp] theorem State.startHome_outer (s : State) (a : AxisId) (k : SlotId) : (s.startHome a k).outer = s.outer := by
  unfold State.startHome; (try dsimp only); (repeat' split) <;> simp

@[simp] theorem State.applyPlacement_outer (s : State) : (s.applyPlacement).outer = s.outer := by
  unfold State.applyPlacement; (try dsimp only); (repeat' split) <;> simp

@[simp] theorem State.maybeApply_outer (s : State) : (s.maybeApply).outer = s.outer := by
  unfold State.maybeApply; (try dsimp only); (repeat' split) <;> simp

@[simp] theorem State.setProgress_outer (s : State) (a : AxisId) (b : Bool) : (s.setProgress a b).outer = s.outer := by
  unfold State.setProgress; (try dsimp only); (repeat' split) <;> simp

@[simp] theorem State.placeAxis_outer (s : State) (a : AxisId) : (s.placeAxis a).outer = s.outer := by
  unfold State.placeAxis; (try dsimp only); (repeat' split) <;> simp

@[simp] theorem State.takeSplit_outer (s : State) (o : Orientation) (p : Split) (k : SlotId) : (s.takeSplit o p k).outer = s.outer := by
  unfold State.takeSplit; (try dsimp only); (repeat' split) <;> simp

@[simp] theorem State.startPlace_outer (s : State) (k : SlotId) (x y : Int) (p : Split) : (s.startPlace k x y p).outer = s.outer := by
  unfold State.startPlace; (try dsimp only); (repeat' split) <;> simp

@[simp] theorem State.takePlace_outer (s : State) (k : SlotId) (body : List Word) : (s.takePlace k body).outer = s.outer := by
  unfold State.takePlace; (try dsimp only); (repeat' split) <;> simp

@[simp] theorem State.setOrientation_outer (s : State) (o : Orientation) : (s.setOrientation o).outer = s.outer := by
  unfold State.setOrientation; (try dsimp only); (repeat' split) <;> simp

@[simp] theorem State.orientOnly_outer (s : State) (k : SlotId) (o : Orientation) : (s.orientOnly k o).outer = s.outer := by
  unfold State.orientOnly; (try dsimp only); (repeat' split) <;> simp

@[simp] theorem State.orientRerun_outer (s : State) (k : SlotId) (o : Orientation) : (s.orientRerun k o).outer = s.outer := by
  unfold State.orientRerun; (try dsimp only); (repeat' split) <;> simp

@[simp] theorem State.takeOrient_outer (s : State) (k : SlotId) (body : List Word) : (s.takeOrient k body).outer = s.outer := by
  unfold State.takeOrient; (try dsimp only); (repeat' split) <;> simp

@[simp] theorem State.endFailed_outer (s : State) : (s.endFailed).outer = s.outer := by
  unfold State.endFailed; (try dsimp only); (repeat' split) <;> simp

@[simp] theorem State.stopPlacementMove_outer (s : State) (a : AxisId) : (s.stopPlacementMove a).outer = s.outer := by
  unfold State.stopPlacementMove; (try dsimp only); (repeat' split) <;> simp

@[simp] theorem State.failPlacement_outer (s : State) (c : ResCode) : (s.failPlacement c).outer = s.outer := by
  unfold State.failPlacement; (try dsimp only); (repeat' split) <;> simp

@[simp] theorem State.placementReport_outer (s : State) (a : AxisId) (r : Result) : (s.placementReport a r).outer = s.outer := by
  unfold State.placementReport; (try dsimp only); (repeat' split) <;> simp

@[simp] theorem State.placementFlip_outer (s : State) (g : Half) : (s.placementFlip g).outer = s.outer := by
  unfold State.placementFlip; (try dsimp only); (repeat' split) <;> simp

@[simp] theorem State.failApplying_outer (s : State) (c : ResCode) : (s.failApplying c).outer = s.outer := by
  unfold State.failApplying; (try dsimp only); (repeat' split) <;> simp

@[simp] theorem State.placementAbort_outer (s : State) : (s.placementAbort).outer = s.outer := by
  unfold State.placementAbort; (try dsimp only); (repeat' split) <;> simp

@[simp] theorem State.flip_outer (s : State) : (s.flip).outer = s.outer := by
  unfold State.flip; (try dsimp only); (repeat' split) <;> simp

/-! ### Moves -/

@[simp] theorem State.handOver_outer (s : State) (a : AxisId) (m : Move) (r : Result) : (s.handOver a m r).outer = s.outer := by
  unfold State.handOver; (try dsimp only); (repeat' split) <;> simp

@[simp] theorem State.leaveMove_outer (s : State) (a : AxisId) (st : AxisState) (r : Result) : (s.leaveMove a st r).outer = s.outer := by
  unfold State.leaveMove; (try dsimp only); (repeat' split) <;> simp

@[simp] theorem State.startDirectMove_outer (s : State) (a : AxisId) (k : SlotId) (target : Int) (limit : Class) : (s.startDirectMove a k target limit).outer = s.outer := by
  unfold State.startDirectMove; (try dsimp only); (repeat' split) <;> simp

@[simp] theorem State.startDirect_outer (s : State) (a : AxisId) (k : SlotId) (r : DirectReq) : (s.startDirect a k r).outer = s.outer := by
  unfold State.startDirect; (try dsimp only); (repeat' split) <;> simp

@[simp] theorem State.present_outer (s : State) (a : AxisId) (k : SlotId) (r : DirectReq) : (s.present a k r).outer = s.outer := by
  unfold State.present; (try dsimp only); (repeat' split) <;> simp

@[simp] theorem State.presentQueue_outer (s : State) (a : AxisId) (l : List Queued) :
    (s.presentQueue a l).outer = s.outer := by
  induction l generalizing s with
  | nil => rfl
  | cons q l ih => simp only [State.presentQueue]; split <;> simp [ih]

@[simp] theorem State.presentPark_outer (s : State) (a : AxisId) : (s.presentPark a).outer = s.outer := by
  unfold State.presentPark; (try dsimp only); (repeat' split) <;> simp

@[simp] theorem State.askPark_outer (s : State) (a : AxisId) : (s.askPark a).outer = s.outer := by
  unfold State.askPark; (try dsimp only); (repeat' split) <;> simp

theorem State.foldl_outer {α : Type} (f : State → α → State) (hf : ∀ t x, (f t x).outer = t.outer) (l : List α) (s : State) :
    (l.foldl f s).outer = s.outer := by
  induction l generalizing s with
  | nil => rfl
  | cons x l ih => rw [List.foldl_cons, ih, hf]

@[simp] theorem State.endStops_outer (s : State) (a : AxisId) : (s.endStops a).outer = s.outer := by
  unfold State.endStops; rw [State.foldl_outer _ (by intros; simp)]; simp

@[simp] theorem State.presentIdle_outer (s : State) (a : AxisId) : (s.presentIdle a).outer = s.outer := by
  unfold State.presentIdle; (try dsimp only); (repeat' split) <;> simp

@[simp] theorem State.enterIdle_outer (s : State) (a : AxisId) (r : Result) : (s.enterIdle a r).outer = s.outer := by
  unfold State.enterIdle; (try dsimp only); (repeat' split) <;> simp

@[simp] theorem State.abortQueue_outer (s : State) (a : AxisId) : (s.abortQueue a).outer = s.outer := by
  unfold State.abortQueue; rw [State.foldl_outer _ (by intros; simp)]; simp

@[simp] theorem State.stallEnd_outer (s : State) (a : AxisId) : (s.stallEnd a).outer = s.outer := by
  unfold State.stallEnd; (try dsimp only); (repeat' split) <;> simp

@[simp] theorem State.holdPeriod_outer (s : State) (a : AxisId) (m : Move) : (s.holdPeriod a m).outer = s.outer := by
  unfold State.holdPeriod; (try dsimp only); (repeat' split) <;> simp

@[simp] theorem State.drivenPeriod_outer (s : State) (a : AxisId) (m : Move) (desire grant : Class) (positive : Bool) : (s.drivenPeriod a m desire grant positive).outer = s.outer := by
  unfold State.drivenPeriod; (try dsimp only); (repeat' split) <;> simp

@[simp] theorem State.drivePeriod_outer (s : State) (a : AxisId) (m : Move) (desire : Class) (positive : Bool) : (s.drivePeriod a m desire positive).outer = s.outer := by
  unfold State.drivePeriod; (try dsimp only); (repeat' split) <;> simp

@[simp] theorem State.movingPeriod_outer (s : State) (a : AxisId) (m : Move) : (s.movingPeriod a m).outer = s.outer := by
  unfold State.movingPeriod; (try dsimp only); (repeat' split) <;> simp

@[simp] theorem State.settleJudge_outer (s : State) (a : AxisId) (m : Move) : (s.settleJudge a m).outer = s.outer := by
  unfold State.settleJudge; (try dsimp only); (repeat' split) <;> simp

@[simp] theorem State.settlingPeriod_outer (s : State) (a : AxisId) (m : Move) : (s.settlingPeriod a m).outer = s.outer := by
  unfold State.settlingPeriod; (try dsimp only); (repeat' split) <;> simp

@[simp] theorem State.stoppingPeriod_outer (s : State) (a : AxisId) (m : Move) : (s.stoppingPeriod a m).outer = s.outer := by
  unfold State.stoppingPeriod; (try dsimp only); (repeat' split) <;> simp

@[simp] theorem State.periodWork_outer (s : State) (a : AxisId) : (s.periodWork a).outer = s.outer := by
  unfold State.periodWork; (try dsimp only); (repeat' split) <;> simp

@[simp] theorem State.takeDirect_outer (s : State) (k : SlotId) (a : AxisId) (r : DirectReq) : (s.takeDirect k a r).outer = s.outer := by
  unfold State.takeDirect; (try dsimp only); (repeat' split) <;> simp

@[simp] theorem State.takeHome_outer (s : State) (k : SlotId) (body : List Word) : (s.takeHome k body).outer = s.outer := by
  unfold State.takeHome; (try dsimp only); (repeat' split) <;> simp

@[simp] theorem State.takeMoveTo_outer (s : State) (k : SlotId) (body : List Word) : (s.takeMoveTo k body).outer = s.outer := by
  unfold State.takeMoveTo; (try dsimp only); (repeat' split) <;> simp

@[simp] theorem State.takeMoveBy_outer (s : State) (k : SlotId) (body : List Word) : (s.takeMoveBy k body).outer = s.outer := by
  unfold State.takeMoveBy; (try dsimp only); (repeat' split) <;> simp

@[simp] theorem State.dropPark_outer (s : State) (a : AxisId) : (s.dropPark a).outer = s.outer := by
  unfold State.dropPark; (try dsimp only); (repeat' split) <;> simp

@[simp] theorem State.takeStop_outer (s : State) (k : SlotId) (body : List Word) : (s.takeStop k body).outer = s.outer := by
  unfold State.takeStop; (try dsimp only); (repeat' split) <;> simp

@[simp] theorem State.takeReport_outer (s : State) (k : SlotId) (body : List Word) : (s.takeReport k body).outer = s.outer := by
  unfold State.takeReport; (try dsimp only); (repeat' split) <;> simp

@[simp] theorem State.applySetup_outer (s : State) (a : AxisId) (c : AxisCfg) : (s.applySetup a c).outer = s.outer := by
  unfold State.applySetup; (try dsimp only); (repeat' split) <;> simp

@[simp] theorem State.takeSetup_outer (s : State) (k : SlotId) (body : List Word) : (s.takeSetup k body).outer = s.outer := by
  unfold State.takeSetup; (try dsimp only); (repeat' split) <;> simp

@[simp] theorem State.axisPowerDown_outer (s : State) (a : AxisId) : (s.axisPowerDown a).outer = s.outer := by
  unfold State.axisPowerDown; (try dsimp only); (repeat' split) <;> simp

@[simp] theorem State.beginCooldown_outer (s : State) (k : SlotId) (park : Bool) : (s.beginCooldown k park).outer = s.outer := by
  unfold State.beginCooldown; (try dsimp only); (repeat' split) <;> simp

@[simp] theorem State.takePowerDown_outer (s : State) (k : SlotId) (body : List Word) : (s.takePowerDown k body).outer = s.outer := by
  unfold State.takePowerDown; (try dsimp only); (repeat' split) <;> simp

@[simp] theorem State.abortQueued_outer (s : State) (k : SlotId) (a : AxisId) : (s.abortQueued k a).outer = s.outer := by
  unfold State.abortQueued; (try dsimp only); (repeat' split) <;> simp

@[simp] theorem State.abortStop_outer (s : State) (k : SlotId) (a : AxisId) : (s.abortStop k a).outer = s.outer := by
  unfold State.abortStop; (try dsimp only); (repeat' split) <;> simp

/-! ### Notices -/

@[simp] theorem State.takeNoticeSetup_outer (s : State) (k : SlotId) (body : List Word) : (s.takeNoticeSetup k body).outer = s.outer := by
  unfold State.takeNoticeSetup; (try dsimp only); (repeat' split) <;> simp

@[simp] theorem State.consumerWrite_outer (s : State) (data : Word) (be : BitVec 4) : (s.consumerWrite data be).outer = s.outer := by
  unfold State.consumerWrite; (try dsimp only); (repeat' split) <;> simp

/-! ### Slots -/

@[simp] theorem State.route_outer (s : State) (k : SlotId) (kind : Kind) (body : List Word) : (s.route k kind body).outer = s.outer := by
  unfold State.route; (try dsimp only); (repeat' split) <;> simp

@[simp] theorem State.checkAndRoute_outer (s : State) (k : SlotId) (kind : Kind) (header : Word) : (s.checkAndRoute k kind header).outer = s.outer := by
  unfold State.checkAndRoute; (try dsimp only); (repeat' split) <;> simp

@[simp] theorem State.takePost_outer (s : State) (k : SlotId) : (s.takePost k).outer = s.outer := by
  unfold State.takePost; (try dsimp only); (repeat' split) <;> simp

@[simp] theorem State.abortHolder_outer (s : State) (k : SlotId) (h : Holder) : (s.abortHolder k h).outer = s.outer := by
  unfold State.abortHolder; (try dsimp only); (repeat' split) <;> simp

@[simp] theorem State.takeAbort_outer (s : State) (k : SlotId) : (s.takeAbort k).outer = s.outer := by
  unfold State.takeAbort; (try dsimp only); (repeat' split) <;> simp

@[simp] theorem State.slotWriteEnd_outer (s : State) (offset : Nat) (data : Word) (be : BitVec 4) (act : SlotAct) (superseded : Bool) : (s.slotWriteEnd offset data be act superseded).outer = s.outer := by
  unfold State.slotWriteEnd; (try dsimp only); (repeat' split) <;> simp

end Sys2Proof.Machine
end

