-- ==== Sys2Proof/Laws/Fans.lean ====
section
/-! SUPPORT. What a recomputation of the allotments, of the fans' demand and a fan tick do, said once: each fan's record after
them, and the blocks that they leave alone. -/

namespace Sys2Proof.Machine

/-! ### The time to the fan tick (R84) -/

@[simp] theorem fanTickAfter_zero (left : Nat) : fanTickAfter left 0 = left := rfl

/-- Time that passes brings the next whole second nearer by itself, up to whole seconds. -/
theorem fanTickAfter_mod (left ms : Nat) : (ms + fanTickAfter left ms) % 1000 = left % 1000 := by
  unfold fanTickAfter
  split <;> omega

theorem fanTickAfter_le (left ms : Nat) (h : left ≤ 1000) : fanTickAfter left ms ≤ 1000 := by
  unfold fanTickAfter
  split <;> omega

/-- Time that passes in two parts leads to the same whole second. -/
theorem fanTickAfter_add (left a b : Nat) : fanTickAfter left (a + b) = fanTickAfter (fanTickAfter left a) b := by
  unfold fanTickAfter
  split <;> split <;> (try split) <;> omega

/-! ### The budget unit's recomputation -/

@[simp] theorem State.rebudget_fans (s : State) : s.rebudget.fans = s.fans := rfl
@[simp] theorem State.rebudget_thermal (s : State) : s.rebudget.thermal = s.thermal := rfl
@[simp] theorem State.rebudget_power (s : State) : s.rebudget.power = s.power := rfl
@[simp] theorem State.rebudget_placement (s : State) : s.rebudget.placement = s.placement := rfl
@[simp] theorem State.rebudget_mesh (s : State) : s.rebudget.mesh = s.mesh := rfl
@[simp] theorem State.rebudget_slots (s : State) : s.rebudget.slots = s.slots := rfl
@[simp] theorem State.rebudget_events (s : State) : s.rebudget.events = s.events := rfl
@[simp] theorem State.rebudget_notice (s : State) : s.rebudget.notice = s.notice := rfl

theorem Axis.SameButDrive.refl (x : Axis) : x.SameButDrive x := rfl

theorem Axis.SameButDrive.trans {x y z : Axis} (a : x.SameButDrive y) (b : y.SameButDrive z) : x.SameButDrive z := by
  unfold Axis.SameButDrive at *
  rw [← a, ← b]

/-- An allotment may lower an axis's drive and changes nothing else of the axis (R123). -/
theorem Axis.takeAllotment_sameButDrive (x : Axis) (c : Class) : x.SameButDrive (x.takeAllotment c) := by
  unfold Axis.takeAllotment Axis.driveAt Axis.SameButDrive
  split
  · split <;> rfl
  · rfl

theorem State.rebudget_axes (s : State) : s.AxesSameButDrive s.rebudget :=
  ⟨Axis.takeAllotment_sameButDrive _ _, Axis.takeAllotment_sameButDrive _ _⟩

/-! ### One fan after another -/

/-- What a change of the fans leaves alone: every other block, but for the drives that a smaller allotment lowers (R123). -/
structure FansOnly (s t : State) : Prop where
  outer : t.outer = s.outer
  thermal : t.thermal = s.thermal
  power : t.power = s.power
  placement : t.placement = s.placement
  mesh : t.mesh = s.mesh
  slots : t.slots = s.slots
  events : t.events = s.events
  notice : t.notice = s.notice
  axes : s.AxesSameButDrive t

theorem FansOnly.trans {s t u : State} (a : FansOnly s t) (b : FansOnly t u) : FansOnly s u :=
  ⟨b.outer.trans a.outer, b.thermal.trans a.thermal, b.power.trans a.power, b.placement.trans a.placement,
    b.mesh.trans a.mesh, b.slots.trans a.slots, b.events.trans a.events, b.notice.trans a.notice,
    a.axes.1.trans b.axes.1, a.axes.2.trans b.axes.2⟩

theorem State.drawFan_only (s : State) (f : FanId) (x : Fan) : FansOnly s (s.drawFan f x) :=
  ⟨s.drawFan_outer f x, rfl, rfl, rfl, rfl, rfl, rfl, rfl, (s.setFan f x).rebudget_axes⟩

@[simp] theorem State.fan_drawFan_self (s : State) (f : FanId) (x : Fan) : (s.drawFan f x).fan f = x := by
  cases f <;> rfl

theorem State.fan_drawFan_other (s : State) (f g : FanId) (x : Fan) (h : g ≠ f) : (s.drawFan f x).fan g = s.fan g := by
  cases f <;> cases g <;> first | rfl | exact absurd rfl h

/-- A fan's demand depends on its own record, the channels, the level and the mode (R82). -/
theorem State.demandOf_congr (s t : State) (f : FanId) (hf : t.fan f = s.fan f) (ht : t.thermal = s.thermal)
    (hp : t.power = s.power) (hl : t.placement = s.placement) : t.demandOf f = s.demandOf f := by
  unfold State.demandOf State.largestTerm State.governing State.curveOf State.channel State.autonomous
  rw [hf, ht, hp, hl]

theorem State.standby_congr (s t : State) (hp : t.power = s.power) : t.standby = s.standby := by
  unfold State.standby; rw [hp]

/-- After a recomputation of every demand each fan has taken its own (R83), and the rest of the part is as before. -/
theorem State.refreshFans_fan (s : State) (f : FanId) :
    s.refreshFans.fan f = (s.fan f).takeDemand s.standby (s.demandOf f) := by
  have step : ∀ (t : State) (g : FanId), FansOnly t (t.refreshFan g)
      ∧ (t.refreshFan g).fan g = (t.fan g).takeDemand t.standby (t.demandOf g)
      ∧ ∀ k, k ≠ g → (t.refreshFan g).fan k = t.fan k :=
    fun t g => ⟨t.drawFan_only g _, t.fan_drawFan_self g _, fun k h => t.fan_drawFan_other g k _ h⟩
  obtain ⟨a1, a2, a3⟩ := step s .intake
  obtain ⟨b1, b2, b3⟩ := step (s.refreshFan .intake) .exhaust
  obtain ⟨c1, c2, c3⟩ := step ((s.refreshFan .intake).refreshFan .exhaust) .source
  have ab := a1.trans b1
  unfold State.refreshFans
  cases f with
  | intake => rw [c3 _ (by decide), b3 _ (by decide), a2]
  | exhaust =>
    have hf := a3 .exhaust (by decide)
    rw [c3 _ (by decide), b2, hf, State.standby_congr _ _ a1.power,
      State.demandOf_congr _ _ _ hf a1.thermal a1.power a1.placement]
  | source =>
    have hf : ((s.refreshFan .intake).refreshFan .exhaust).fan .source = s.fan .source := by
      rw [b3 _ (by decide), a3 _ (by decide)]
    rw [c2, hf, State.standby_congr _ _ ab.power, State.demandOf_congr _ _ _ hf ab.thermal ab.power ab.placement]

theorem State.refreshFans_only (s : State) : FansOnly s s.refreshFans :=
  ((s.drawFan_only _ _).trans (State.drawFan_only _ _ _)).trans (State.drawFan_only _ _ _)

/-- After a fan tick each fan has fallen by its own step (R84), and the rest of the part is as before. -/
theorem State.tickFans_fan (s : State) (f : FanId) : s.tickFans.fan f = (s.fan f).tick s.standby := by
  have other : ∀ (t : State) (g k : FanId), k ≠ g → (t.tickFan g).fan k = t.fan k := fun t g k h => t.fan_drawFan_other g k _ h
  have self : ∀ (t : State) (g : FanId), (t.tickFan g).fan g = (t.fan g).tick t.standby := fun t g => t.fan_drawFan_self g _
  have mode : ∀ (t : State) (g : FanId), (t.tickFan g).standby = t.standby :=
    fun t g => State.standby_congr _ _ (t.drawFan_only g _).power
  unfold State.tickFans
  cases f with
  | intake => rw [other _ _ _ (by decide), other _ _ _ (by decide), self]
  | exhaust => rw [other _ _ _ (by decide), self, other _ _ _ (by decide), mode]
  | source => rw [self, other _ _ _ (by decide), other _ _ _ (by decide), mode, mode]

theorem State.tickFans_only (s : State) : FansOnly s s.tickFans :=
  ((s.drawFan_only _ _).trans (State.drawFan_only _ _ _)).trans (State.drawFan_only _ _ _)

/-! ### A fan's record -/

/-- State and drive follow the commanded duty (R86, R87); nothing else of the record but the kick and clean timers does. -/
theorem Fan.follow_keeps (standby : Bool) (x : Fan) :
    Fan.follow standby x =
      { x with
        st := (Fan.follow standby x).st
        drive := (Fan.follow standby x).drive
        kickTimer := (Fan.follow standby x).kickTimer
        cleanTimer := (Fan.follow standby x).cleanTimer } := by
  unfold Fan.follow
  split
  · split <;> rfl
  · split <;> rfl
  · split <;> rfl
  · rfl

/-- A demand (R83, R85): a rise is commanded at once, a fall is left to the ticks; in STANDBY the commanded duty is 0. -/
theorem Fan.takeDemand_keeps (standby : Bool) (d : Nat) (x : Fan) :
    Fan.takeDemand standby d x =
      { x with
        demand := d
        commanded := if standby then 0 else max x.commanded d
        st := (Fan.takeDemand standby d x).st
        drive := (Fan.takeDemand standby d x).drive
        kickTimer := (Fan.takeDemand standby d x).kickTimer
        cleanTimer := (Fan.takeDemand standby d x).cleanTimer } :=
  Fan.follow_keeps standby _

/-- A FAILED fan stays FAILED, at 100 outside STANDBY (R86). -/
theorem Fan.takeDemand_failed (standby : Bool) (d : Nat) (x : Fan) (h : x.st = .failed) :
    (Fan.takeDemand standby d x).st = .failed ∧ (Fan.takeDemand standby d x).drive = if standby then 0 else 100 := by
  unfold Fan.takeDemand Fan.follow
  simp only [h]
  exact ⟨trivial, trivial⟩

end Sys2Proof.Machine
end

