-- ==== Sys2Proof/Laws/Words.lean ====
section
/-! SUPPORT. Words, headers and addresses: what reading back a written word, a header field or an offset gives. -/

namespace Sys2Proof.Machine

theorem byteOf_zero_lsb (w : Word) (k i : Nat) (h : i < 8) : (byteOf w k).getLsbD i = w.getLsbD (8 * k + i) := by
  simp [byteOf, h]

/-- A word is its four bytes. -/
theorem word_of_bytes (w : Word) : (byteOf w 3 ++ byteOf w 2 ++ byteOf w 1 ++ byteOf w 0 : BitVec 32) = w := by
  apply BitVec.eq_of_getLsbD_eq
  intro i hi
  simp only [BitVec.getLsbD_append]
  have h8 : ∀ k j, j < 8 → (byteOf w k).getLsbD j = w.getLsbD (8 * k + j) := byteOf_zero_lsb w
  split
  · rw [h8 0 i (by omega)]; simp
  · split
    · rw [h8 1 _ (by omega)]; congr 1; omega
    · split
      · rw [h8 2 _ (by omega)]; congr 1; omega
      · rw [h8 3 _ (by omega)]; congr 1; omega

/-- A word written with all byte enables replaces the old one. -/
@[simp] theorem mergeWord_all (old new : Word) : mergeWord old new 0xF = new := by
  have : mergeWord old new 0xF = byteOf new 3 ++ byteOf new 2 ++ byteOf new 1 ++ byteOf new 0 := by
    simp [mergeWord]
  rw [this, word_of_bytes]

theorem ofBool_getLsbD_zero (b : Bool) : (BitVec.ofBool b).getLsbD 0 = b := by cases b <;> rfl

@[simp] theorem headerOwner_post (k : BitVec 6) (p : Post) : headerOwner (postHeader k p) = true := by
  simp only [headerOwner, postHeader, BitVec.getLsbD_append]; rfl

@[simp] theorem headerAbort_post (k : BitVec 6) (p : Post) : headerAbort (postHeader k p) = p.abort := by
  simp only [headerAbort, postHeader, BitVec.getLsbD_append]; exact ofBool_getLsbD_zero p.abort

@[simp] theorem headerKind_post (k : BitVec 6) (p : Post) : headerKind (postHeader k p) = k := by
  apply BitVec.eq_of_getLsbD_eq
  intro i hi
  have h1 : ¬ 24 + i < 12 := by omega
  have h2 : ¬ 24 + i - 12 < 4 := by omega
  have h3 : ¬ 24 + i - 12 - 4 < 8 := by omega
  have h5 : 24 + i - 12 - 4 - 8 = i := by omega
  simp only [headerKind, postHeader, BitVec.getLsbD_extractLsb', BitVec.getLsbD_append, h1, h2, h3, h5, hi, if_true,
    if_false, decide_true, Bool.true_and]

@[simp] theorem headerTag_post (k : BitVec 6) (p : Post) : headerTag (postHeader k p) = p.tag := by
  apply BitVec.eq_of_getLsbD_eq
  intro i hi
  have h1 : ¬ 16 + i < 12 := by omega
  have h2 : ¬ 16 + i - 12 < 4 := by omega
  have h5 : 16 + i - 12 - 4 = i := by omega
  simp only [headerTag, postHeader, BitVec.getLsbD_extractLsb', BitVec.getLsbD_append, h1, h2, h5, hi, if_true, if_false,
    decide_true, Bool.true_and]

@[simp] theorem headerLen_post (k : BitVec 6) (p : Post) : headerLen (postHeader k p) = p.len.toNat := by
  have : (postHeader k p).extractLsb' 12 4 = p.len := by
    apply BitVec.eq_of_getLsbD_eq
    intro i hi
    have h1 : ¬ 12 + i < 12 := by omega
    have h5 : 12 + i - 12 = i := by omega
    simp only [postHeader, BitVec.getLsbD_extractLsb', BitVec.getLsbD_append, h1, h5, hi, if_true, if_false, decide_true,
      Bool.true_and]
  simp [headerLen, this]

@[simp] theorem kindOfCode_number (k : Kind) : kindOfCode k.number = some k := by cases k <;> rfl

/-! ### Addresses -/

/-- The byte base of the optics region (R141). -/
def State.regionBase (s : State) : Nat := s.path.region.toNat * 0x1000000 + 0x00FFC000

theorem State.regionBase_lt (s : State) : s.regionBase + 0x3FFF < 2 ^ 32 := by
  have := s.path.region.isLt
  simp only [State.regionBase]
  omega

theorem regionTag_toNat (r : BitVec 4) : (regionTag r).toNat = r.toNat * 1024 + 1023 := by
  have h : ∀ r : BitVec 4, (regionTag r).toNat = r.toNat * 1024 + 1023 := by decide
  exact h r

/-- The offset of an address as R141 words it. -/
theorem State.offsetOf_eq (s : State) (addr : Word) :
    s.offsetOf addr =
      if s.regionBase ≤ addr.toNat ∧ addr.toNat ≤ s.regionBase + 0x3FFF then some ((addr.toNat - s.regionBase) / 4)
      else none := by
  have hr := s.path.region.isLt
  have ha := addr.isLt
  have h1 : (addr.extractLsb' 14 18 = regionTag s.path.region) ↔
      addr.toNat / 16384 = s.path.region.toNat * 1024 + 1023 := by
    rw [← BitVec.toNat_inj, regionTag_toNat, BitVec.extractLsb'_toNat, Nat.shiftRight_eq_div_pow]
    rw [Nat.mod_eq_of_lt (by omega)]
  have h2 : (addr.extractLsb' 2 12).toNat = addr.toNat / 4 % 4096 := by
    rw [BitVec.extractLsb'_toNat, Nat.shiftRight_eq_div_pow]
  unfold State.offsetOf State.regionBase
  by_cases h : addr.toNat / 16384 = s.path.region.toNat * 1024 + 1023
  · rw [if_pos (h1.mpr h), if_pos (by omega), h2]
    congr 1
    omega
  · rw [if_neg (fun q => h (h1.mp q)), if_neg (by omega)]

theorem State.addrOf_toNat (s : State) (o : Nat) (h : o < 0x1000) : (s.addrOf o).toNat = s.regionBase + 4 * o := by
  have hr := s.path.region.isLt
  unfold State.addrOf State.regionBase
  rw [BitVec.toNat_append, BitVec.toNat_append, regionTag_toNat, BitVec.toNat_ofNat, Nat.mod_eq_of_lt (by omega)]
  rw [← Nat.shiftLeft_add_eq_or_of_lt (show o < 2 ^ 12 by omega)]
  have h0 : (0#2).toNat = 0 := rfl
  rw [h0, Nat.or_zero]
  simp only [Nat.shiftLeft_eq]
  omega

@[simp] theorem State.offsetOf_addrOf (s : State) (o : Nat) (h : o < 0x1000) : s.offsetOf (s.addrOf o) = some o := by
  rw [State.offsetOf_eq, s.addrOf_toNat o h, if_pos (by omega)]
  congr 1
  omega

theorem State.wordBase_addrOf (s : State) (o : Nat) (h : o < 0x1000) : wordBase (s.addrOf o) = s.regionBase + 4 * o := by
  have h4 : s.regionBase % 4 = 0 := by simp only [State.regionBase]; omega
  simp only [wordBase, s.addrOf_toNat o h]
  omega

theorem State.offsetOf_lt (s : State) (a : Word) (o : Nat) (h : s.offsetOf a = some o) : o < 0x1000 := by
  simp only [State.offsetOf] at h
  split at h
  · simp only [Option.some.injEq] at h; omega
  · cases h

theorem slotOffset_lt (k : SlotId) (w : Fin 16) : slotOffset k w < 0x80 := by
  simp only [slotOffset]; omega

@[simp] theorem slotOfOffset_slotOffset (k : SlotId) (w : Nat) (h : w < 16) : slotOfOffset (slotOffset k w) = k := by
  apply Fin.ext; simp only [slotOfOffset, slotOffset]; omega

@[simp] theorem wordOfOffset_slotOffset (k : SlotId) (w : Nat) (h : w < 16) : wordOfOffset (slotOffset k w) = ⟨w, h⟩ := by
  apply Fin.ext; simp only [wordOfOffset, slotOffset]; omega

end Sys2Proof.Machine
end

