-- ==== Sys2Proof/Laws/Memory.lean ====
section
/-! SUPPORT. The memory list: every write keeps its canonical form, and what a read gives after a write. -/

namespace Sys2Proof.Machine

theorem Memory.wf_cons (a : Nat) (b : Byte) (m : Memory) :
    Memory.wf ((a, b) :: m) = true ↔ b ≠ Memory.blank ∧ (∀ c ∈ m, a < c.1) ∧ Memory.wf m = true := by
  simp [Memory.wf, and_assoc]

/-- Every address of a memory after a write is an old one or the one written. -/
theorem Memory.mem_set (m : Memory) (k : Nat) (v : Byte) (c : Host.Cell) (h : c ∈ Memory.set m k v) :
    c ∈ m ∨ c.1 = k := by
  induction m with
  | nil =>
    simp only [Memory.set] at h
    split at h <;> simp_all
  | cons hd m ih =>
    obtain ⟨a, b⟩ := hd
    simp only [Memory.set] at h
    split at h
    · split at h
      · exact Or.inl h
      · rcases List.mem_cons.mp h with h | h
        · exact Or.inr (by rw [h])
        · exact Or.inl h
    · split at h
      · split at h
        · exact Or.inl (List.mem_cons_of_mem _ h)
        · rcases List.mem_cons.mp h with h | h
          · exact Or.inr (by rw [h])
          · exact Or.inl (List.mem_cons_of_mem _ h)
      · rcases List.mem_cons.mp h with h | h
        · exact Or.inl (by rw [h]; exact List.mem_cons_self ..)
        · rcases ih h with h | h
          · exact Or.inl (List.mem_cons_of_mem _ h)
          · exact Or.inr h

/-- A byte write keeps the canonical form. -/
theorem Memory.wf_set (m : Memory) (k : Nat) (v : Byte) (h : Memory.wf m = true) : Memory.wf (Memory.set m k v) = true := by
  induction m with
  | nil =>
    simp only [Memory.set]
    split
    · rfl
    · next hv => exact (Memory.wf_cons _ _ _).mpr ⟨hv, by simp, rfl⟩
  | cons hd m ih =>
    obtain ⟨a, b⟩ := hd
    obtain ⟨hb, ha, hm⟩ := (Memory.wf_cons _ _ _).mp h
    simp only [Memory.set]
    split
    · next hk =>
      split
      · exact h
      · next hv =>
        refine (Memory.wf_cons _ _ _).mpr ⟨hv, ?_, h⟩
        intro c hc
        rcases List.mem_cons.mp hc with hc | hc
        · rw [hc]; exact hk
        · exact Nat.lt_trans hk (ha c hc)
    · split
      · next hk =>
        split
        · exact hm
        · next hv => exact (Memory.wf_cons _ _ _).mpr ⟨hv, by rw [hk]; exact ha, hm⟩
      · next hlt hne =>
        refine (Memory.wf_cons _ _ _).mpr ⟨hb, ?_, ih hm⟩
        intro c hc
        rcases Memory.mem_set m k v c hc with hc | hc
        · exact ha c hc
        · omega

theorem Memory.get_of_lt (m : Memory) (k : Nat) (h : ∀ c ∈ m, k < c.1) : Memory.get m k = Memory.blank := by
  induction m with
  | nil => rfl
  | cons hd m ih =>
    obtain ⟨a, b⟩ := hd
    have ha : k < a := h (a, b) (List.mem_cons_self ..)
    simp only [Memory.get]
    rw [if_neg (by omega)]
    exact ih (fun c hc => h c (List.mem_cons_of_mem _ hc))

/-- The byte written reads back. -/
theorem Memory.get_set_self (m : Memory) (k : Nat) (v : Byte) (h : Memory.wf m = true) :
    Memory.get (Memory.set m k v) k = v := by
  induction m with
  | nil =>
    simp only [Memory.set]
    split
    · next hv => rw [hv]; rfl
    · simp [Memory.get]
  | cons hd m ih =>
    obtain ⟨a, b⟩ := hd
    obtain ⟨hb, ha, hm⟩ := (Memory.wf_cons _ _ _).mp h
    simp only [Memory.set]
    split
    · next hk =>
      split
      · next hv =>
        rw [hv]
        apply Memory.get_of_lt
        intro c hc
        rcases List.mem_cons.mp hc with hc | hc
        · rw [hc]; exact hk
        · exact Nat.lt_trans hk (ha c hc)
      · simp [Memory.get]
    · split
      · next hk =>
        split
        · next hv => rw [hv]; exact Memory.get_of_lt m k (by rw [hk]; exact ha)
        · simp [Memory.get]
      · next hne => simp only [Memory.get]; rw [if_neg (by omega)]; exact ih hm

/-- Every other byte reads as before. -/
theorem Memory.get_set_other (m : Memory) (k j : Nat) (v : Byte) (hj : j ≠ k) :
    Memory.get (Memory.set m k v) j = Memory.get m j := by
  induction m with
  | nil =>
    simp only [Memory.set]
    split
    · rfl
    · simp only [Memory.get]; rw [if_neg (by omega)]
  | cons hd m ih =>
    obtain ⟨a, b⟩ := hd
    simp only [Memory.set]
    split
    · split
      · rfl
      · simp only [Memory.get]; rw [if_neg (by omega)]
    · split
      · next hk =>
        split
        · simp only [Memory.get]; rw [if_neg (by omega)]
        · simp only [Memory.get]; rw [if_neg (by omega), if_neg (by omega)]
      · simp only [Memory.get]; split
        · rfl
        · exact ih

/-! ### Words -/

theorem Memory.wf_setLane (m : Memory) (base : Nat) (w : Word) (be : BitVec 4) (k : Nat) (h : Memory.wf m = true) :
    Memory.wf (Memory.setLane m base w be k) = true := by
  simp only [Memory.setLane]
  split
  · exact Memory.wf_set _ _ _ h
  · exact h

/-- A word write keeps the canonical form. -/
theorem Memory.wf_writeWord (m : Memory) (base : Nat) (w : Word) (be : BitVec 4) (h : Memory.wf m = true) :
    Memory.wf (Memory.writeWord m base w be) = true := by
  simp only [Memory.writeWord]
  exact Memory.wf_setLane _ _ _ _ _ (Memory.wf_setLane _ _ _ _ _ (Memory.wf_setLane _ _ _ _ _ (Memory.wf_setLane _ _ _ _ _ h)))

theorem Memory.get_setLane_other (m : Memory) (base j : Nat) (w : Word) (be : BitVec 4) (k : Nat) (h : j ≠ base + k) :
    Memory.get (Memory.setLane m base w be k) j = Memory.get m j := by
  simp only [Memory.setLane]
  split
  · exact Memory.get_set_other _ _ _ _ h
  · rfl

theorem Memory.get_setLane_self (m : Memory) (base : Nat) (w : Word) (be : BitVec 4) (k : Nat) (h : Memory.wf m = true) :
    Memory.get (Memory.setLane m base w be k) (base + k) =
      if be.getLsbD k then byteOf w k else Memory.get m (base + k) := by
  simp only [Memory.setLane]
  split
  · exact Memory.get_set_self _ _ _ h
  · rfl

/-- Outside the word every byte reads as before. -/
theorem Memory.get_writeWord_outside (m : Memory) (base j : Nat) (w : Word) (be : BitVec 4)
    (h : j < base ∨ base + 4 ≤ j) : Memory.get (Memory.writeWord m base w be) j = Memory.get m j := by
  simp only [Memory.writeWord]
  rw [Memory.get_setLane_other _ _ _ _ _ _ (by omega), Memory.get_setLane_other _ _ _ _ _ _ (by omega),
    Memory.get_setLane_other _ _ _ _ _ _ (by omega), Memory.get_setLane_other _ _ _ _ _ _ (by omega)]

/-- Byte k of the word is written when its byte enable is set. -/
theorem Memory.get_writeWord_lane (m : Memory) (base : Nat) (w : Word) (be : BitVec 4) (k : Nat) (hk : k < 4)
    (h : Memory.wf m = true) : Memory.get (Memory.writeWord m base w be) (base + k) =
      if be.getLsbD k then byteOf w k else Memory.get m (base + k) := by
  have h0 := Memory.wf_setLane m base w be 0 h
  have h1 := Memory.wf_setLane _ base w be 1 h0
  have h2 := Memory.wf_setLane _ base w be 2 h1
  simp only [Memory.writeWord]
  match k, hk with
  | 0, _ =>
    rw [Memory.get_setLane_other _ _ _ _ _ _ (by omega), Memory.get_setLane_other _ _ _ _ _ _ (by omega),
      Memory.get_setLane_other _ _ _ _ _ _ (by omega), Memory.get_setLane_self _ _ _ _ _ h]
  | 1, _ =>
    rw [Memory.get_setLane_other _ _ _ _ _ _ (by omega), Memory.get_setLane_other _ _ _ _ _ _ (by omega),
      Memory.get_setLane_self _ _ _ _ _ h0, Memory.get_setLane_other _ _ _ _ _ _ (by omega)]
  | 2, _ =>
    rw [Memory.get_setLane_other _ _ _ _ _ _ (by omega), Memory.get_setLane_self _ _ _ _ _ h1,
      Memory.get_setLane_other _ _ _ _ _ _ (by omega), Memory.get_setLane_other _ _ _ _ _ _ (by omega)]
  | 3, _ =>
    rw [Memory.get_setLane_self _ _ _ _ _ h2, Memory.get_setLane_other _ _ _ _ _ _ (by omega),
      Memory.get_setLane_other _ _ _ _ _ _ (by omega), Memory.get_setLane_other _ _ _ _ _ _ (by omega)]

/-- A word written whole reads back. -/
theorem Memory.readWord_writeWord (m : Memory) (base : Nat) (w : Word) (h : Memory.wf m = true) :
    Memory.readWord (Memory.writeWord m base w 0xF) base = w := by
  have l (k : Nat) (hk : k < 4) (hb : (0xF : BitVec 4).getLsbD k = true) :
      Memory.get (Memory.writeWord m base w 0xF) (base + k) = byteOf w k := by
    rw [Memory.get_writeWord_lane m base w 0xF k hk h, if_pos hb]
  simp only [Memory.readWord]
  have l0 := l 0 (by omega) rfl
  rw [Nat.add_zero] at l0
  rw [l 3 (by omega) rfl, l 2 (by omega) rfl, l 1 (by omega) rfl, l0, word_of_bytes]

/-- Reset memory is canonical. -/
theorem Memory.wf_reset : Memory.wf State.reset.mem = true := rfl

end Sys2Proof.Machine
end

