-- ==== Sys2Proof/Laws/PerInstr.lean ====
section
/-! SUPPORT. The per-command family IllFormed: only three commands have an operand that the environment cannot supply. -/

namespace Sys2Proof.Laws.IllFormed

/-- A command is well formed unless it is a reading outside the sensor's range (R97), an acceptance of no input (R17, R19), or
an ABORT without the abort flag (R158). -/
def Statement (i : Instr) : Prop :=
  i.wellFormed = true
    ∨ (∃ ch code, i = .temperatureReading ch code ∧ WellFormed.code code = false)
    ∨ (∃ a inputs, i = .filterAccept a inputs ∧ WellFormed.accepts inputs = false)
    ∨ (∃ kind p, i = .abort kind p ∧ WellFormed.abort p = false)

theorem powerOnReset (pins : PinLevels) : Statement (.powerOnReset pins) := Or.inl rfl
theorem systemReset (straps : Straps) : Statement (.systemReset straps) := Or.inl rfl
theorem resetRelease : Statement .resetRelease := Or.inl rfl
theorem hostRead (addr : Word) : Statement (.hostRead addr) := Or.inl rfl
theorem hostWrite (addr : Word) (data : Word) (be : BitVec 4) : Statement (.hostWrite addr data be) := Or.inl rfl
theorem memoryAnswer : Statement .memoryAnswer := Or.inl rfl
theorem memoryTimeout : Statement .memoryTimeout := Or.inl rfl
theorem pairLowRead (pair : PairId) : Statement (.pairLowRead pair) := Or.inl rfl
theorem acknowledge : Statement .acknowledge := Or.inl rfl
theorem endOfService (data : Word) (be : BitVec 4) : Statement (.endOfService data be) := Or.inl rfl
theorem abort (kind : BitVec 6) (p : Post) : Statement (.abort kind p) := by
  cases h : WellFormed.abort p with
  | true => exact Or.inl h
  | false => exact Or.inr (Or.inr (Or.inr ⟨kind, p, rfl, h⟩))
theorem nop (p : Post) : Statement (.nop p) := Or.inl rfl
theorem axisHome (p : Post) : Statement (.axisHome p) := Or.inl rfl
theorem axisMoveTo (p : Post) : Statement (.axisMoveTo p) := Or.inl rfl
theorem axisMoveBy (p : Post) : Statement (.axisMoveBy p) := Or.inl rfl
theorem axisStop (p : Post) : Statement (.axisStop p) := Or.inl rfl
theorem axisReport (p : Post) : Statement (.axisReport p) := Or.inl rfl
theorem axisSetup (p : Post) : Statement (.axisSetup p) := Or.inl rfl
theorem place (p : Post) : Statement (.place p) := Or.inl rfl
theorem orient (p : Post) : Statement (.orient p) := Or.inl rfl
theorem keystone (p : Post) : Statement (.keystone p) := Or.inl rfl
theorem corners (p : Post) : Statement (.corners p) := Or.inl rfl
theorem fanCurve (p : Post) : Statement (.fanCurve p) := Or.inl rfl
theorem thresholds (p : Post) : Statement (.thresholds p) := Or.inl rfl
theorem thermalResume (p : Post) : Statement (.thermalResume p) := Or.inl rfl
theorem fanFloor (p : Post) : Statement (.fanFloor p) := Or.inl rfl
theorem fanReport (p : Post) : Statement (.fanReport p) := Or.inl rfl
theorem powerDown (p : Post) : Statement (.powerDown p) := Or.inl rfl
theorem powerUp (p : Post) : Statement (.powerUp p) := Or.inl rfl
theorem noticeSetup (p : Post) : Statement (.noticeSetup p) := Or.inl rfl
theorem encoderEdge (axis : AxisId) (levels : EncLevels) : Statement (.encoderEdge axis levels) := Or.inl rfl
theorem filterAccept (axis : AxisId) (inputs : EncLevels) : Statement (.filterAccept axis inputs) := by
  cases h : WellFormed.accepts inputs with
  | true => exact Or.inl h
  | false => exact Or.inr (Or.inr (Or.inl ⟨axis, inputs, rfl, h⟩))
theorem motionPeriod (axis : AxisId) : Statement (.motionPeriod axis) := Or.inl rfl
theorem stall (axis : AxisId) : Statement (.stall axis) := Or.inl rfl
theorem budgetTimeout (axis : AxisId) : Statement (.budgetTimeout axis) := Or.inl rfl
theorem settleEnd (axis : AxisId) : Statement (.settleEnd axis) := Or.inl rfl
theorem stoppingEnd (axis : AxisId) : Statement (.stoppingEnd axis) := Or.inl rfl
theorem stopSlow (axis : AxisId) : Statement (.stopSlow axis) := Or.inl rfl
theorem homeTimeout (axis : AxisId) : Statement (.homeTimeout axis) := Or.inl rfl
theorem interlockAsserted : Statement .interlockAsserted := Or.inl rfl
theorem interlockReleased : Statement .interlockReleased := Or.inl rfl
theorem supplyLowAsserted : Statement .supplyLowAsserted := Or.inl rfl
theorem supplyLowDeasserted : Statement .supplyLowDeasserted := Or.inl rfl
theorem fanTick : Statement .fanTick := Or.inl rfl
theorem kickEnd (fan : FanId) : Statement (.kickEnd fan) := Or.inl rfl
theorem tachEdge (fan : FanId) (elapsed : Word) : Statement (.tachEdge fan elapsed) := Or.inl rfl
theorem tachWindowExpiry (fan : FanId) : Statement (.tachWindowExpiry fan) := Or.inl rfl
theorem cleanTimerExpiry (fan : FanId) : Statement (.cleanTimerExpiry fan) := Or.inl rfl
theorem temperatureReading (channel : ChannelId) (code : Int) : Statement (.temperatureReading channel code) := by
  cases h : WellFormed.code code with
  | true => exact Or.inl h
  | false => exact Or.inr (Or.inl ⟨channel, code, rfl, h⟩)
theorem heartbeatTimeout : Statement .heartbeatTimeout := Or.inl rfl
theorem minimumMet : Statement .minimumMet := Or.inl rfl
theorem cooldownTimeout : Statement .cooldownTimeout := Or.inl rfl
theorem fsync : Statement .fsync := Or.inl rfl
theorem retirementTimeout : Statement .retirementTimeout := Or.inl rfl

end Sys2Proof.Laws.IllFormed
end

