-- ==== Sys2Proof/Laws/Settle.lean ====
section
/-! SUPPORT. What claims and grants can do, said once: which parts of the state `settle` leaves alone, that a quiet state is
settled, and that settling ends quiet. -/

namespace Sys2Proof.Machine

/-! ### Claims -/

/-- The mesh generator's record without the progress of queueing a build. -/
def Mesh.core (m : Mesh) : Mesh := { m with st := .idle, progress := Initial.progress, requeueSelector := false }

/-- The state without what the three producers and the buffer use. -/
def State.inner (s : State) :=
  (s.pending, s.free, s.clock, s.hold, s.pins, s.mem, s.axes, s.placement, s.mesh.core, s.fans, s.thermal, s.budget, s.power,
    s.notice)

/-- The path without the buffer and the port. -/
def PathUnit.rest (p : PathUnit) : PathUnit := { p with buffer := [], port := none }

/-- The event writer's indices. -/
def EventWriter.idx (e : EventWriter) := (e.p, e.c, e.lost, e.overrun)

/-- What a claim keeps: all but the buffer, the outgoing list, the completion being written and the progress of a build. -/
structure ClaimKeeps (s t : State) : Prop where
  inner : t.inner = s.inner
  rest : t.path.rest = s.path.rest
  port : t.path.port.isSome = s.path.port.isSome
  idx : t.events.idx = s.events.idx
  longer : t.path.buffer.length = s.path.buffer.length + 1

@[simp] theorem State.supersede_inner (s : State) (o : Nat) : (s.supersede o).inner = s.inner := by
  unfold State.supersede; split
  · split <;> rfl
  · rfl

@[simp] theorem State.supersede_rest (s : State) (o : Nat) : (s.supersede o).path.rest = s.path.rest := by
  unfold State.supersede; split
  · split <;> rfl
  · rfl

@[simp] theorem State.supersede_buffer (s : State) (o : Nat) : (s.supersede o).path.buffer = s.path.buffer := by
  unfold State.supersede; split
  · split <;> rfl
  · rfl

@[simp] theorem State.supersede_isSome (s : State) (o : Nat) : (s.supersede o).path.port.isSome = s.path.port.isSome := by
  unfold State.supersede; split
  · next h => split
              · simp [h]
              · rfl
  · rfl

@[simp] theorem State.supersede_slots (s : State) (o : Nat) : (s.supersede o).slots = s.slots := by
  unfold State.supersede; split
  · split <;> rfl
  · rfl

@[simp] theorem State.supersede_events (s : State) (o : Nat) : (s.supersede o).events = s.events := by
  unfold State.supersede; split
  · split <;> rfl
  · rfl

@[simp] theorem State.supersede_mesh (s : State) (o : Nat) : (s.supersede o).mesh = s.mesh := by
  unfold State.supersede; split
  · split <;> rfl
  · rfl

/-- With a free port nothing is superseded. -/
theorem State.supersede_of_free (s : State) (o : Nat) (h : s.path.port = none) : s.supersede o = s := by
  unfold State.supersede; rw [h]

theorem State.queueSlotWord_keeps (s : State) (k : SlotId) (w : Nat) (d : Word) (p : Producer) :
    ClaimKeeps s (s.queueSlotWord k w d p) := by
  unfold State.queueSlotWord
  exact ⟨(State.supersede_inner _ _).trans rfl, (State.supersede_rest _ _).trans rfl,
    (State.supersede_isSome _ _).trans rfl, congrArg EventWriter.idx (State.supersede_events _ _),
    by simp [State.queueEntry, State.setShadow]⟩

theorem State.slotClaim_keeps (s t : State) (h : s.slotClaim = some t) : ClaimKeeps s t := by
  unfold State.slotClaim at h
  split at h
  · cases h
  · next c rest hq =>
    dsimp only at h
    split at h
    · cases h
      obtain ⟨a, b, c', d, e⟩ := s.queueSlotWord_keeps c.slot (s.slots.writer.queued + 1) (c.body.getD s.slots.writer.queued 0)
        .slotBody
      exact ⟨a, b, c', d, e⟩
    · split at h
      · split at h
        · next kind tag _ _ hv =>
          cases h
          obtain ⟨a, b, c', d, e⟩ := s.queueSlotWord_keeps c.slot 0 (completionHeader kind tag c.body.length c.result) .slotHeader
          exact ⟨a, b, c', d, e⟩
        · cases h
      · cases h

theorem State.eventClaim_keeps (s t : State) (h : s.eventClaim = some t) : ClaimKeeps s t := by
  unfold State.eventClaim at h
  dsimp only at h
  split at h
  · cases h; exact ⟨rfl, rfl, rfl, rfl, by simp [State.queueEntry]⟩
  · split at h
    · cases h
    · split at h <;> cases h <;> exact ⟨rfl, rfl, rfl, rfl, by simp [State.queueEntry]⟩

theorem State.meshClaim_keeps (s t : State) (h : s.meshClaim = some t) : ClaimKeeps s t := by
  unfold State.meshClaim at h
  split at h
  · cases h
  · dsimp only at h
    split at h
    · split at h
      · cases h; exact ⟨rfl, rfl, rfl, rfl, by simp [State.queueEntry]⟩
      · split at h
        · cases h; exact ⟨rfl, rfl, rfl, rfl, by simp [State.queueEntry]⟩
        · cases h
    · split at h
      · cases h; exact ⟨rfl, rfl, rfl, rfl, by simp [State.queueEntry]⟩
      · cases h
    · cases h
    · cases h

theorem Option.orElse_some {α : Type} (o : Option α) (f : Unit → Option α) (t : α) (h : o.orElse f = some t) :
    o = some t ∨ o = none ∧ f () = some t := by
  cases o with
  | none => exact Or.inr ⟨rfl, h⟩
  | some x => exact Or.inl h

theorem State.nextClaim_room (s t : State) (h : s.nextClaim = some t) : s.path.buffer.length < Config.bufferSize := by
  unfold State.nextClaim at h
  split at h
  · cases h
  · omega

theorem State.nextClaim_cases (s t : State) (h : s.nextClaim = some t) :
    s.slotClaim = some t ∨ s.slotClaim = none ∧ (s.eventClaim = some t ∨ s.meshClaim = some t) := by
  unfold State.nextClaim at h
  split at h
  · cases h
  · rcases Option.orElse_some _ _ _ h with h | ⟨h1, h⟩
    · exact Or.inl h
    · rcases Option.orElse_some _ _ _ h with h | ⟨_, h⟩
      · exact Or.inr ⟨h1, Or.inl h⟩
      · exact Or.inr ⟨h1, Or.inr h⟩

theorem State.nextClaim_keeps (s t : State) (h : s.nextClaim = some t) : ClaimKeeps s t := by
  rcases s.nextClaim_cases t h with h | ⟨_, h | h⟩
  · exact s.slotClaim_keeps t h
  · exact s.eventClaim_keeps t h
  · exact s.meshClaim_keeps t h

/-- Claims by the event writer and the mesh generator do not touch the slots. -/
theorem State.eventClaim_slots (s t : State) (h : s.eventClaim = some t) : t.slots = s.slots := by
  unfold State.eventClaim at h
  dsimp only at h
  split at h
  · cases h; rfl
  · split at h
    · cases h
    · split at h <;> cases h <;> rfl

theorem State.meshClaim_slots (s t : State) (h : s.meshClaim = some t) : t.slots = s.slots := by
  unfold State.meshClaim at h
  split at h
  · cases h
  · dsimp only at h
    split at h
    · split at h
      · cases h; rfl
      · split at h
        · cases h; rfl
        · cases h
    · split at h
      · cases h; rfl
      · cases h
    · cases h
    · cases h

/-- Whether a claim exists depends on the producers and on the room in the buffer alone. -/
theorem State.nextClaim_isNone_congr (s t : State) (hb : t.path.buffer.length = s.path.buffer.length)
    (hs : t.slots = s.slots) (he : t.events = s.events) (hm : t.mesh = s.mesh) :
    t.nextClaim.isNone = s.nextClaim.isNone := by
  have hv : ∀ k, t.view k = s.view k := fun k => by simp [State.view, hs]
  have h1 : t.slotClaim.isNone = s.slotClaim.isNone := by
    unfold State.slotClaim
    rw [hs]
    split
    · rfl
    · dsimp only
      split
      · simp only [Option.isNone_some]
      · split
        · rw [hv]; split <;> simp only [Option.isNone_some]
        · rfl
  have h2 : t.eventClaim.isNone = s.eventClaim.isNone := by
    unfold State.eventClaim
    rw [he]
    dsimp only
    split
    · simp only [Option.isNone_some]
    · split
      · rfl
      · split <;> simp only [Option.isNone_some]
  have h3 : t.meshClaim.isNone = s.meshClaim.isNone := by
    unfold State.meshClaim
    rw [hm]
    split
    · rfl
    · dsimp only
      split
      · split
        · simp only [Option.isNone_some]
        · split <;> simp only [Option.isNone_some]
      · split <;> simp only [Option.isNone_some]
      · rfl
      · rfl
  have h : ∀ (a b : Option State), (a.orElse fun _ => b).isNone = (a.isNone && b.isNone) := by
    intro a b; cases a <;> rfl
  unfold State.nextClaim
  rw [hb]
  split
  · rfl
  · rw [h, h, h, h, h1, h2, h3]

/-! ### Grants -/

/-- A grant keeps the inner state when no host access waits. -/
structure GrantKeeps (s t : State) : Prop where
  inner : t.inner = s.inner
  slots : t.slots = s.slots
  events : t.events = s.events
  mesh : t.mesh = s.mesh
  buffer : t.path.buffer = s.path.buffer
  port : s.path.port = none ∧ t.path.port.isSome = true

theorem State.hostClaims_none (s : State) (h : s.path.host = none) : s.hostClaims = none := by
  unfold State.hostClaims; rw [h]

/-- The part of the path that neither a claim nor a grant without a waiting host changes. -/
def PathUnit.outerRest (p : PathUnit) := (p.region, p.host, p.reply, p.refusals, p.lastRefused, p.holds)

theorem State.nextGrant_keeps (s t : State) (hh : s.path.host = none) (h : s.nextGrant = some t) :
    GrantKeeps s t ∧ t.path.outerRest = s.path.outerRest := by
  unfold State.nextGrant at h
  rw [s.hostClaims_none hh] at h
  split at h
  · cases h
  · next hp =>
    dsimp only at h
    split at h
    · cases h; exact ⟨⟨rfl, rfl, rfl, rfl, rfl, hp, rfl⟩, rfl⟩
    · split at h
      · cases h
      · cases h; exact ⟨⟨rfl, rfl, rfl, rfl, rfl, hp, rfl⟩, rfl⟩

/-! ### Settling -/

theorem State.settleFor_still (s : State) (n : Nat) (h : s.nextAction = none) : s.settleFor n = s := by
  cases n with
  | zero => rfl
  | succ n => unfold State.settleFor; rw [h]

/-- A quiet state is settled. -/
theorem State.settle_still (s : State) (h : s.nextAction = none) : s.settle = s := s.settleFor_still 24 h

/-- While RESET holds the part nothing settles. -/
theorem State.settle_held (s : State) (h : s.hold ≠ .running) : s.settle = s :=
  s.settle_still (by unfold State.nextAction; rw [if_pos h])

/-- No host access can be granted: none waits, or the port is busy. -/
def State.HostQuiet (s : State) : Prop := s.path.host = none ∨ s.path.port.isSome = true

theorem State.nextAction_cases (s t : State) (h : s.nextAction = some t) :
    s.nextClaim = some t ∨ s.nextClaim = none ∧ s.nextGrant = some t := by
  unfold State.nextAction at h
  split at h
  · cases h
  · exact Option.orElse_some _ _ _ h

/-- What settling keeps when no host access can be granted. -/
structure SettleKeeps (s t : State) : Prop where
  inner : t.inner = s.inner
  idx : t.events.idx = s.events.idx
  rest : t.path.outerRest = s.path.outerRest

theorem SettleKeeps.refl (s : State) : SettleKeeps s s := ⟨rfl, rfl, rfl⟩

theorem SettleKeeps.trans {s t u : State} (a : SettleKeeps s t) (b : SettleKeeps t u) : SettleKeeps s u :=
  ⟨b.inner.trans a.inner, b.idx.trans a.idx, b.rest.trans a.rest⟩

theorem PathUnit.outerRest_of_rest (p q : PathUnit) (h : p.rest = q.rest) : p.outerRest = q.outerRest := by
  have : ∀ r : PathUnit, r.outerRest = r.rest.outerRest := fun _ => rfl
  rw [this p, this q, h]

theorem State.nextAction_keeps (s t : State) (hh : s.HostQuiet) (h : s.nextAction = some t) :
    SettleKeeps s t ∧ t.HostQuiet := by
  rcases s.nextAction_cases t h with h | ⟨_, h⟩
  · have k := s.nextClaim_keeps t h
    have hr := PathUnit.outerRest_of_rest _ _ k.rest
    refine ⟨⟨k.inner, k.idx, hr⟩, ?_⟩
    rcases hh with hh | hh
    · exact Or.inl (by have := congrArg (fun x => x.2.1) hr; simpa [PathUnit.outerRest, hh] using this)
    · exact Or.inr (by rw [k.port]; exact hh)
  · rcases hh with hh | hh
    · obtain ⟨k, hr⟩ := s.nextGrant_keeps t hh h
      exact ⟨⟨k.inner, by rw [k.events], hr⟩, Or.inr k.port.2⟩
    · unfold State.nextGrant at h
      obtain ⟨c, hc⟩ := Option.isSome_iff_exists.mp hh
      rw [hc] at h
      cases h

theorem State.settleFor_keeps (s : State) (n : Nat) (h : s.HostQuiet) : SettleKeeps s (s.settleFor n) := by
  induction n generalizing s with
  | zero => exact SettleKeeps.refl s
  | succ n ih =>
    unfold State.settleFor
    split
    · exact SettleKeeps.refl s
    · next t ht =>
      obtain ⟨k, hq⟩ := s.nextAction_keeps t h ht
      exact k.trans (ih t hq)

/-- The one law of `settle`: with no host access to grant, it keeps everything but the buffer, the port, the streak, the slots'
own records and the progress of what is being queued. -/
theorem State.settle_keeps (s : State) (h : s.HostQuiet) : SettleKeeps s s.settle := s.settleFor_keeps 24 h

/-! ### Slots while settling -/

theorem State.slotClaim_none_of_queue (s : State) (h : s.slots.queue = []) : s.slotClaim = none := by
  unfold State.slotClaim; rw [h]

theorem State.nextAction_slots (s t : State) (hh : s.HostQuiet) (hs : s.slotClaim = none) (h : s.nextAction = some t) :
    t.slots = s.slots := by
  rcases s.nextAction_cases t h with h | ⟨_, h⟩
  · rcases s.nextClaim_cases t h with h | ⟨_, h | h⟩
    · rw [hs] at h; cases h
    · exact s.eventClaim_slots t h
    · exact s.meshClaim_slots t h
  · rcases hh with hh | hh
    · exact (s.nextGrant_keeps t hh h).1.slots
    · unfold State.nextGrant at h
      obtain ⟨c, hc⟩ := Option.isSome_iff_exists.mp hh
      rw [hc] at h
      cases h

theorem State.slotClaim_none_congr (s t : State) (h : t.slots = s.slots) (hs : s.slotClaim = none) : t.slotClaim = none := by
  have hv : ∀ k, t.view k = s.view k := fun k => by simp [State.view, h]
  unfold State.slotClaim at hs ⊢
  rw [h]
  split
  · rfl
  · next c rest hq =>
    rw [hq] at hs
    dsimp only at hs ⊢
    split
    · next hlt => rw [if_pos hlt] at hs; cases hs
    · next hlt =>
      rw [if_neg hlt] at hs
      split
      · next hi =>
        rw [if_pos hi] at hs
        rw [hv]
        split
        · next hw => rw [hw] at hs; cases hs
        · rfl
      · rfl

/-- With no completion to write, settling leaves the slots alone. -/
theorem State.settleFor_slots (s : State) (n : Nat) (hh : s.HostQuiet) (hs : s.slotClaim = none) :
    (s.settleFor n).slots = s.slots := by
  induction n generalizing s with
  | zero => rfl
  | succ n ih =>
    unfold State.settleFor
    split
    · rfl
    · next t ht =>
      have h1 := s.nextAction_slots t hh hs ht
      rw [ih t (s.nextAction_keeps t hh ht).2 (s.slotClaim_none_congr t h1 hs), h1]

theorem State.settle_slots (s : State) (hh : s.HostQuiet) (hq : s.slots.queue = []) : s.settle.slots = s.slots :=
  s.settleFor_slots 24 hh (s.slotClaim_none_of_queue hq)

end Sys2Proof.Machine
end

