-- ==== Sys2Proof/Laws/Ready.lean ====
section
/-! SUPPORT. Settling ends quiet; and what a ready state does with the access that hands a request over: the one lemma through
which every request row is read. -/

namespace Sys2Proof.Machine

/-! ### Settling ends quiet -/

/-- How many claims and grants a state can still make: room in the buffer, and grants of a free port. -/
def State.actionsLeft (s : State) : Nat :=
  (Config.bufferSize - s.path.buffer.length)
    + (if s.path.port.isSome then 0 else if s.path.host.isSome then 2 else 1)

/-- What a grant of a waiting host access leaves of the path: the buffer as before, and either a busy port or no access. -/
theorem State.grantHost_path (s : State) (x : HostAccess) (_hp : s.path.port = none) :
    (s.grantHost x).path.buffer = s.path.buffer
      ∧ ((s.grantHost x).path.port.isSome = true ∨ (s.grantHost x).path.host = none) := by
  have path_of_outer (u v : State) (h : u.outer = v.outer) : u.path = v.path := by
    simp only [State.outer, Prod.mk.injEq] at h; exact h.2.2.2.2.2.2.1
  cases x with
  | read addr =>
    simp only [State.grantHost]
    split
    · exact ⟨rfl, Or.inr rfl⟩
    · exact ⟨rfl, Or.inl rfl⟩
  | write addr data be =>
    simp only [State.grantHost]
    split
    · exact ⟨rfl, Or.inl rfl⟩
    · next o _ =>
      split
      · have h : (s.refuseWrite o data be).path = { s.answerWrite.path with
            refusals := satSucc s.answerWrite.path.refusals, lastRefused := o } := by
          unfold State.refuseWrite
          exact path_of_outer _ _ (State.raiseCode_outer _ _ _ _)
        rw [h]; exact ⟨rfl, Or.inr rfl⟩
      · next act _ =>
        have h : ((s.beginCycle (.hostWrite addr data be act false)).tellWrite o data be).path =
            (s.beginCycle (.hostWrite addr data be act false)).path := by
          unfold State.tellWrite
          split
          · exact path_of_outer _ _ (State.consumerWrite_outer _ _ _)
          · split
            · exact path_of_outer _ _ (State.heartbeatWrite_outer _)
            · rfl
        rw [h]; exact ⟨rfl, Or.inl rfl⟩

/-- Each claim and each grant uses up one of the actions left. -/
theorem State.nextAction_lt (s t : State) (h : s.nextAction = some t) : t.actionsLeft < s.actionsLeft := by
  rcases s.nextAction_cases t h with h | ⟨_, h⟩
  · have k := s.nextClaim_keeps t h
    have room := s.nextClaim_room t h
    have hh : t.path.host = s.path.host := by
      have h := congrArg PathUnit.host k.rest
      exact h
    simp only [State.actionsLeft, k.port, hh, k.longer]
    omega
  · unfold State.nextGrant at h
    split at h
    · cases h
    · next hp =>
      dsimp only at h
      have le1 : ∀ u : State, (if u.path.host.isSome then 2 else 1 : Nat) ≥ 1 := by intro u; split <;> omega
      have busy : ∀ u : State, u.path.buffer = s.path.buffer → u.path.port.isSome = true → u.actionsLeft < s.actionsLeft := by
        intro u hb hu
        have := le1 s
        simp only [State.actionsLeft, hb, hu, hp]
        simp only [Option.isSome_none, Bool.false_eq_true, if_false, if_true]
        omega
      have host : ∀ (u : State) (x : HostAccess), u.path.buffer = s.path.buffer → s.path.host = some x →
          (u.path.port.isSome = true ∨ u.path.host = none) → u.actionsLeft < s.actionsLeft := by
        intro u x hb hs hu
        rcases hu with hu | hu
        · exact busy u hb hu
        · simp only [State.actionsLeft, hb, hp, hs, hu]
          simp only [Option.isSome_none, Option.isSome_some, Bool.false_eq_true, if_false, if_true]
          split <;> omega
      split at h
      · cases h; exact busy _ rfl rfl
      · split at h
        · split at h
          · cases h
          · cases h; exact busy _ rfl rfl
        · next x hx =>
          have hs : ∃ y, s.path.host = some y := by
            cases hq : s.path.host with
            | none => unfold State.hostClaims at hx; rw [hq] at hx; cases hx
            | some y => exact ⟨y, rfl⟩
          obtain ⟨y, hy⟩ := hs
          split at h
          · cases h
            have g := State.grantHost_path { s with path := { s.path with streak := 0 } } x hp
            exact host _ y g.1 hy g.2
          · split at h
            · cases h
              have g := State.grantHost_path { s with path := { s.path with streak := s.path.streak + 1 } } x hp
              exact host _ y g.1 hy g.2
            · cases h; exact busy _ rfl rfl

theorem State.settleFor_ends (s : State) (n : Nat) (h : s.actionsLeft ≤ n) : (s.settleFor n).nextAction = none := by
  induction n generalizing s with
  | zero =>
    cases ha : s.nextAction with
    | none => exact ha
    | some t => exact absurd (s.nextAction_lt t ha) (by omega)
  | succ n ih =>
    unfold State.settleFor
    split
    · next ha => exact ha
    · next t ha => exact ih t (by have := s.nextAction_lt t ha; omega)

/-- Settling ends quiet. -/
theorem State.settle_ends (s : State) : s.settle.nextAction = none := by
  refine s.settleFor_ends 24 ?_
  simp only [State.actionsLeft, Config.bufferSize]
  split <;> (try split) <;> omega

/-! ### Quiet and ready states -/

/-- In a quiet state no host access can be granted, so `settle_keeps` applies to whatever only adds claims to it. -/
theorem State.Quiet.hostQuiet {s : State} (h : s.Quiet) : s.HostQuiet := by
  cases hp : s.path.port with
  | some c => exact Or.inr (by rw [hp]; rfl)
  | none =>
    left
    have hn : s.nextAction = none := by simpa using h.still
    unfold State.nextAction at hn
    rw [if_neg (by simp [h.running])] at hn
    have hg : s.nextGrant = none := by
      cases hc : s.nextClaim with
      | none => rw [hc] at hn; exact hn
      | some t => rw [hc] at hn; cases hn
    unfold State.nextGrant at hg
    rw [hp] at hg
    dsimp only at hg
    cases hs : s.path.selPending with
    | true => rw [hs] at hg; cases hg
    | false =>
      rw [hs] at hg
      simp only [Bool.false_eq_true, if_false] at hg
      cases hx : s.hostClaims with
      | some x => rw [hx] at hg; simp only at hg; split at hg; · cases hg
                  · split at hg <;> cases hg
      | none =>
        rw [hx] at hg
        simp only at hg
        split at hg
        · next hb =>
          unfold State.hostClaims at hx
          cases hh : s.path.host with
          | none => rfl
          | some y =>
            rw [hh] at hx
            cases y with
            | read a => cases hx
            | write a d e =>
              have hy : (s.offsetOf a).bind s.youngest = none := by
                cases s.offsetOf a with
                | none => rfl
                | some o => simp [State.youngest, hb]
              simp only [hy] at hx
              cases hx
        · cases hg

/-- A quiet state has no claim to make, or no room for it; and no grant. -/
theorem State.Quiet.noAction {s : State} (h : s.Quiet) : s.nextClaim = none ∧ s.nextGrant = none := by
  have hn : s.nextAction = none := by simpa using h.still
  unfold State.nextAction at hn
  rw [if_neg (by simp [h.running])] at hn
  cases hc : s.nextClaim with
  | none => rw [hc] at hn; exact ⟨rfl, hn⟩
  | some t => rw [hc] at hn; cases hn

/-- With room in the buffer a quiet state's producers want nothing. -/
theorem State.Quiet.noClaims {s : State} (h : s.Quiet) (hb : s.path.buffer = []) :
    s.slotClaim = none ∧ s.eventClaim = none ∧ s.meshClaim = none := by
  have hc := h.noAction.1
  unfold State.nextClaim at hc
  rw [hb, if_neg (by decide)] at hc
  cases h1 : s.slotClaim with
  | some t => rw [h1] at hc; cases hc
  | none =>
    cases h2 : s.eventClaim with
    | some t => rw [h1, h2] at hc; cases hc
    | none =>
      cases h3 : s.meshClaim with
      | some t => rw [h1, h2, h3] at hc; cases hc
      | none => exact ⟨rfl, rfl, rfl⟩

theorem State.Ready.selPending {s : State} (h : s.Ready) : s.path.selPending = false := by
  have hg := h.toQuiet.noAction.2
  unfold State.nextGrant at hg
  rw [h.port] at hg
  cases hs : s.path.selPending with
  | false => rfl
  | true => rw [hs] at hg; cases hg

/-- A change that reaches no producer and no part of the arbiter's choice leaves a state as quiet as it was. -/
theorem State.nextAction_none_congr (s t : State) (hh : t.hold = s.hold) (hp : t.path.port = s.path.port)
    (hsel : t.path.selPending = s.path.selPending) (hst : t.path.host = s.path.host) (hb : t.path.buffer = s.path.buffer)
    (hr : t.path.region = s.path.region) (hk : t.path.streak = s.path.streak)
    (hs : t.slots = s.slots) (he : t.events = s.events) (hm : t.mesh = s.mesh) (h : s.nextAction = none) :
    t.nextAction = none := by
  have hy : ∀ o, t.youngest o = s.youngest o := fun o => by simp [State.youngest, hb]
  have ho : ∀ a, t.offsetOf a = s.offsetOf a := fun a => by simp [State.offsetOf, hr]
  have hf : t.youngest = s.youngest := funext hy
  have hx : t.hostClaims = s.hostClaims := by
    unfold State.hostClaims
    rw [hst]
    split
    · rfl
    · rfl
    · next a d e _ => rw [ho a, hf]
  unfold State.nextAction at h ⊢
  rw [hh]
  split at h
  · next hn => rw [if_pos hn]
  · next hn =>
    rw [if_neg hn]
    cases hc : s.nextClaim with
    | some u => rw [hc] at h; cases h
    | none =>
      rw [hc] at h
      have ht : t.nextClaim = none := by
        have := State.nextClaim_isNone_congr s t (by rw [hb]) hs he hm
        rw [hc] at this
        simpa using this
      rw [ht]
      have h' : s.nextGrant = none := h
      have : t.nextGrant = none := by
        unfold State.nextGrant at h' ⊢
        rw [hp, hsel, hx, hb, hk]
        split
        · rfl
        · next hpn =>
          rw [hpn] at h'
          dsimp only at h' ⊢
          split
          · next q => rw [if_pos q] at h'; cases h'
          · next q =>
            rw [if_neg q] at h'
            split
            · next q2 =>
              rw [q2] at h'
              simp only at h'
              split
              · rfl
              · next q3 => simp at h'; exact absurd h' q3
            · next x q2 =>
              rw [q2] at h'
              simp only at h'
              split
              · next q3 => rw [if_pos q3] at h'; cases h'
              · next q3 =>
                rw [if_neg q3] at h'
                split
                · next q4 => rw [if_pos q4] at h'; cases h'
                · next q4 => rw [if_neg q4] at h'; simp at h'; exact absurd h' q3
      exact this

/-! ### Handing a slot over -/

/-- A ready state after memory has answered the header write of a post: the header in memory and in the shadow. -/
def State.handed (s : State) (kind : BitVec 6) (p : Post) : State :=
  State.setShadow
    { s with
      mem := Memory.writeWord s.mem (s.headerBase p.slot) (postHeader kind p) 0xF
      path := { s.path with reply := some .writeDone, streak := 0 } } p.slot 0 (postHeader kind p)

/-- The header write is granted at once as a post. -/
theorem State.postAccess_ready (s : State) (kind : BitVec 6) (p : Post) (h : s.Ready) (hv : s.view p.slot = .host) :
    s.hostAccess (s.postAccess kind p) =
      { s with
        path := { s.path with
          host := some (s.postAccess kind p)
          port := some
            { kind := .hostWrite (s.addrOf (slotOffset p.slot 0)) (postHeader kind p) 0xF .post false
              left := Config.memoryTimeoutUs }
          streak := 0 } } := by
  have hlt := slotOffset_lt p.slot 0
  have hl : slotOffset p.slot (0 : Fin 16).val = slotOffset p.slot 0 := rfl
  rw [hl] at hlt
  have ho : s.offsetOf (s.addrOf (slotOffset p.slot 0)) = some (slotOffset p.slot 0) := s.offsetOf_addrOf _ (by omega)
  have hlive : isLive (slotOffset p.slot 0) = false := by simp only [isLive, Bool.and_eq_false_iff, decide_eq_false_iff_not]; left; omega
  have hcl : s.classifyWrite (slotOffset p.slot 0) (postHeader kind p) 0xF = some .post := by
    have hm : slotOffset p.slot 0 % 16 = 0 := by simp only [slotOffset]; omega
    simp only [State.classifyWrite, if_pos hlt, State.slotClass, State.mergedWord, mergeWord_all]
    simp [hv, hm]
  have hne1 : slotOffset p.slot 0 ≠ 0x101 := by omega
  have hne2 : slotOffset p.slot 0 ≠ 0x102 := by omega
  -- the state with the access at the port
  let s1 : State := { s with path := { s.path with host := some (s.postAccess kind p) } }
  have ha : State.arrive s1 = s1 := by
    have ho1 : s1.offsetOf (s.addrOf (slotOffset p.slot 0)) = some (slotOffset p.slot 0) := ho
    unfold State.arrive
    rw [if_neg (by simp [s1, h.running])]
    simp only [s1, State.postAccess]
    show (match State.offsetOf s1 (s.addrOf (slotOffset p.slot 0)) with | none => s1 | some o => _) = s1
    rw [ho1]
    simp only [hlive, Bool.false_eq_true, if_false]
    rfl
  have hcall : s.hostAccess (s.postAccess kind p) = s1.settle := by
    unfold State.hostAccess
    rw [h.host]
    show (State.arrive s1).settle = s1.settle
    rw [ha]
  rw [hcall]
  -- one grant
  have hclaim : s1.nextClaim = none := by
    have := State.nextClaim_isNone_congr s s1 rfl rfl rfl rfl
    rw [h.toQuiet.noAction.1] at this
    simpa using this
  let s2 : State := { s with
        path := { s.path with
          host := some (s.postAccess kind p)
          port := some
            { kind := .hostWrite (s.addrOf (slotOffset p.slot 0)) (postHeader kind p) 0xF .post false
              left := Config.memoryTimeoutUs }
          streak := 0 } }
  have hgrant : s1.nextGrant = some s2 := by
    have ho1 : s1.offsetOf (s.addrOf (slotOffset p.slot 0)) = some (slotOffset p.slot 0) := ho
    have hy : ∀ o, s1.youngest o = none := fun o => by simp [State.youngest, s1, h.buffer]
    have hx : s1.hostClaims = some (s.postAccess kind p) := by
      unfold State.hostClaims
      simp only [s1, State.postAccess]
      show (match (State.offsetOf s1 (s.addrOf (slotOffset p.slot 0))).bind (State.youngest s1) with | some _ => none | none => _) = _
      rw [ho1]
      simp [hy]
    unfold State.nextGrant
    have hp1 : s1.path.port = none := h.port
    have hs1 : s1.path.selPending = false := h.selPending
    have hb1 : s1.path.buffer = [] := h.buffer
    rw [hp1]
    simp only [hs1, Bool.false_eq_true, if_false, hx, hb1, if_true]
    simp only [State.postAccess, State.grantHost]
    have hof : ∀ u : State, u.path.region = s.path.region →
        u.offsetOf (s.addrOf (slotOffset p.slot 0)) = some (slotOffset p.slot 0) := by
      intro u hu; rw [← ho]; simp [State.offsetOf, hu]
    rw [hof]; rotate_left
    · rfl
    have hc1 : ∀ u : State, u.slots = s.slots →
        u.classifyWrite (slotOffset p.slot 0) (postHeader kind p) 0xF = some .post := by
      intro u hu
      rw [← hcl]
      unfold State.classifyWrite State.slotClass State.mergedWord State.shadowWord State.view
      rw [hu]
    simp only
    rw [hc1]; rotate_left
    · rfl
    simp only [State.tellWrite, if_neg hne1, if_neg hne2]
    show some _ = some s2
    simp only [s2, s1, State.beginCycle, State.postAccess, h.buffer, h.selPending]
  have hstill : s2.nextAction = none := by
    have hc2 : s2.nextClaim = none := by
      have := State.nextClaim_isNone_congr s s2 rfl rfl rfl rfl
      rw [h.toQuiet.noAction.1] at this
      simpa using this
    unfold State.nextAction
    split
    · rfl
    · rw [hc2]; rfl
  have hact : s1.nextAction = some s2 := by
    unfold State.nextAction
    rw [if_neg (by simp [s1, h.running]), hclaim]
    exact hgrant
  show s1.settleFor 24 = s2
  unfold State.settleFor
  rw [hact]
  exact s2.settleFor_still 23 hstill

/-- A request row out of a ready state, for a slot that is the host's: the slot is handed over and the post is taken. -/
theorem State.postRow_ready (s : State) (kind : BitVec 6) (p : Post) (h : s.Ready) (hv : s.view p.slot = .host) :
    s.postRow kind p false = ((s.handed kind p).takePost p.slot).settle := by
  have hlt := slotOffset_lt p.slot 0
  have hl : slotOffset p.slot (0 : Fin 16).val = slotOffset p.slot 0 := rfl
  rw [hl] at hlt
  have ho : s.offsetOf (s.addrOf (slotOffset p.slot 0)) = some (slotOffset p.slot 0) := s.offsetOf_addrOf _ (by omega)
  have hof : ∀ u : State, u.path.region = s.path.region →
      u.offsetOf (s.addrOf (slotOffset p.slot 0)) = some (slotOffset p.slot 0) := by
    intro u hu; rw [← ho]; simp [State.offsetOf, hu]
  have h0 : s.headerOnPort p.slot kind false = false := by unfold State.headerOnPort; rw [h.port]
  unfold State.postRow
  rw [h0, s.postAccess_ready kind p h hv]
  simp only [Bool.false_eq_true, if_false]
  rw [if_pos]
  · unfold State.answerCycle
    simp only [State.freePort, State.answerKind, State.endHostWrite]
    rw [hof]; rotate_left
    · rfl
    simp only [if_pos hlt, State.slotWriteEnd, State.mergedWord, mergeWord_all, Bool.false_eq_true, if_false]
    rw [slotOfOffset_slotOffset p.slot 0 (by decide), wordOfOffset_slotOffset p.slot 0 (by decide)]
    have : s.path.host = none := h.host
    have hp : s.path.port = none := h.port
    congr 2
    simp only [State.handed, State.setShadow, State.answerWrite, State.headerBase]
    congr 1
    rw [show s.path = { s.path with port := none, host := none } from by rw [← h.port, ← h.host]]
  · refine ⟨h.host, ?_⟩
    unfold State.headerOnPort
    simp only
    rw [hof]; rotate_left
    · rfl
    simp only [State.mergedWord, mergeWord_all]
    simp

end Sys2Proof.Machine
end

