-- ==== Sys2Proof/Laws/Ring.lean ====
section
/-! SUPPORT. The event writer said once: claims and grants change nothing of what it has on its way to memory, and an event that
finds room adds one record at its end. -/

namespace Sys2Proof.Machine

/-- Of the head record at most four words are queued, and without a record none is. -/
def EventWriter.FedOk (e : EventWriter) : Prop := e.fed ≤ 4 ∧ (e.out = [] → e.fed = 0)

theorem State.RingInv.fedOk {s : State} (h : s.RingInv) : s.events.FedOk := h.2.2.2.2.2

/-- A claim of another producer, and a grant, leave the event writer and its entries alone. -/
structure RingKeeps (s t : State) : Prop where
  events : t.events = s.events
  mine : t.path.buffer.filter Entry.ofWriter = s.path.buffer.filter Entry.ofWriter

theorem RingKeeps.traffic {s t : State} (h : RingKeeps s t) : t.ringTraffic = s.ringTraffic := by
  unfold State.ringTraffic
  rw [h.events, h.mine]

theorem State.queueSlotWord_ring (s : State) (k : SlotId) (w : Nat) (d : Word) (p : Producer)
    (h : ∀ x : Entry, x.producer = p → x.ofWriter = false) : RingKeeps s (s.queueSlotWord k w d p) := by
  unfold State.queueSlotWord
  refine ⟨(State.supersede_events _ _).trans rfl, ?_⟩
  rw [State.supersede_buffer]
  simp [State.queueEntry, State.setShadow, List.filter_append, h]

theorem State.slotClaim_ring (s t : State) (h : s.slotClaim = some t) : RingKeeps s t := by
  unfold State.slotClaim at h
  split at h
  · cases h
  · next c rest hq =>
    dsimp only at h
    split at h
    · cases h
      obtain ⟨a, b⟩ := s.queueSlotWord_ring c.slot (s.slots.writer.queued + 1) (c.body.getD s.slots.writer.queued 0) .slotBody
        (fun x hx => by simp [Entry.ofWriter, hx])
      exact ⟨a, b⟩
    · split at h
      · split at h
        · next kind tag _ _ hv =>
          cases h
          obtain ⟨a, b⟩ := s.queueSlotWord_ring c.slot 0 (completionHeader kind tag c.body.length c.result) .slotHeader
            (fun x hx => by simp [Entry.ofWriter, hx])
          exact ⟨a, b⟩
        · cases h
      · cases h

theorem State.meshClaim_ring (s t : State) (h : s.meshClaim = some t) : RingKeeps s t := by
  unfold State.meshClaim at h
  split at h
  · cases h
  · dsimp only at h
    split at h
    · split at h
      · cases h; exact ⟨rfl, by simp [State.queueEntry, List.filter_append, Entry.ofWriter]⟩
      · split at h
        · cases h; exact ⟨rfl, by simp [State.queueEntry, List.filter_append, Entry.ofWriter]⟩
        · cases h
    · split at h
      · cases h; exact ⟨rfl, by simp [State.queueEntry, List.filter_append, Entry.ofWriter]⟩
      · cases h
    · cases h
    · cases h

/-- A claim of the event writer takes the head of what is on its way into the buffer (R176, R179). -/
theorem State.eventClaim_ring (s t : State) (ok : s.events.FedOk) (h : s.eventClaim = some t) :
    t.ringTraffic = s.ringTraffic ∧ t.events.FedOk := by
  have own : ∀ (o : Nat) (d : Word) (b : Bool),
      [({ offset := o, data := d, producer := .eventWriter b } : Entry)].filter Entry.ofWriter
        = [{ offset := o, data := d, producer := .eventWriter b }] := fun _ _ _ => rfl
  unfold State.eventClaim at h
  dsimp only at h
  split at h
  · next hz =>
    cases h
    exact ⟨by simp [State.ringTraffic, State.queueEntry, List.filter_append, own, hz], ok⟩
  · next hz =>
    split at h
    · cases h
    · next r rest hr =>
      have four : s.events.fed ≤ 4 := ok.1
      split at h
      · next hf =>
        cases h
        refine ⟨?_, ⟨hf, by simp [hr]⟩⟩
        have hcases : s.events.fed = 0 ∨ s.events.fed = 1 ∨ s.events.fed = 2 ∨ s.events.fed = 3 := by omega
        rcases hcases with hc | hc | hc | hc <;>
          simp [State.ringTraffic, State.queueEntry, List.filter_append, own, hz, hr, hc, Record.entries, Record.word]
      · next hf =>
        cases h
        have hc : s.events.fed = 4 := by omega
        exact ⟨by simp [State.ringTraffic, State.queueEntry, List.filter_append, own, hz, hr, hc, Record.entries],
          ⟨by simp, by simp⟩⟩

theorem State.nextAction_ring (s t : State) (hh : s.HostQuiet) (ok : s.events.FedOk) (h : s.nextAction = some t) :
    t.ringTraffic = s.ringTraffic ∧ t.events.FedOk := by
  have keep : ∀ u, RingKeeps s u → u.ringTraffic = s.ringTraffic ∧ u.events.FedOk :=
    fun u k => ⟨k.traffic, by rw [k.events]; exact ok⟩
  rcases s.nextAction_cases t h with h | ⟨_, h⟩
  · rcases s.nextClaim_cases t h with h | ⟨_, h | h⟩
    · exact keep t (s.slotClaim_ring t h)
    · exact s.eventClaim_ring t ok h
    · exact keep t (s.meshClaim_ring t h)
  · rcases hh with hh | hh
    · have g := (s.nextGrant_keeps t hh h).1
      exact keep t ⟨g.events, by rw [g.buffer]⟩
    · unfold State.nextGrant at h
      obtain ⟨c, hc⟩ := Option.isSome_iff_exists.mp hh
      rw [hc] at h
      cases h

theorem State.settleFor_ring (s : State) (n : Nat) (hh : s.HostQuiet) (ok : s.events.FedOk) :
    (s.settleFor n).ringTraffic = s.ringTraffic ∧ (s.settleFor n).events.FedOk := by
  induction n generalizing s with
  | zero => exact ⟨rfl, ok⟩
  | succ n ih =>
    unfold State.settleFor
    split
    · exact ⟨rfl, ok⟩
    · next t ht =>
      have a := s.nextAction_ring t hh ok ht
      have b := ih t (s.nextAction_keeps t hh ht).2 a.2
      exact ⟨b.1.trans a.1, b.2⟩

/-- With no host access to grant, settling changes nothing of what the event writer has on its way to memory. -/
theorem State.settle_ring (s : State) (hh : s.HostQuiet) (ok : s.events.FedOk) :
    s.settle.ringTraffic = s.ringTraffic ∧ s.settle.events.FedOk := s.settleFor_ring 24 hh ok

/-- An event that finds room and no overrun to report is placed: one record more at the end of what is on its way (R175). -/
theorem State.raiseCode_raisesAt (s : State) (code : Half) (va vb : Word) (run : s.hold = .running) (room : s.RingOpen)
    (ok : s.events.FedOk) : s.RaisesAt (s.raiseCode code va vb) s.clock.uptime code va vb := by
  have e : s.raiseCode code va vb = s.placeRecord code va vb := by
    unfold State.raiseCode
    rw [if_neg (by simp [run]), if_neg (Nat.not_le.mpr room.1), if_neg (by simp [room.2])]
  rw [e]
  refine ⟨?_, rfl, rfl⟩
  have hd : ∀ l : List Entry, ((s.events.out.flatMap Record.entries) ++ l).drop s.events.fed
      = (s.events.out.flatMap Record.entries).drop s.events.fed ++ l := by
    intro l
    refine List.drop_append_of_le_length ?_
    rcases hl : s.events.out with _ | ⟨r, rest⟩
    · rw [ok.2 hl]; exact Nat.zero_le _
    · have : s.events.fed ≤ 4 := ok.1
      simp [Record.entries]; omega
  simp [State.ringTraffic, State.placeRecord, List.flatMap_append, hd, List.append_assoc]
  rfl

end Sys2Proof.Machine
end

