-- ==== Sys2Proof/Laws/Slots.lean ====
section
/-! SUPPORT. Holders of slots: what the operations on a view do to them, and when the invariant of slots and owners carries over. -/

namespace Sys2Proof.Machine

/-! ### Holders -/

/-- A slot has one holder. -/
theorem State.HeldBy.unique {s : State} {k : SlotId} {h g : Holder} (x : s.HeldBy k h) (y : s.HeldBy k g) : h = g := by
  obtain ⟨_, _, _, e⟩ := x
  obtain ⟨_, _, _, f⟩ := y
  rw [e] at f
  cases f
  rfl

/-- A held slot is not the host's. -/
theorem State.HeldBy.notHost {s : State} {k : SlotId} {h : Holder} (x : s.HeldBy k h) : s.view k ≠ .host := by
  obtain ⟨_, _, _, e⟩ := x
  rw [e]
  exact fun f => by cases f

/-- Holders depend on the views alone. -/
theorem State.HeldBy.of_view {s t : State} {k : SlotId} {h : Holder} (e : t.view k = s.view k) (x : s.HeldBy k h) :
    t.HeldBy k h := by
  obtain ⟨kind, tag, taken, f⟩ := x
  exact ⟨kind, tag, taken, e.trans f⟩

theorem State.heldBy_setView_self (s : State) (k : SlotId) (kind : BitVec 6) (tag : BitVec 8) (taken : Bool) (h : Holder) :
    (s.setView k (.part kind tag taken h)).HeldBy k h := ⟨kind, tag, taken, s.view_setView_self k _⟩

theorem State.heldBy_setView_other {s : State} {k j : SlotId} {v : SlotView} {h : Holder} (d : j ≠ k) (x : s.HeldBy j h) :
    (s.setView k v).HeldBy j h := x.of_view (s.view_setView_other k j v d)

/-- A change of holder reaches the one slot and keeps its kind, tag and taken flag. -/
theorem State.view_setHolder_self {s : State} {k : SlotId} {kind : BitVec 6} {tag : BitVec 8} {taken : Bool} {g : Holder}
    (h : Holder) (e : s.view k = .part kind tag taken g) : (s.setHolder k h).view k = .part kind tag taken h := by
  unfold State.setHolder
  rw [e]
  exact s.view_setView_self k _

theorem State.view_setHolder_other (s : State) (k j : SlotId) (h : Holder) (d : j ≠ k) : (s.setHolder k h).view j = s.view j := by
  unfold State.setHolder
  split
  · rfl
  · exact s.view_setView_other k j _ d

/-- An ended request's slot is held as COMPLETING; the other slots are as before. -/
theorem State.heldBy_complete_self {s : State} {k : SlotId} {g : Holder} (r : Result) (body : List Word) (x : s.HeldBy k g) :
    (s.complete k r body).HeldBy k .completing := by
  obtain ⟨kind, tag, taken, e⟩ := x
  exact ⟨kind, tag, taken, s.view_setHolder_self .completing e⟩

theorem State.view_complete_other (s : State) (k j : SlotId) (r : Result) (body : List Word) (d : j ≠ k) :
    (s.complete k r body).view j = s.view j := s.view_setHolder_other k j .completing d

/-! ### The invariant of slots and owners -/

/-- What the invariant reads of a state: while all this stays, and no owner is added to a running move, it carries over. -/
theorem State.SlotInv.of_same {s t : State} (inv : s.SlotInv) (slots : t.slots = s.slots)
    (axes : ∀ a, (t.axis a).queue = (s.axis a).queue ∧ (t.axis a).stopWait = (s.axis a).stopWait
      ∧ ∀ m k, (t.axis a).move = some m → m.owner = some k → ∃ n, (s.axis a).move = some n ∧ n.owner = some k)
    (ref : ∀ k, t.placement.ref = some k → s.placement.ref = some k) (waiting : t.mesh.waiting = s.mesh.waiting)
    (power : ∀ k, t.power.ref = some k → s.power.ref = some k)
    (port : ∀ addr data be superseded left o,
      t.path.port = some { kind := .hostWrite addr data be .post superseded, left := left } → t.offsetOf addr = some o →
      o < 0x80 → t.view (slotOfOffset o) = .host) : t.SlotInv := by
  have held : ∀ {k h}, s.HeldBy k h → t.HeldBy k h := fun {k h} => State.HeldBy.of_view (by unfold State.view; rw [slots])
  refine
    { ended := fun c m => held (inv.ended c (slots ▸ m))
      endedOnce := slots ▸ inv.endedOnce
      queued := fun a q m => held (inv.queued a q ((axes a).1 ▸ m))
      queuedOnce := fun a => (axes a).1 ▸ inv.queuedOnce a
      running := fun a m k e o => ?_
      stopping := fun a k m => held (inv.stopping a k ((axes a).2.1 ▸ m))
      stoppingOnce := fun a => (axes a).2.1 ▸ inv.stoppingOnce a
      placed := fun k e => held (inv.placed k (ref k e))
      awaiting := fun w m => held (inv.awaiting w (waiting ▸ m))
      awaitingOnce := waiting ▸ inv.awaitingOnce
      cooling := fun k e => held (inv.cooling k (power k e))
      posting := port
      atStart := slots ▸ inv.atStart }
  obtain ⟨n, en, on⟩ := (axes a).2.2 m k e o
  exact held (inv.running a n k en on)

/-- Under the invariant a slot that the host may post is on no list of the part. -/
theorem State.SlotInv.hostIsFree {s : State} (inv : s.SlotInv) {k : SlotId} (host : s.view k = .host) :
    (∀ c ∈ s.slots.queue, c.slot ≠ k) ∧ (∀ a, ∀ q ∈ (s.axis a).queue, q.slot ≠ k) ∧ (∀ a, k ∉ (s.axis a).stopWait)
      ∧ s.placement.ref ≠ some k ∧ (∀ w ∈ s.mesh.waiting, w.slot ≠ k) ∧ s.power.ref ≠ some k :=
  ⟨fun c m e => (inv.ended c m).notHost (e ▸ host), fun a q m e => (inv.queued a q m).notHost (e ▸ host),
    fun a m => (inv.stopping a k m).notHost host, fun e => (inv.placed k e).notHost host,
    fun w m e => (inv.awaiting w m).notHost (e ▸ host), fun e => (inv.cooling k e).notHost host⟩

end Sys2Proof.Machine
end

