-- ==== Sys2Proof/Tests/Slice0.lean ====
section
/-! SUPPORT. Tests of the model on small states: the ill-formed commands, one step of each command on values written out from
the spec, and for every statement with hypotheses a state that meets them. -/

namespace Sys2Proof.Tests.Slice0
open Sys2Proof Sys2Proof.Machine

set_option Elab.async false

/-! ### Ill-formed commands are refused by the check -/

theorem test_wellFormed_code_above : WellFormed.code 5000 = false := by decide
theorem test_wellFormed_code_below : (Instr.temperatureReading .inlet (-2049)).wellFormed = false := by decide
theorem test_wellFormed_code_edges :
    (Instr.temperatureReading .inlet (-2048)).wellFormed = true ∧ (Instr.temperatureReading .inlet 2047).wellFormed = true := by
  decide
theorem test_wellFormed_accepts_nothing :
    (Instr.filterAccept .h { a := false, b := false, i := false }).wellFormed = false := by decide
theorem test_wellFormed_accepts_index :
    (Instr.filterAccept .h { a := false, b := false, i := true }).wellFormed = true := by decide
theorem test_wellFormed_abort_without_flag :
    (Instr.abort 1 { slot := 0, tag := 0, len := 0, abort := false, low := 0 }).wellFormed = false := by decide

/-! ### Small states -/

/-- The part after its reset-time read has answered with generation 5 in bank A, and P = 0 has reached memory. -/
def base : State :=
  { State.reset with
    path := { State.reset.path with port := none, buffer := [] }
    mesh := { State.reset.mesh with awaitRead := false, dirty := false, gen := 5, markA := .selected } }

/-- A post by the host out of slot 2 with tag 5A. -/
def post (n : Nat) : Post := { slot := 2, tag := 0x5A, len := BitVec.ofNat 4 n, abort := false, low := 0 }

/-- Words 1, 2, ... of slot 2 written by the host. -/
def filledFrom (s : State) : Nat → List Word → State
  | _, [] => s
  | w, x :: rest => filledFrom (s.setShadow 2 (Fin.ofNat 16 w) x) (w + 1) rest

def filled (s : State) (body : List Word) : State := filledFrom s 1 body

def onAxis (s : State) (a : AxisId) (f : Axis → Axis) : State := s.setAxis a (f (s.axis a))

/-- A move record of one kind toward one target, at FAR, with nothing counted. -/
def aMove (kind : MoveKind) (owner : Option SlotId) (target : Int) : Move :=
  { kind := kind
    owner := owner
    target := target
    limit := .far
    result := none
    corrections := 0
    tally := 0
    noiseReported := false
    limited := 0
    holdTime := 0
    stallCount := 0
    settleCount := 0
    quiet := 0
    stops := 0
    origin := 0
    failTravel := 0 }

/-- Axis H in a state with a direct move of slot 1 to 3000 (its slot held by the axis), on the budget order. -/
def moving (st : AxisState) (m : Move) : State :=
  { base with
    axes := base.axes.set .h { base.axes.h with st := st, homed := true, move := some m, target := m.target }
    slots := { base.slots with views := base.slots.views.set 1 (.part 3 0x21 false (.axisRunning .h)) }
    budget := { base.budget with order := [.h] } }

def direct : Move := aMove .directMove (some 1) 3000

/-- Both axes homed. -/
def homed (s : State) : State := { s with axes := s.axes.map (fun x => { x with homed := true }) }

/-- Power mode and cool-down record. -/
def cooling (elapsed : Nat) : State :=
  { base with
    power := { base.power with mode := .cooldown, elapsed := elapsed, ref := some 1 }
    slots := { base.slots with views := base.slots.views.set 1 (.part 17 0x21 false .power) } }

/-- A cool-down whose minimum is met. -/
def cooledDown (elapsed : Nat) : State := { cooling elapsed with power := { (cooling elapsed).power with minMet := true } }

def standby : State := { base with power := { base.power with mode := .standby } }

/-- SUPPLY_LOW with every fan kicking: 34 of 40 drawn. V, older on the budget order, has CREEP of the 6 left, and H none. -/
def squeezed (m : Move) : State :=
  { moving .moving m with
    pins := { base.pins with supplyLow := true }
    axes :=
      (moving .moving m).axes.set .v
        { base.axes.v with
          st := .moving, homed := true, move := some (aMove .directMove (some 4) 3000), target := 3000
          drive := { base.axes.v.drive with positive := true, duty := 25, cls := .creep } }
    slots := { base.slots with
      views := (base.slots.views.set 1 (.part 3 0x21 false (.axisRunning .h))).set 4 (.part 3 0x22 false (.axisRunning .v)) }
    budget :=
      { capacity := 40
        desire := { h := .far, v := .far }
        order := [.v, .h]
        allot := { h := .zero, v := .creep } } }

/-- What a step with the command at the front of the queue gives, seen through f. -/
def after {α : Type} (s : State) (c : Instr) (f : State → α) : Option α :=
  match step { s with pending := [c] } with
  | .next t => some (f t)
  | .fault _ => none
  | .refused _ => none

/-! ### Checks for the words of Safety.lean -/

def quietCheck (s : State) : Bool := decide (s.hold = .running) && s.nextAction.isNone

theorem quiet_iff (s : State) : s.Quiet ↔ quietCheck s = true := by
  simp only [quietCheck, Bool.and_eq_true, decide_eq_true_eq]
  exact ⟨fun h => ⟨h.running, h.still⟩, fun h => ⟨h.1, h.2⟩⟩

def readyCheck (s : State) : Bool :=
  quietCheck s && decide (s.path.port = none ∧ s.path.host = none ∧ s.path.buffer = [] ∧ s.slots.queue = []
    ∧ Memory.wf s.mem = true ∧ s.slots.writer = Initial.progress ∧ s.events.fed = 0)

theorem ready_iff (s : State) : s.Ready ↔ readyCheck s = true := by
  simp only [readyCheck, Bool.and_eq_true, decide_eq_true_eq, ← quiet_iff]
  exact ⟨fun h => ⟨h.toQuiet, h.port, h.host, h.buffer, h.queue, h.canonical, h.writer, h.fed⟩,
    fun ⟨q, a, b, c, d, e, f, g⟩ => ⟨q, a, b, c, d, e, f, g⟩⟩

/-- The invariant of the event ring, as a check. -/
def ringCheck (s : State) : Bool :=
  decide (s.events.out.map Record.pAfter = (List.range s.events.out.length).map (fun i => s.events.q + 1 + BitVec.ofNat 16 i)
    ∧ s.events.p = s.events.q + BitVec.ofNat 16 s.events.out.length
    ∧ (s.events.q - s.events.c).toNat + s.events.out.length ≤ Config.ringSize
    ∧ (s.events.claimZero = true → s.events.q = 0)
    ∧ (s.hold ≠ .running → s.events = Initial.events)
    ∧ s.events.fed ≤ 4 ∧ (s.events.out = [] → s.events.fed = 0))

theorem ringInv_iff (s : State) : s.RingInv ↔ ringCheck s = true := by
  simp only [State.RingInv, ringCheck, decide_eq_true_eq]

theorem headerOnTheWay_iff (s : State) (k : SlotId) (w : Word) (act : SlotAct) (left : Nat) : s.HeaderOnTheWay k w act left ↔
    (quietCheck s = true
      ∧ s.path.port = some { kind := .hostWrite (s.addrOf (slotOffset k 0)) w 0xF act false, left := left }) := by
  rw [← quiet_iff]
  exact ⟨fun h => ⟨h.toQuiet, h.port⟩, fun ⟨q, a⟩ => ⟨q, a⟩⟩

theorem posted_iff (s : State) (p : Post) (body : List Word) : s.Posted p body ↔
    (p.abort = false ∧ p.len.toNat = body.length ∧ s.view p.slot = .host ∧ s.body p.slot body.length = body) :=
  ⟨fun h => ⟨h.noAbort, h.len, h.view, h.words⟩, fun h => ⟨h.1, h.2.1, h.2.2.1, h.2.2.2⟩⟩

theorem freeToMove_iff (s : State) : s.FreeToMove ↔
    (s.power.mode = .run ∧ s.thermal.hb ≠ .lost ∧ s.pins.interlock = false ∧ s.thermal.overall ≠ .critical) :=
  ⟨fun h => ⟨h.mode, h.host, h.interlock, h.level⟩, fun h => ⟨h.1, h.2.1, h.2.2.1, h.2.2.2⟩⟩

theorem awaiting_iff (s : State) (k : CycleKind) (left : Nat) : s.Awaiting k left ↔
    (quietCheck s = true ∧ s.path.port = some { kind := k, left := left } ∧ s.path.buffer = [] ∧ s.slots.queue = []
      ∧ s.events.fed = 0 ∧ s.path.selPending = false) := by
  rw [← quiet_iff]
  exact ⟨fun h => ⟨h.toQuiet, h.port, h.buffer, h.queue, h.fed, h.selector⟩,
    fun ⟨q, a, b, c, d, e⟩ => ⟨q, a, b, c, d, e⟩⟩

def qualifiedCheck (n : Notice) (x : NoticeSource) : Bool :=
  n.enable.getLsbD x.prio && n.pend.getLsbD x.prio
    && (match n.stack with
        | [] => true
        | top :: _ => decide (x.prio < top.prio))

theorem qualified_iff (n : Notice) (x : NoticeSource) : n.Qualified x ↔ qualifiedCheck n x = true := by
  unfold Notice.Qualified qualifiedCheck
  simp only [Bool.and_eq_true, and_assoc]
  constructor
  · rintro ⟨a, b, c⟩
    refine ⟨a, b, ?_⟩
    split
    · rfl
    · next top rest h => exact decide_eq_true (c top rest h)
  · rintro ⟨a, b, c⟩
    refine ⟨a, b, fun top rest h => ?_⟩
    rw [h] at c
    exact of_decide_eq_true c

def heldCheck (s : State) (k : SlotId) (h : Holder) : Bool :=
  match s.view k with
  | .host => false
  | .part _ _ _ g => decide (g = h)

theorem heldBy_iff (s : State) (k : SlotId) (h : Holder) : s.HeldBy k h ↔ heldCheck s k h = true := by
  unfold State.HeldBy heldCheck
  constructor
  · rintro ⟨kind, tag, taken, e⟩
    rw [e]
    exact decide_eq_true rfl
  · intro e
    split at e
    · cases e
    · next kind tag taken g v => exact ⟨kind, tag, taken, by rw [v, of_decide_eq_true e]⟩

theorem completionsHeld_iff (s : State) :
    s.CompletionsHeld ↔ s.slots.queue.all (fun c => heldCheck s c.slot .completing) = true := by
  simp only [State.CompletionsHeld, List.all_eq_true, heldBy_iff]

/-- A refused write to a word of a slot that the part holds. -/
theorem refusesHeld {s : State} {o : Nat} {data : Word} {be : BitVec 4} {kind : BitVec 6} {tag : BitVec 8} {taken : Bool}
    {h : Holder} (low : o < 0x80) (view : s.view (slotOfOffset o) = .part kind tag taken h)
    (why : o % 16 ≠ 0 ∨ kind = 17
      ∨ (if be.getLsbD 3 then data.extractLsb' 24 8
          else (s.shadowWord (slotOfOffset o) (wordOfOffset o)).extractLsb' 24 8).getLsbD 7 = false
      ∨ (if be.getLsbD 3 then data.extractLsb' 24 8
          else (s.shadowWord (slotOfOffset o) (wordOfOffset o)).extractLsb' 24 8).getLsbD 6 = false
      ∨ (if be.getLsbD 2 then data.extractLsb' 16 8
          else (s.shadowWord (slotOfOffset o) (wordOfOffset o)).extractLsb' 16 8) ≠ tag) :
    s.RefusesWrite o data be := .inr (.inr (.inr (.inr ⟨low, kind, tag, taken, h, view, why⟩)))

/-- The slot of a post on the port is the host's. -/
def postingCheck (s : State) : Bool :=
  match s.path.port with
  | some { kind := .hostWrite addr _ _ .post _, .. } =>
    match s.offsetOf addr with
    | some o => decide (o < 0x80 → s.view (slotOfOffset o) = .host)
    | none => true
  | _ => true

def slotCheck (s : State) : Bool :=
  s.slots.queue.all (fun c => heldCheck s c.slot .completing)
    && [AxisId.h, AxisId.v].all (fun a =>
      (s.axis a).queue.all (fun q => heldCheck s q.slot (.axisQueue a))
        && decide ((s.axis a).queue.map Queued.slot).Nodup
        && ((s.axis a).move.bind Move.owner).all (fun k => heldCheck s k (.axisRunning a))
        && (s.axis a).stopWait.all (fun k => heldCheck s k (.stopWait a))
        && decide (s.axis a).stopWait.Nodup)
    && s.placement.ref.all (fun k => heldCheck s k .placement)
    && s.mesh.waiting.all (fun w => heldCheck s w.slot .meshWait)
    && s.power.ref.all (fun k => heldCheck s k .power)
    && postingCheck s
    && decide ((s.slots.queue.map Completion.slot).Nodup ∧ (s.mesh.waiting.map Waiting.slot).Nodup
        ∧ (s.slots.queue = [] → s.slots.writer = Initial.progress))

theorem slotInv_of (s : State) (h : slotCheck s = true) : s.SlotInv := by
  simp only [slotCheck, List.all_cons, List.all_nil, Bool.and_true, Bool.and_eq_true, List.all_eq_true, decide_eq_true_eq,
    Option.all_eq_true] at h
  obtain ⟨⟨⟨⟨⟨⟨ended, x, y⟩, placed⟩, awaiting⟩, cooling⟩, posting⟩, once, waits, start⟩ := h
  have axis : ∀ a, _ := fun a => AxisId.rec (motive := fun a =>
    ((((∀ q ∈ (s.axis a).queue, heldCheck s q.slot (.axisQueue a) = true) ∧ ((s.axis a).queue.map Queued.slot).Nodup)
      ∧ ∀ k, (s.axis a).move.bind Move.owner = some k → heldCheck s k (.axisRunning a) = true)
      ∧ ∀ k ∈ (s.axis a).stopWait, heldCheck s k (.stopWait a) = true) ∧ (s.axis a).stopWait.Nodup) x y a
  refine
    { ended := fun c m => (heldBy_iff ..).2 (ended c m)
      endedOnce := once
      queued := fun a q m => (heldBy_iff ..).2 ((axis a).1.1.1.1 q m)
      queuedOnce := fun a => (axis a).1.1.1.2
      running := fun a m k e o => (heldBy_iff ..).2 ((axis a).1.1.2 k (by rw [e]; exact o))
      stopping := fun a k m => (heldBy_iff ..).2 ((axis a).1.2 k m)
      stoppingOnce := fun a => (axis a).2
      placed := fun k e => (heldBy_iff ..).2 (placed k e)
      awaiting := fun w m => (heldBy_iff ..).2 (awaiting w m)
      awaitingOnce := waits
      cooling := fun k e => (heldBy_iff ..).2 (cooling k e)
      posting := fun addr data be sup left o port off low => ?_
      atStart := start }
  unfold postingCheck at posting
  rw [port] at posting
  simp only [off, decide_eq_true_eq] at posting
  exact posting low

/-! ### Premises of the statements: the queue, resets, host accesses -/

theorem test_premises_StepRunsFrontCommand :
    ({ base with pending := [.fsync, .fanTick] } : State).pending = .fsync :: [.fanTick] := by decide +kernel

theorem test_premises_EveryStepCompletes :
    base.pending = []
    ∧ base.ClockInv
    ∧ ({ base with clock := { base.clock with usInMs := 999 } } : State).ClockInv
    ∧ base.hold ≠ .powerOn := by
  unfold State.ClockInv
  decide +kernel

theorem test_premises_PowerOnReset :
    State.reset.path.port.all (fun c => decide (c.kind ≠ .drain)) = true
    ∧ State.reset.path.buffer = { offset := 0x100, data := 0, producer := .eventWriter false } :: [] := by decide +kernel

theorem test_premises_SystemReset :
    base.hold = .running
    ∧ (base.assertReset { region := 3, orient := .floor }).hold ≠ .running
    ∧ ({ base with path := { base.path with host := some (.read 0) } } : State).path.host = some (.read 0) := by decide +kernel

/-- RESET holds the part after a system reset. -/
def heldBySystem (s : State) : State := s.assertReset { region := 0, orient := .floor }

theorem test_premises_ResetRelease :
    base.hold = .running
    ∧ base.power.mode = .run
    ∧ base.path.port = none
    ∧ (base.fan .intake).st ≠ .failed
    ∧ ((heldBySystem standby).hold = .system ∧ (heldBySystem standby).path.host = none
        ∧ (heldBySystem standby).power.mode = .standby ∧ ((heldBySystem standby).fan .intake).st = .off)
    ∧ ((heldBySystem (cooling 299999)).hold = .system ∧ (heldBySystem (cooling 299999)).path.host = none
        ∧ (heldBySystem (cooling 299999)).slots.queue = [] ∧ (heldBySystem (cooling 299999)).power.mode = .cooldown
        ∧ (heldBySystem (cooling 299999)).power.ref = none
        ∧ (heldBySystem (cooling 299999)).power.park = { h := .notAsked, v := .notAsked }
        ∧ (heldBySystem (cooling 299999)).power.minMet = false)
    ∧ ((heldBySystem (cooledDown 60000)).power.minMet = true
        ∧ (heldBySystem (cooledDown 60000)).thermal.channels.source.fault = false
        ∧ (heldBySystem (cooledDown 60000)).thermal.channels.source.reading ≤ 90
        ∧ (heldBySystem (cooledDown 60000)).highestLevel.rank < Level.hot.rank)
    ∧ 300000 ≤ (heldBySystem (cooling 300000)).power.elapsed := by decide +kernel

/-- Two entries for offset 128 and one for offset 129, behind a cycle that a reset left on the port. -/
def buffered : State :=
  { base with
    path := { base.path with
      port := some { kind := .orphan, left := 3 }
      buffer :=
        [{ offset := 0x80, data := 7, producer := .eventWriter false },
          { offset := 0x80, data := 8, producer := .eventWriter false },
          { offset := 0x81, data := 9, producer := .eventWriter false }] } }

theorem test_premises_HostReads :
    base.Ready
    ∧ base.offsetOf (base.addrOf 0x1FF) = some 0x1FF
    ∧ isLive 0x1FF = false
    ∧ isLive 0x300 = false
    ∧ buffered.Quiet
    ∧ buffered.path.host = none
    ∧ buffered.offsetOf (buffered.addrOf 0x80) = some 0x80
    ∧ isLive 0x80 = false
    ∧ buffered.path.buffer =
        [{ offset := 0x80, data := 7, producer := .eventWriter false }]
          ++ { offset := 0x80, data := 8, producer := .eventWriter false }
            :: [{ offset := 0x81, data := 9, producer := .eventWriter false }] := by
  simp only [ready_iff, quiet_iff]
  decide +kernel

/-- The reset-time selector read is still pending behind the orphan cycle (log 32). -/
theorem test_premises_HostReads_selector :
    ({ buffered with path := { buffered.path with selPending := true } } : State).Quiet := by
  simp only [quiet_iff]
  decide +kernel

theorem test_premises_LiveReads :
    base.Quiet
    ∧ base.path.host = none
    ∧ base.offsetOf (base.addrOf 0x201) = some 0x201
    ∧ base.offsetOf (base.addrOf 0x2FF) = some 0x2FF
    ∧ (0x201 ≠ pairLowOffset .positionH ∧ 0x201 ≠ pairLowOffset .source + 1 ∧ 0x2FF ≠ pairLowOffset .source + 1) := by
  simp only [quiet_iff]
  decide +kernel

theorem test_premises_LiveReads_stack :
    stackRises [.thermal, .axisV, .event] = true
    ∧ ([.thermal, .axisV, .event] : List NoticeSource).reverse[0]? = some .event
    ∧ ([.thermal, .axisV, .event] : List NoticeSource).reverse[2]? = some .thermal := by decide +kernel

/-- Sources enabled, pending and in service. -/
def noticed (enable pend : BitVec 8) (stack : List NoticeSource) : State :=
  { base with notice := { enable := enable, pend := pend, stack := stack, base := 0x30 } }

theorem test_premises_Acknowledge :
    (noticed 0x81 0x81 []).Quiet
    ∧ (noticed 0x81 0x81 []).path.host = none
    ∧ (noticed 0x81 0x81 []).notice.Qualified .thermal
    ∧ (noticed 0x80 0x81 []).notice.Qualified .event
    ∧ ¬ (noticed 0x80 0x81 []).notice.Qualified .thermal
    ∧ ¬ (noticed 0xFF 0x80 [.event]).notice.Qualified .event := by
  simp only [quiet_iff, qualified_iff]
  decide +kernel

theorem test_premises_EndOfService :
    (noticed 0 0 [.thermal, .event]).Quiet
    ∧ (noticed 0 0 [.thermal, .event]).path.host = none
    ∧ (noticed 0 0 [.thermal, .event]).notice.stack = .thermal :: [.event]
    ∧ base.Ready
    ∧ base.RingOpen
    ∧ base.notice.stack = [] := by
  simp only [ready_iff, quiet_iff, State.RingOpen]
  decide +kernel

/-- Slot 2 holds a request of one kind with tag 5A, at one holder. -/
def held (s : State) (kind : BitVec 6) (h : Holder) : State := s.setView 2 (.part kind 0x5A false h)

theorem test_premises_HostWrites :
    base.Ready
    ∧ base.offsetOf 0x01000000 = none
    ∧ base.offsetOf (base.addrOf 0x104) = some 0x104
    ∧ base.offsetOf (base.addrOf 0x1FF) = some 0x1FF
    ∧ base.offsetOf (base.addrOf 0x300) = some 0x300
    ∧ base.offsetOf (base.addrOf 0x3FF) = some 0x3FF
    ∧ base.offsetOf (base.addrOf 0x500) = some 0x500
    ∧ base.offsetOf (base.addrOf 0xFFF) = some 0xFFF
    ∧ (base.offsetOf (base.addrOf 0) = some 0 ∧ base.view (slotOfOffset 0) = .host
        ∧ headerOwner (base.mergedWord 0 0x81000000 0xF) = true)
    ∧ (base.offsetOf (base.addrOf 0x7F) = some 0x7F ∧ base.view (slotOfOffset 0x7F) = .host)
    ∧ (buffered.Quiet ∧ ({ offset := 0x81, data := 9, producer := .eventWriter false } : Entry) ∈ buffered.path.buffer) := by
  simp only [ready_iff, quiet_iff]
  decide +kernel

theorem test_premises_HostWriteRefused :
    base.Ready
    ∧ base.RingOpen
    ∧ base.offsetOf (base.addrOf 0x80) = some 0x80
    ∧ base.offsetOf (base.addrOf 0x100) = some 0x100
    ∧ base.offsetOf (base.addrOf 0x103) = some 0x103
    ∧ base.offsetOf (base.addrOf 0x200) = some 0x200
    ∧ base.offsetOf (base.addrOf 0x202) = some 0x202
    ∧ base.offsetOf (base.addrOf 0x2FF) = some 0x2FF
    ∧ base.offsetOf (base.addrOf 0x400) = some 0x400
    ∧ base.offsetOf (base.addrOf 0x4FF) = some 0x4FF
    ∧ (held base 3 (.axisQueue .h)).Ready
    ∧ (held base 17 .power).Ready := by
  simp only [ready_iff, State.RingOpen]
  decide +kernel

/-- The words of the part and the live words, at the ends of their ranges; of a slot that the part holds, a body word, any header
write to a POWER_DOWN, and headers with owner HOST, without the abort flag and with another tag, written whole or in part. -/
theorem test_premises_HostWriteRefused_words :
    (∀ o ∈ [0x80, 0x100, 0x103, 0x200, 0x202, 0x2FF, 0x400, 0x4FF], base.RefusesWrite o 0 0xF)
    ∧ (held base 3 (.axisQueue .h)).RefusesWrite 0x21 0xC35A0000 0xF
    ∧ (held base 3 (.axisQueue .h)).RefusesWrite 0x2F 0xC35A0000 0xF
    ∧ (held base 17 .power).RefusesWrite 0x20 0xD15A0000 0xF
    ∧ (held base 3 (.axisQueue .h)).RefusesWrite 0x20 0x435A0000 0xF
    ∧ (held base 3 (.axisQueue .h)).RefusesWrite 0x20 0x835A0000 0xF
    ∧ (held base 3 (.axisQueue .h)).RefusesWrite 0x20 0xC35B0000 0xF
    ∧ (held base 3 (.axisQueue .h)).RefusesWrite 0x20 0xC35A0000 0x7 := by
  have view : (held base 3 (.axisQueue .h)).view 2 = .part 3 0x5A false (.axisQueue .h) := by decide +kernel
  refine ⟨fun o m => ?_, refusesHeld (by decide) view (.inl (by decide)), refusesHeld (by decide) view (.inl (by decide)),
    refusesHeld (by decide) (by decide +kernel : (held base 17 .power).view 2 = .part 17 0x5A false .power) (.inr (.inl rfl)),
    refusesHeld (by decide) view (.inr (.inr (.inl (by decide +kernel)))),
    refusesHeld (by decide) view (.inr (.inr (.inr (.inl (by decide +kernel))))),
    refusesHeld (by decide) view (.inr (.inr (.inr (.inr (by decide +kernel))))),
    refusesHeld (by decide) view (.inr (.inr (.inl (by decide +kernel))))⟩
  simp only [List.mem_cons, List.not_mem_nil, or_false] at m
  unfold State.RefusesWrite
  omega

/-- A ring with a number of records in it. -/
def ringOf (records : Half) (overrun : Bool) (lost : Nat) : State :=
  { base with events := { base.events with p := records, q := records, overrun := overrun, lost := lost } }

theorem test_premises_HostWriteRefused_ring :
    ((ringOf 31 false 0).Ready ∧ (ringOf 31 false 0).RingOpen)
    ∧ ((ringOf 32 false 0).Ready ∧ (ringOf 32 false 0).events.occupancy = 32)
    ∧ ((ringOf 32 true 65535).Ready ∧ (ringOf 32 true 65535).events.occupancy = 32)
    ∧ ((ringOf 31 true 7).Ready ∧ (ringOf 31 true 7).events.occupancy = 31)
    ∧ ((ringOf 30 true 7).Ready ∧ (ringOf 30 true 7).events.occupancy < 31) := by
  simp only [ready_iff, State.RingOpen]
  decide +kernel

/-- Four records placed and queued, none consumed. -/
def fourEvents : State := { base with events := { base.events with p := 4, q := 4 } }

theorem test_premises_ToldWrites :
    fourEvents.Ready
    ∧ fourEvents.RingOpen
    ∧ ((4 - fourEvents.events.c).toNat ≤ (fourEvents.events.q - fourEvents.events.c).toNat)
    ∧ ((fourEvents.events.q - fourEvents.events.c).toNat < (5 - fourEvents.events.c).toNat)
    ∧ fourEvents.thermal.hb = .disarmed
    ∧ fourEvents.power.mode ≠ .standby
    ∧ ({ base with thermal := { base.thermal with hb := .lost } } : State).Ready
    ∧ ({ base with thermal := { base.thermal with hb := .armed } } : State).Ready
    ∧ ({ base with power := { base.power with mode := .standby } } : State).Ready := by
  simp only [ready_iff, State.RingOpen]
  decide +kernel

/-! ### Premises of the statements: ends of memory cycles and slots -/

/-- One cycle on the port, nothing else on its way to memory. -/
def onPort (s : State) (k : CycleKind) (host : Option HostAccess) : State :=
  { s with path := { s.path with port := some { kind := k, left := 10 }, host := host } }

/-- The drain of one entry on the port. -/
def draining (e : Entry) (rest : List Entry) : State :=
  onPort { base with path := { base.path with buffer := e :: rest } } .drain none

theorem test_premises_MemoryAnswers :
    (onPort base (.hostRead 8) (some (.read 8))).hold = .running
    ∧ (onPort base (.hostRead 8) (some (.read 8))).path.port = some { kind := .hostRead 8, left := 10 }
    ∧ Memory.wf (onPort base (.hostWrite 8 5 1 .plain false) (some (.write 8 5 1))).mem = true
    ∧ (onPort base (.hostWrite (base.addrOf 0x7F) 5 1 .plain false) none).path.port =
      some { kind := .hostWrite (base.addrOf 0x7F) 5 1 .plain false, left := 10 }
    ∧ base.offsetOf (base.addrOf 0x7F) = some 0x7F
    ∧ base.slots.queue = []
    ∧ base.path.port = none := by decide +kernel

/-- The selector of a build into bank B, on its way to memory. -/
def flipping : State :=
  { draining { offset := 0x103, data := selectorWord .b 6, producer := .meshSelector } [] with
    mesh :=
      { base.mesh with
        st := .flipPending
        snapshot := some { params := base.mesh.last, gen := 6, bank := .b } } }

theorem test_premises_DrainReachesMemory :
    (draining { offset := 0x20, data := 1, producer := .slotHeader } []).hold = .running
    ∧ Memory.wf flipping.mem = true
    ∧ flipping.path.host = none
    ∧ flipping.path.buffer = { offset := 0x103, data := selectorWord .b 6, producer := .meshSelector } :: []
    ∧ flipping.path.port = some { kind := .drain, left := 10 }
    ∧ flipping.mesh.snapshot = some { params := base.mesh.last, gen := 6, bank := .b }
    ∧ flipping.mesh.mark (otherBank .b) = .selected := by decide +kernel

/-- The only body word of a completion of slot 2 drains. -/
def bodyDraining (dropped : Bool) : State :=
  { held (draining { offset := 0x21, data := 9, producer := .slotBody } []) 3 .completing with
    slots :=
      { (held base 3 .completing).slots with
        queue := [{ slot := 2, result := { cls := .done, code := .ok }, body := [9] }]
        writer := { queued := 1, inBuffer := 1, dropped := dropped } } }

theorem test_premises_HeaderAfterBody_false :
    (bodyDraining false).hold = .running
    ∧ (bodyDraining false).path.host = none
    ∧ (bodyDraining false).path.buffer = [{ offset := 0x21, data := 9, producer := .slotBody }]
    ∧ (bodyDraining false).path.port = some { kind := .drain, left := 10 }
    ∧ (bodyDraining false).path.selPending = false
    ∧ (bodyDraining false).slots.queue = [{ slot := 2, result := { cls := .done, code := .ok }, body := [9] }]
    ∧ (bodyDraining false).slots.writer = { queued := 1, inBuffer := 1, dropped := false }
    ∧ (bodyDraining false).view 2 = .part 3 0x5A false .completing
    ∧ (bodyDraining false).eventClaim.isNone = true
    ∧ (bodyDraining false).meshClaim.isNone = true := by decide +kernel

theorem test_premises_HeaderAfterBody_true :
    (bodyDraining true).hold = .running
    ∧ (bodyDraining true).path.host = none
    ∧ (bodyDraining true).path.buffer = [{ offset := 0x21, data := 9, producer := .slotBody }]
    ∧ (bodyDraining true).path.port = some { kind := .drain, left := 10 }
    ∧ (bodyDraining true).path.selPending = false
    ∧ (bodyDraining true).slots.queue = [{ slot := 2, result := { cls := .done, code := .ok }, body := [9] }]
    ∧ (bodyDraining true).slots.writer = { queued := 1, inBuffer := 1, dropped := true }
    ∧ (bodyDraining true).view 2 = .part 3 0x5A false .completing
    ∧ (bodyDraining true).eventClaim.isNone = true
    ∧ (bodyDraining true).meshClaim.isNone = true := by decide +kernel

/-- A completion of slot 2 with a body of two words, of which one is queued. -/
def halfQueued : State :=
  { bodyDraining false with
    slots :=
      { (bodyDraining false).slots with
        queue := [{ slot := 2, result := { cls := .done, code := .ok }, body := [9, 8] }] } }

theorem test_premises_HeaderAfterBody_waits :
    halfQueued.slots.queue = { slot := 2, result := { cls := .done, code := .ok }, body := [9, 8] } :: []
    ∧ 0 < halfQueued.slots.writer.inBuffer
    ∧ halfQueued.slots.writer.queued < 2
    ∧ halfQueued.slotClaim.isSome = true := by decide +kernel

theorem test_premises_MemoryTimeout :
    (onPort base (.hostRead 8) (some (.read 8))).RingOpen
    ∧ (onPort base (.hostRead 8) (some (.read 8))).Awaiting (.hostRead 8) 10
    ∧ (onPort base (.hostWrite 8 5 1 .plain false) (some (.write 8 5 1))).Awaiting (.hostWrite 8 5 1 .plain false) 10
    ∧ ((draining { offset := 0x20, data := 1, producer := .slotHeader } []).hold = .running
        ∧ (draining { offset := 0x20, data := 1, producer := .slotHeader } []).RingOpen
        ∧ (draining { offset := 0x20, data := 1, producer := .slotHeader } []).RingInv)
    ∧ (flipping.Quiet ∧ flipping.RingOpen ∧ flipping.RingInv ∧ flipping.mesh.st = .flipPending)
    ∧ (State.reset.hold = .running ∧ State.reset.RingOpen ∧ State.reset.RingInv ∧ State.reset.path.host = none
        ∧ State.reset.path.port = some { kind := .selector, left := 10 }
        ∧ State.reset.mesh.st = .idle ∧ State.reset.mesh.dirty = true) := by
  simp only [awaiting_iff, quiet_iff, ringInv_iff]
  unfold State.RingOpen
  decide +kernel

theorem test_premises_SlotUnitPosts :
    (filled base [7]).Ready
    ∧ (filled base [7]).view 2 = .host
    ∧ (filled base [7]).body 2 1 = [7]
    ∧ lengthOk .nop [7] = false
    ∧ (lengthOk .axisHome [7] = true ∧ staticOk .axisHome [7] = false)
    ∧ (filled base []).Posted (post 0) []
    ∧ (onPort base (.hostWrite (base.addrOf 0x20) 0x80000000 0xF .post false) (some (.write (base.addrOf 0x20) 0x80000000 0xF))).Awaiting
      (.hostWrite (base.addrOf (slotOffset 2 0)) 0x80000000 0xF .post false) 10
    ∧ ((0x80000000 : Word).extractLsb' 24 6 = 0 ∧ 20 ≤ ((0x94000000 : Word).extractLsb' 24 6).toNat) := by
  simp only [ready_iff, posted_iff, awaiting_iff]
  decide +kernel

/-- A PLACE of slot 2 holds the placement unit. -/
def placing (st : PlStatus) : State :=
  { held (moving .moving (aMove .placement none 3000)) 8 .placement with
    placement := { base.placement with status := st, ref := some 2 } }

/-- A second abort, or the abort of a completing request: the header write of slot 2 is on the port, the body of a slot's completion
in the buffer. -/
def abortOnTheWay (taken : Bool) (h : Holder) (ends : SlotId) : State :=
  onPort
    { base with
      path := { base.path with buffer := [{ offset := slotOffset ends 1, data := 9, producer := .slotBody }] }
      slots :=
        { base.slots with
          views := (base.slots.views.set ends (.part 3 0x77 false .completing)).set 2 (.part 3 0x5A taken h)
          queue := [{ slot := ends, result := { cls := .done, code := .ok }, body := [9] }]
          writer := { queued := 1, inBuffer := 1, dropped := false } } }
    (.hostWrite (base.addrOf (slotOffset 2 0)) (postHeader 3 { post 0 with abort := true }) 0xF .abort false) none

theorem test_premises_Aborts :
    ((held base 3 (.axisQueue .h)).Ready ∧ (held base 3 (.axisQueue .h)).view 2 = .part 3 0x5A false (.axisQueue .h))
    ∧ (held (moving .moving direct) 3 (.axisRunning .h)).Ready
    ∧ (((moving .moving direct).axis .h).st.active = true ∧ ((moving .homing direct).axis .h).st.active = true
        ∧ ((moving .settling direct).axis .h).st.active = true ∧ ((moving .moving direct).axis .h).move = some direct)
    ∧ (held base 9 .meshWait).Ready
    ∧ (held base 5 (.stopWait .v)).Ready
    ∧ ((placing .moving).Ready ∧ (placing .moving).view 2 = .part 8 0x5A false .placement
        ∧ (placing .moving).placement.ref = some 2 ∧ (placing .moving).anyPlacementMove = true)
    ∧ ((placing .applying).Ready ∧ (placing .failed).Ready)
    ∧ ((abortOnTheWay true .placement 5).HeaderOnTheWay 2 (postHeader 3 { post 0 with abort := true }) .abort 10
        ∧ (abortOnTheWay true .placement 5).view 2 = .part 3 0x5A true .placement)
    ∧ ((abortOnTheWay false .completing 2).HeaderOnTheWay 2 (postHeader 3 { post 0 with abort := true }) .abort 10
        ∧ (abortOnTheWay false .completing 2).view 2 = .part 3 0x5A false .completing
        ∧ (abortOnTheWay false .completing 2).slots.queue ≠ []) := by
  simp only [ready_iff, headerOnTheWay_iff]
  decide +kernel

/-! ### Premises of the statements: requests of the axes -/

theorem test_premises_HomeStarts :
    (filled base [axisWord .v]).Ready
    ∧ (filled base [axisWord .v]).Posted (post 1) [axisWord .v]
    ∧ (filled base [axisWord .v]).FreeToMove
    ∧ (base.axis .v).st = .idle
    ∧ base.placementHeld = false
    ∧ (base.axis .v).indexCondition = false
    ∧ base.placement.status = .detached := by
  simp only [ready_iff, posted_iff, freeToMove_iff]
  decide +kernel

theorem test_premises_DirectMoveStarts_to :
    (filled (homed base) [axisWord .h, signedWord 20000, limitWord .creep]).Ready
    ∧ (filled (homed base) [axisWord .h, signedWord 20000, limitWord .creep]).Posted (post 3) [axisWord .h, signedWord 20000, limitWord .creep]
    ∧ (filled (homed base) [axisWord .h, signedWord 20000, limitWord .creep]).FreeToMove
    ∧ ((homed base).axis .h).st = .idle
    ∧ ((homed base).axis .h).homed = true
    ∧ (homed base).placementHeld = false
    ∧ (signedWord 20000).toInt ≤ (base.axis .h).cfg.limits.2 := by
  simp only [ready_iff, posted_iff, freeToMove_iff]
  decide +kernel

theorem test_premises_DirectMoveStarts_by :
    (filled (homed base) [axisWord .h, signedWord (-20000), limitWord .creep]).Ready
    ∧ (filled (homed base) [axisWord .h, signedWord (-20000), limitWord .creep]).Posted (post 3) [axisWord .h, signedWord (-20000), limitWord .creep]
    ∧ (filled (homed base) [axisWord .h, signedWord (-20000), limitWord .creep]).FreeToMove
    ∧ ((homed base).axis .h).st = .idle
    ∧ ((homed base).axis .h).homed = true
    ∧ (homed base).placementHeld = false
    ∧ (base.axis .h).cfg.limits.1 ≤ (base.axis .h).counter.toInt + (signedWord (-20000)).toInt := by
  simp only [ready_iff, posted_iff, freeToMove_iff]
  decide +kernel

/-- A home of axis H is posted while the line, level, mode or axis state is as given. -/
def postedHome (s : State) : State := filled s [axisWord .h]

def lost : State := { base with thermal := { base.thermal with hb := .lost } }
def locked : State := { base with pins := { base.pins with interlock := true } }
def critical : State := { base with thermal := { base.thermal with overall := .critical } }
def faulted : State := onAxis base .h (fun x => { x with st := .fault, faultCode := .stall })
def placed : State := { base with placement := { base.placement with status := .moving, ref := some 3 } }

theorem test_premises_DirectRequestWaitsOrIsRefused :
    (postedHome (moving .moving direct)).Ready ∧ (postedHome (moving .moving direct)).Posted (post 1) [axisWord .h]
    ∧ (postedHome placed).Ready ∧ (postedHome placed).Posted (post 1) [axisWord .h]
    ∧ (postedHome standby).Ready ∧ (postedHome standby).Posted (post 1) [axisWord .h]
    ∧ (postedHome lost).Ready ∧ (postedHome lost).Posted (post 1) [axisWord .h]
    ∧ (postedHome locked).Ready ∧ (postedHome locked).Posted (post 1) [axisWord .h]
    ∧ (postedHome critical).Ready ∧ (postedHome critical).Posted (post 1) [axisWord .h]
    ∧ (postedHome faulted).Ready ∧ (postedHome faulted).Posted (post 1) [axisWord .h]
    ∧ placed.placementHeld = true
    ∧ (moving .moving direct).placementHeld = false
    ∧ ((moving .moving direct).axis .h).st ≠ .idle
    ∧ (standby.power.mode ≠ .run ∧ lost.thermal.hb = .lost ∧ locked.pins.interlock = true ∧ critical.thermal.overall = .critical)
    ∧ (postedHome faulted).FreeToMove
    ∧ ((postedHome faulted).axis .h).st = .fault := by
  simp only [ready_iff, posted_iff, freeToMove_iff]
  decide +kernel

theorem test_premises_DirectRequestWaitsOrIsRefused_moves :
    ((filled base [axisWord .h, 5, limitWord .far]).Ready
        ∧ (filled base [axisWord .h, 5, limitWord .far]).Posted (post 3) [axisWord .h, 5, limitWord .far]
        ∧ (filled base [axisWord .h, 5, limitWord .far]).FreeToMove
        ∧ (base.axis .h).st = .idle ∧ (base.axis .h).homed = false)
    ∧ ((filled (homed base) [axisWord .v, 20001, limitWord .near]).Ready
        ∧ (filled (homed base) [axisWord .v, 20001, limitWord .near]).Posted (post 3) [axisWord .v, 20001, limitWord .near]
        ∧ (filled (homed base) [axisWord .v, 20001, limitWord .near]).FreeToMove
        ∧ ((homed base).axis .v).homed = true
        ∧ ((homed base).axis .v).cfg.limits.2 < (20001 : Word).toInt
        ∧ ((homed base).axis .v).counter.toInt + (signedWord (-20001)).toInt < ((homed base).axis .v).cfg.limits.1) := by
  simp only [ready_iff, posted_iff, freeToMove_iff]
  decide +kernel

def queuedMove : State := onAxis (moving .moving direct) .h (fun x => { x with queue := [{ slot := 3, req := .home }] })

theorem test_premises_AxisStop :
    (filled base [axisWord .v]).Ready
    ∧ (filled base [axisWord .v]).Posted (post 1) [axisWord .v]
    ∧ (base.axis .v).pendingPark = false
    ∧ (base.axis .v).st = .idle
    ∧ (postedHome queuedMove).Ready
    ∧ (postedHome queuedMove).Posted (post 1) [axisWord .h]
    ∧ (queuedMove.axis .h).st.active = true
    ∧ (queuedMove.axis .h).move = some direct
    ∧ (queuedMove.axis .h).queue ≠ [] := by
  simp only [ready_iff, posted_iff]
  decide +kernel

theorem test_premises_AxisReport :
    (filled faulted [axisWord .h, natWord (boolNat true)]).Ready
    ∧ (filled faulted [axisWord .h, natWord (boolNat true)]).Posted (post 2) [axisWord .h, natWord (boolNat true)]
    ∧ (faulted.axis .h).queue = []
    ∧ (faulted.axis .h).pendingPark = false
    ∧ (filled base [axisWord .v, natWord (boolNat false)]).Posted (post 2) [axisWord .v, natWord (boolNat false)] := by
  simp only [ready_iff, posted_iff]
  decide +kernel

/-- HOME_VALUE 500 for axis H, and a HOME_VALUE above its limits. -/
def setupGood : List Word := [0, 2, 500]
def setupBad : List Word := [0, 2, 20001]
/-- PARK 500 for axis H, a field that leaves a placement as it is. -/
def setupPark : List Word := [0, 64, 500]

theorem test_premises_AxisSetup :
    (filled base setupGood).Ready
    ∧ (filled base setupGood).Posted (post 3) setupGood
    ∧ lengthOk .axisSetup setupGood = true
    ∧ staticOk .axisSetup setupGood = true
    ∧ axisOfWord (bodyWord setupGood 1) = .h
    ∧ (base.axis .h).st = .idle
    ∧ (base.axis .h).queue = []
    ∧ base.placementHeld = false
    ∧ (setupCandidate (base.axis .h).cfg setupGood).valid = true
    ∧ (filled base setupBad).Posted (post 3) setupBad
    ∧ lengthOk .axisSetup setupBad = true
    ∧ staticOk .axisSetup setupBad = true
    ∧ (setupCandidate (base.axis .h).cfg setupBad).valid = false
    ∧ (filled queuedMove setupGood).Ready
    ∧ (filled queuedMove setupGood).Posted (post 3) setupGood := by
  simp only [ready_iff, posted_iff]
  decide +kernel

/-! ### Premises of the statements: placement, mesh and the other requests -/

theorem test_premises_PlaceAnswers :
    (filled (homed base) [300, signedWord (-40)]).Ready
    ∧ (filled (homed base) [300, signedWord (-40)]).Posted (post 2) [300, signedWord (-40)]
    ∧ staticOk .place [300, signedWord (-40)] = true
    ∧ (filled (homed base) [300, signedWord (-40)]).FreeToMove
    ∧ base.placementRuns = false
    ∧ ((homed base).axis .h).st = .idle
    ∧ ((homed base).axis .v).homed = true
    ∧ ((homed base).axis .v).move = none
    ∧ ((homed base).axis .h).queue = []
    ∧ ((homed base).split .floor 300 (-40)).isSome = true
    ∧ ((homed base).split .floor 300 (-40)).all (fun sp => meshValid ((homed base).splitMesh .floor sp)) = true
    ∧ (splitAxis (base.axis .h).cfg 1000).isSome = true
    ∧ (splitAxis (base.axis .h).cfg (-1001)).isSome = true
    ∧ 0 < (base.axis .h).cfg.gainCenter.1 := by
  simp only [ready_iff, posted_iff, freeToMove_iff]
  decide +kernel

theorem test_premises_PlaceAnswers_refused :
    (filled standby [300, signedWord (-40)]).Ready ∧ (filled standby [300, signedWord (-40)]).Posted (post 2) [300, signedWord (-40)]
    ∧ (filled lost [300, signedWord (-40)]).Ready ∧ (filled lost [300, signedWord (-40)]).Posted (post 2) [300, signedWord (-40)]
    ∧ (filled locked [300, signedWord (-40)]).Ready ∧ (filled locked [300, signedWord (-40)]).Posted (post 2) [300, signedWord (-40)]
    ∧ (filled critical [300, signedWord (-40)]).Ready ∧ (filled critical [300, signedWord (-40)]).Posted (post 2) [300, signedWord (-40)]
    ∧ (filled faulted [300, signedWord (-40)]).Ready ∧ (filled faulted [300, signedWord (-40)]).Posted (post 2) [300, signedWord (-40)]
    ∧ (filled base [300, signedWord (-40)]).Ready ∧ (filled base [300, signedWord (-40)]).Posted (post 2) [300, signedWord (-40)]
    ∧ (filled faulted [300, signedWord (-40)]).FreeToMove
    ∧ (base.axis .h).homed = false
    ∧ (base.axis .h).st ≠ .fault
    ∧ (base.axis .v).st ≠ .fault := by
  simp only [ready_iff, posted_iff, freeToMove_iff]
  decide +kernel

/-- Both axes homed and at rest; a placement of 300 and -40 runs, or has settled, by the request of slot 3. -/
def place300 : List Word := [300, signedWord (-40)]

def placedBy (kind : BitVec 6) (st : PlStatus) : State :=
  { homed base with
    placement :=
      { base.placement with
        status := st
        reqX := 300
        reqY := -40
        ref := if st = .settled then none else some 3 }
    slots := { base.slots with views := if st = .settled then base.slots.views else base.slots.views.set 3 (.part kind 0x33 false .placement) } }

/-- H's placement move runs to 6000, V has settled. -/
def halfPlaced : State :=
  onAxis (placedBy 8 .moving) .h (fun x => { x with st := .moving, move := some (aMove .placement none 6000), target := 6000 })

/-- Axis H with no whole number of pixels within its limits. -/
def narrow (s : State) : State :=
  onAxis s .h (fun x => { x with cfg := { x.cfg with limits := (1, 19), homeValue := 5, park := 5 } })

theorem mayPlace_iff (s : State) (k : SlotId) (tag : BitVec 8) (h : s.placementRuns = true → s.placement.ref = some k
      ∧ s.view k = .part 8 tag false .placement) : s.MayPlace ↔
    (s.FreeToMove ∧ (s.axes.h.st ≠ .fault ∧ s.axes.v.st ≠ .fault) ∧ s.axes.h.homed = true ∧ s.axes.v.homed = true) :=
  ⟨fun m => ⟨m.toFreeToMove, ⟨m.noFault .h, m.noFault .v⟩, m.homed .h, m.homed .v⟩,
    fun ⟨f, n, x, y⟩ =>
      ⟨f, fun a => by cases a; exacts [n.1, n.2], fun a => by cases a; exacts [x, y],
        fun r => ⟨k, tag, false, (h r).1, (h r).2⟩⟩⟩

theorem notBusy (x : Axis) (h : x.move = none ∨ x.move.all (fun m => decide (m.kind = .placement)) = true) (q : x.queue = [])
    (st : x.st ≠ .stopping) : ¬ x.Busy := by
  rintro (⟨m, e, k⟩ | b | b)
  · rcases h with h | h
    · rw [h] at e; cases e
    · rw [e] at h
      have h := of_decide_eq_true h
      rw [h] at k
      rcases k with k | k <;> cases k
  · exact b q
  · exact st b

/-- A HOME_VALUE for H while a placement has settled, or has failed and is over. -/
def setupWhile (st : PlStatus) : State :=
  { filled (homed base) setupGood with placement := { base.placement with status := st } }

theorem test_premises_AxisSetup_detaches :
    ((setupWhile .settled).Ready ∧ (setupWhile .settled).Posted (post 3) setupGood ∧ (setupWhile .settled).placementHeld = false)
    ∧ ((setupWhile .failed).Ready ∧ (setupWhile .failed).Posted (post 3) setupGood ∧ (setupWhile .failed).placementHeld = false)
    ∧ (setupCandidate (base.axis .h).cfg setupGood).homeValue ≠ (base.axis .h).cfg.homeValue
    ∧ lengthOk .axisSetup setupPark = true
    ∧ (setupCandidate (base.axis .h).cfg setupPark).valid = true
    ∧ (let c := setupCandidate (base.axis .h).cfg setupPark
      c.encoder = (base.axis .h).cfg.encoder ∧ c.homeValue = (base.axis .h).cfg.homeValue
        ∧ c.limits = (base.axis .h).cfg.limits ∧ c.gainCenter = (base.axis .h).cfg.gainCenter) := by
  simp only [ready_iff, posted_iff]
  decide +kernel

theorem test_premises_PlaceAnswers_checks :
    ((filled (placedBy 11 .moving) place300).Ready ∧ (filled (placedBy 11 .moving) place300).Posted (post 2) place300
        ∧ (filled (placedBy 11 .moving) place300).FreeToMove
        ∧ (placedBy 11 .moving).placementRuns = true ∧ (placedBy 11 .moving).placement.ref = some 3
        ∧ (placedBy 11 .moving).view 3 = .part 11 0x33 false .placement)
    ∧ ((filled (homed (moving .moving direct)) place300).Ready
        ∧ (filled (homed (moving .moving direct)) place300).Posted (post 2) place300)
    ∧ ((filled (narrow (homed base)) place300).Ready ∧ (filled (narrow (homed base)) place300).Posted (post 2) place300
        ∧ ((narrow (homed base)).split .floor 300 (-40)).isNone = true)
    ∧ (filled (homed base) [1500, 0]).Posted (post 2) [1500, 0]
    ∧ staticOk .place [1500, 0] = true
    ∧ ((homed base).split .floor 1500 0).isSome = true
    ∧ ((homed base).split .floor 1500 0).all (fun sp => !meshValid ((homed base).splitMesh .floor sp)) = true
    ∧ ((filled halfPlaced [100, 0]).Ready ∧ (filled halfPlaced [100, 0]).Posted (post 2) [100, 0]
        ∧ halfPlaced.placementRuns = true ∧ halfPlaced.placement.ref = some 3
        ∧ halfPlaced.view 3 = .part 8 0x33 false .placement
        ∧ (halfPlaced.split .floor 100 0).all (fun sp => meshValid (halfPlaced.splitMesh .floor sp)) = true) := by
  simp only [ready_iff, posted_iff, freeToMove_iff]
  decide +kernel

theorem test_premises_PlaceAnswers_mayPlace :
    (filled (homed (moving .moving direct)) place300).MayPlace
    ∧ ((filled (homed (moving .moving direct)) place300).axis .h).Busy
    ∧ (filled (narrow (homed base)) place300).MayPlace
    ∧ (filled halfPlaced [100, 0]).MayPlace
    ∧ ∀ a, ¬ ((filled halfPlaced [100, 0]).axis a).Busy := by
  refine ⟨(mayPlace_iff _ 3 0x33 (fun h => absurd h (by decide +kernel))).2 ?_, Or.inl ⟨direct, by decide +kernel, by decide⟩,
    (mayPlace_iff _ 3 0x33 (fun h => absurd h (by decide +kernel))).2 ?_,
    (mayPlace_iff _ 3 0x33 (fun _ => by decide +kernel)).2 ?_, fun a => ?_⟩
  · simp only [freeToMove_iff]; decide +kernel
  · simp only [freeToMove_iff]; decide +kernel
  · simp only [freeToMove_iff]; decide +kernel
  · cases a <;> exact notBusy _ (by decide +kernel) (by decide +kernel) (by decide +kernel)

theorem test_premises_Orient :
    (filled base [orientationWord .ceiling]).Ready
    ∧ (filled base [orientationWord .ceiling]).Posted (post 1) [orientationWord .ceiling]
    ∧ base.placement.orientation = .floor
    ∧ base.placement.status = .detached
    ∧ (filled base [orientationWord .floor]).Posted (post 1) [orientationWord .floor]
    ∧ (filled placed [orientationWord .ceiling]).Ready
    ∧ (filled placed [orientationWord .ceiling]).Posted (post 1) [orientationWord .ceiling]
    ∧ placed.placementRuns = true := by
  simp only [ready_iff, posted_iff]
  decide +kernel

/-- ORIENT to CEILING is posted while a placement has settled. -/
def turning (s : State) : State := filled s [orientationWord .ceiling]

def settledAt (x : Int) : State :=
  { placedBy 8 .settled with placement := { (placedBy 8 .settled).placement with reqX := x } }

theorem test_premises_Orient_settled :
    (turning (settledAt 300)).MayPlace
    ∧ ((turning (settledAt 300)).Ready ∧ (turning (settledAt 300)).Posted (post 1) [orientationWord .ceiling]
        ∧ (settledAt 300).placement.status = .settled
        ∧ ((settledAt 300).axes.h.move = none ∧ (settledAt 300).axes.v.queue = [])
        ∧ ((settledAt 300).split .ceiling 300 (-40)).isSome = true
        ∧ ((settledAt 300).split .ceiling 300 (-40)).all (fun sp => meshValid ((settledAt 300).splitMesh .ceiling sp)) = true)
    ∧ ((turning (settledAt 1500)).Ready
        ∧ ((settledAt 1500).split .ceiling 1500 (-40)).isSome = true
        ∧ ((settledAt 1500).split .ceiling 1500 (-40)).all
            (fun sp => !meshValid ((settledAt 1500).splitMesh .ceiling sp)) = true)
    ∧ ((turning (narrow (settledAt 300))).Ready ∧ ((narrow (settledAt 300)).split .ceiling 300 (-40)).isNone = true)
    ∧ (onAxis (turning (settledAt 300)) .v (fun x => { x with st := .stopping })).Ready
    ∧ (onAxis (turning (settledAt 300)) .v (fun x => { x with homed := false })).Ready := by
  refine ⟨(mayPlace_iff _ 3 0x33 (fun h => absurd h (by decide +kernel))).2 ?_, ?_⟩
  · simp only [freeToMove_iff]; decide +kernel
  · simp only [ready_iff, posted_iff]; decide +kernel

def cornersGood : List Word := [packHalves 60 60, packHalves (-60) 60, packHalves 60 (-60), packHalves (-60) (-60)]
def keystoneGood : List Word := [40, 40]

theorem test_premises_CornerRecord :
    (filled base cornersGood).Ready
    ∧ (filled base cornersGood).Posted (post 4) cornersGood
    ∧ lengthOk .corners cornersGood = true
    ∧ staticOk .corners cornersGood = true
    ∧ base.placementRuns = false
    ∧ meshValid { base.meshParams with corners := cornersOfBody cornersGood } = true
    ∧ (filled base keystoneGood).Posted (post 2) keystoneGood
    ∧ lengthOk .keystone keystoneGood = true
    ∧ staticOk .keystone keystoneGood = true
    ∧ meshValid { base.meshParams with corners := keystoneCorners 40 40 } = true
    ∧ staticOk .keystone [240, 0xFFFFFFFF] = true
    ∧ meshValid { base.meshParams with corners := keystoneCorners 240 (-1) } = false
    ∧ base.mesh.st = .idle
    ∧ base.mesh.awaitRead = false
    ∧ base.mesh.mark base.mesh.target = .free := by
  simp only [ready_iff, posted_iff]
  decide +kernel

/-- A build is under way; the header of a KEYSTONE is on its way to memory. -/
def keystoneOnTheWay (st : MeshState) : State :=
  onPort
    { filled base keystoneGood with
      mesh := { base.mesh with st := st, snapshot := some { params := base.mesh.last, gen := 6, bank := .b } } }
    (.hostWrite (base.addrOf (slotOffset 2 0)) (postHeader 9 (post 2)) 0xF .post false) none

/-- The same, with the completion of slot 5 on the queue and its body in the buffer. -/
def keystoneBehind : State :=
  { (keystoneOnTheWay .flipPending).setView 5 (.part 3 0x77 false .completing) with
    path :=
      { (keystoneOnTheWay .flipPending).path with
        buffer := [{ offset := slotOffset 5 1, data := 9, producer := .slotBody }] }
    slots :=
      { ((keystoneOnTheWay .flipPending).setView 5 (.part 3 0x77 false .completing)).slots with
        queue := [{ slot := 5, result := { cls := .done, code := .ok }, body := [9] }]
        writer := { queued := 1, inBuffer := 1, dropped := false } } }

theorem test_premises_CornerRecord_building :
    ((keystoneOnTheWay .flipPending).HeaderOnTheWay 2 (postHeader 9 (post 2)) .post 10
        ∧ (keystoneOnTheWay .flipPending).CompletionsHeld
        ∧ (keystoneOnTheWay .flipPending).Posted (post 2) keystoneGood)
    ∧ (keystoneBehind.HeaderOnTheWay 2 (postHeader 9 (post 2)) .post 10 ∧ keystoneBehind.CompletionsHeld
        ∧ keystoneBehind.Posted (post 2) keystoneGood ∧ keystoneBehind.slots.queue ≠ []
        ∧ keystoneBehind.mesh.st = .flipPending)
    ∧ Kind.number .keystone = 9
    ∧ (placedBy 8 .moving).placementRuns = true
    ∧ ((filled { placedBy 8 .moving with placement := { (placedBy 8 .moving).placement with remX := 500 } } keystoneGood).Ready
        ∧ meshValid
            { corners := keystoneCorners 40 40, translation := { dx := 500, dy := 0 }, orientation := .floor } = false) := by
  simp only [headerOnTheWay_iff, completionsHeld_iff, ready_iff, posted_iff]
  decide +kernel

theorem test_premises_FanCurves :
    (filled base (orientationWord .floor :: fanWord .source :: channelIdWord .board :: natWord 2 :: [0x00320050, 0x00640078])).Ready
    ∧ (filled base (orientationWord .floor :: fanWord .source :: channelIdWord .board :: natWord 2 :: [0x00320050, 0x00640078])).Posted (post 6) (orientationWord .floor :: fanWord .source :: channelIdWord .board :: natWord 2 :: [0x00320050, 0x00640078])
    ∧ staticOk .fanCurve (orientationWord .floor :: fanWord .source :: channelIdWord .board :: natWord 2 :: [0x00320050, 0x00640078]) = true
    ∧ base.placement.orientation = .floor
    ∧ risingPoints [(0, 20), (10, 30), (20, 25)] = true
    ∧ risingPoints [(5, 0)] = true := by
  simp only [ready_iff, posted_iff]
  decide +kernel

theorem test_premises_ThresholdsReplaced :
    (filled base [channelIdWord .inlet, signedWord (-80), 81, 300, 2]).Ready
    ∧ (filled base [channelIdWord .inlet, signedWord (-80), 81, 300, 2]).Posted (post 5) [channelIdWord .inlet, signedWord (-80), 81, 300, 2]
    ∧ staticOk .thresholds [channelIdWord .inlet, signedWord (-80), 81, 300, 2] = true := by
  simp only [ready_iff, posted_iff]
  decide +kernel

def latched (o : Level) : State := { base with thermal := { base.thermal with overall := o, cutLatch := true } }

theorem test_premises_ThermalResume :
    (latched .warm).Ready
    ∧ (latched .warm).Posted (post 0) []
    ∧ (latched .hot).Ready
    ∧ (latched .hot).thermal.cutLatch = true
    ∧ base.Ready
    ∧ base.thermal.cutLatch = false
    ∧ base.Posted (post 0) []
    ∧ (filled base [1]).Posted (post 1) [1] := by
  simp only [ready_iff, posted_iff]
  decide +kernel

theorem test_premises_FanFloor :
    (filled base [fanWord .source, 100]).Ready
    ∧ (filled base [fanWord .source, 100]).Posted (post 2) [fanWord .source, 100]
    ∧ (filled standby [fanWord .source, 0]).Ready
    ∧ (filled standby [fanWord .source, 0]).Posted (post 2) [fanWord .source, 0] := by
  simp only [ready_iff, posted_iff]
  decide +kernel

def failedFan : State := base.setFan .exhaust { base.fans.exhaust with st := .failed, retries := 4, kickTimer := none }

theorem test_premises_FanReport :
    (filled failedFan [fanWord .exhaust, natWord (boolNat true)]).Ready
    ∧ (filled failedFan [fanWord .exhaust, natWord (boolNat true)]).Posted (post 2) [fanWord .exhaust, natWord (boolNat true)]
    ∧ (failedFan.fan .exhaust).st = .failed
    ∧ 0 < (failedFan.fan .exhaust).commanded
    ∧ (filled base [fanWord .exhaust, natWord (boolNat false)]).Posted (post 2) [fanWord .exhaust, natWord (boolNat false)] := by
  simp only [ready_iff, posted_iff]
  decide +kernel

theorem test_premises_PowerDown :
    (filled (homed base) [natWord (boolNat true)]).Ready
    ∧ (filled (homed base) [natWord (boolNat true)]).Posted (post 1) [natWord (boolNat true)]
    ∧ (homed base).power.mode = .run
    ∧ ((homed base).axis .h).st = .idle
    ∧ ((homed base).axis .v).queue = []
    ∧ base.placement.status ≠ .applying
    ∧ (filled (cooling 5) [natWord (boolNat false)]).Ready
    ∧ (filled (cooling 5) [natWord (boolNat false)]).Posted (post 1) [natWord (boolNat false)]
    ∧ (filled standby [natWord (boolNat false)]).Posted (post 1) [natWord (boolNat false)]
    ∧ (filled base [2]).Posted (post 1) [2] := by
  simp only [ready_iff, posted_iff]
  decide +kernel

/-- POWER_DOWN with its park flag set is posted in a state. -/
def downIn (s : State) : State := filled s [natWord (boolNat true)]

theorem test_premises_PowerDown_moving :
    ((downIn queuedMove).Ready ∧ (downIn queuedMove).Posted (post 1) [natWord (boolNat true)]
        ∧ (∀ q ∈ (queuedMove.axis .h).queue, q.slot ≠ 2) ∧ (queuedMove.axis .v).queue = []
        ∧ (queuedMove.axis .h).st.active = true)
    ∧ ((downIn (moving .stopping direct)).Ready
        ∧ (downIn (moving .stopping direct)).Posted (post 1) [natWord (boolNat true)]
        ∧ ((moving .stopping direct).axis .h).st = .stopping)
    ∧ ((downIn (placedBy 8 .applying)).Ready ∧ (downIn (placedBy 8 .applying)).Posted (post 1) [natWord (boolNat true)]
        ∧ (placedBy 8 .applying).placement.status = .applying ∧ (placedBy 8 .applying).placement.ref ≠ some 2) := by
  simp only [ready_iff, posted_iff]
  decide +kernel

theorem test_premises_PowerDown_mayPark : (downIn (homed base)).MayPark .h ∧ (downIn (homed base)).MayPark .v := by
  unfold State.MayPark
  decide +kernel

theorem test_premises_PowerDown_refusedParks :
    (downIn lost).ParkRefusal .h .hostLost ∧ (downIn locked).ParkRefusal .h .interlocked
    ∧ (downIn critical).ParkRefusal .h .thermalBlock ∧ (downIn faulted).ParkRefusal .h .axisFaulted
    ∧ (downIn base).ParkRefusal .v .notHomed :=
  ⟨.inl (by decide +kernel), .inr (.inl (by decide +kernel)), .inr (.inr (.inl (by decide +kernel))),
    .inr (.inr (.inr (by decide +kernel))), .inr (.inr (.inr (by decide +kernel)))⟩

theorem test_premises_PowerDown_refused :
    ∀ s ∈ [lost, locked, critical, faulted, base],
      readyCheck (downIn s) = true ∧ (downIn s).power.mode = .run ∧ (downIn s).body 2 1 = [natWord (boolNat true)]
        ∧ (downIn s).view 2 = .host := by decide +kernel

theorem test_premises_PowerUp :
    base.Ready
    ∧ base.Posted (post 0) []
    ∧ standby.Ready
    ∧ standby.Posted (post 0) []
    ∧ (cooling 5).Ready
    ∧ (cooling 5).Posted (post 0) []
    ∧ (cooling 5).power.ref = some 1
    ∧ (cooling 5).power.park.h ≠ .waiting
    ∧ (cooling 5).power.park.v ≠ .waiting := by
  simp only [ready_iff, posted_iff]
  decide +kernel

/-- A cool-down that waits for both parks: H runs its own, V holds it pending behind a move that is stopping. -/
def parking (elapsed : Nat) : State :=
  { cooling elapsed with
    power := { (cooling elapsed).power with park := { h := .waiting, v := .waiting } }
    axes :=
      { h := { base.axes.h with st := .moving, homed := true, move := some { aMove .park none 0 with limit := .near } }
        v := { base.axes.v with st := .stopping, homed := true, move := some (aMove .placement none 0), pendingPark := true } }
    budget := { base.budget with order := [.h, .v] } }

theorem test_premises_PowerUp_parks :
    (parking 5).Ready
    ∧ (parking 5).Posted (post 0) []
    ∧ (parking 5).power.ref = some 1
    ∧ ((parking 5).power.park.get .h = .waiting ∧ ((parking 5).axis .h).runsPark = true
        ∧ ((parking 5).axis .h).st.active = true)
    ∧ ((parking 5).power.park.get .v = .waiting ∧ ((parking 5).axis .v).pendingPark = true
        ∧ ((parking 5).axis .v).runsPark = false) := by
  simp only [ready_iff, posted_iff]
  decide +kernel

theorem test_premises_NoticeSetup :
    (filled base [255, 240]).Ready
    ∧ (filled base [255, 240]).Posted (post 2) [255, 240]
    ∧ (240 : Word).toNat % 16 = 0 := by
  simp only [ready_iff, posted_iff]
  decide +kernel

/-! ### Premises of the statements: encoders and moves -/

/-- A change of input A of axis H is being timed, with 1 microsecond left. -/
def timed : State := onAxis base .h (fun x => { x with enc := { x.enc with a := { raw := true, filtered := false, timing := some 1 } } })

def unfiltered : State := onAxis base .v (fun x => { x with cfg := { x.cfg with encoder := { x.cfg.encoder with filter := 0 } } })

/-- Axis H homes; the index level is being timed in the phase it is qualified in. -/
def indexed : State :=
  onAxis (moving .homing { aMove .home (some 1) 0 with limit := .creep }) .h (fun x =>
    { x with
      enc := { a := Initial.encInput true, b := Initial.encInput true, i := { raw := true, filtered := false, timing := some 1 } }
      searchTimer := some 12000 })

theorem test_premises_EncoderEdges :
    base.Quiet
    ∧ true ≠ (base.axis .h).enc.a.raw
    ∧ (base.axis .h).enc.a.timing = none
    ∧ (base.axis .h).cfg.encoder.filter ≠ 0
    ∧ timed.Quiet
    ∧ (timed.axis .h).enc.a.timing.isSome = true
    ∧ false ≠ (timed.axis .h).enc.a.raw
    ∧ (timed.axis .h).move = none
    ∧ unfiltered.Quiet
    ∧ (unfiltered.axis .v).cfg.encoder.filter = 0
    ∧ (unfiltered.axis .v).enc.a.timing = none
    ∧ (unfiltered.axis .v).st = .idle
    ∧ true ≠ (unfiltered.axis .v).enc.a.filtered := by
  simp only [quiet_iff]
  decide +kernel

/-- Axis H with a move whose tally is as given; input A is being timed, or is not filtered at all. -/
def noisy (m : Move) (filter : Nat) (timing : Option Nat) : State :=
  onAxis (moving (if m.kind = .home then .homing else .moving) m) .h (fun x =>
    { x with
      cfg := { x.cfg with encoder := { x.cfg.encoder with filter := filter } }
      enc := { x.enc with a := { x.enc.a with raw := timing.isSome, timing := timing } } })

theorem test_premises_EncoderEdges_noise :
    (∀ m ∈ [{ direct with tally := 62 }, { direct with tally := 63 }, { direct with tally := 63, noiseReported := true },
        { direct with tally := 63, result := some { cls := .done, code := .ok } }, { aMove .home (some 1) 0 with tally := 63 }],
      (quietCheck (noisy m 1 (some 1)) = true ∧ (noisy m 1 (some 1)).RingOpen ∧ ringCheck (noisy m 1 (some 1)) = true
        ∧ ((noisy m 1 (some 1)).axis .h).move = some m
        ∧ false ≠ ((noisy m 1 (some 1)).axis .h).enc.a.raw ∧ false = ((noisy m 1 (some 1)).axis .h).enc.i.raw
        ∧ false = ((noisy m 1 (some 1)).axis .h).enc.b.raw ∧ ((noisy m 1 (some 1)).axis .h).enc.a.timing.isSome = true)
      ∧ (quietCheck (noisy m 0 none) = true ∧ (noisy m 0 none).RingOpen ∧ ringCheck (noisy m 0 none) = true
        ∧ ((noisy m 0 none).axis .h).enc.a.timing = none ∧ ((noisy m 0 none).axis .h).enc.b.timing = none
        ∧ ((noisy m 0 none).axis .h).cfg.encoder.filter = 0 ∧ ((noisy m 0 none).axis .h).enc.i.filtered = false
        ∧ true ≠ ((noisy m 0 none).axis .h).enc.a.filtered ∧ true ≠ ((noisy m 0 none).axis .h).enc.b.filtered)) := by
  unfold State.RingOpen
  decide +kernel

theorem test_premises_FilterAccepts :
    timed.Quiet
    ∧ (timed.axis .h).st = .idle
    ∧ (timed.axis .h).enc.a.timing = some 1
    ∧ (timed.axis .h).enc.a.raw ≠ (timed.axis .h).enc.a.filtered
    ∧ indexed.Quiet
    ∧ (indexed.axis .h).st = .homing
    ∧ (indexed.axis .h).move = some { aMove .home (some 1) 0 with limit := .creep }
    ∧ (indexed.axis .h).enc.i = { raw := true, filtered := false, timing := some 1 }
    ∧ (indexed.axis .h).enc.a.filtered = (indexed.axis .h).cfg.encoder.phaseA
    ∧ (indexed.axis .h).enc.b.filtered = (indexed.axis .h).cfg.encoder.phaseB := by
  simp only [quiet_iff]
  decide +kernel

/-- The index is high, and a change of input A into its phase is being timed; the transition counts forward by one. -/
def indexedByTransition (st : AxisState) (m : Move) (position : Int) : State :=
  onAxis (moving st m) .h (fun x =>
    { x with
      counter := signedWord position
      enc := { a := { raw := true, filtered := false, timing := some 1 }, b := Initial.encInput false, i := Initial.encInput true }
      cfg := { x.cfg with encoder := { x.cfg.encoder with phaseB := false } }
      searchTimer := if st = .homing then some 12000 else none })

theorem test_premises_FilterAccepts_transition :
    (∀ s ∈ [indexedByTransition .homing { aMove .home (some 1) 0 with limit := .creep } (-300),
        indexedByTransition .moving direct 7, indexedByTransition .settling direct 8],
      quietCheck s = true ∧ s.RingOpen ∧ ringCheck s = true ∧ (s.axis .h).enc.i.filtered = true
        ∧ (s.axis .h).enc.a.timing = some 1 ∧ (s.axis .h).enc.a.raw ≠ (s.axis .h).enc.a.filtered
        ∧ (s.axis .h).enc.a.raw = (s.axis .h).cfg.encoder.phaseA ∧ (s.axis .h).enc.b.filtered = (s.axis .h).cfg.encoder.phaseB
        ∧ (s.axis .h).homed = true)
    ∧ countDelta .x4 (false, false) (true, false) = 1
    ∧ ((signedWord 7 + signedWord 1).toInt - (base.axis .h).cfg.homeValue).natAbs ≤ 2 * (base.axis .h).cfg.bands.2.2
    ∧ 2 * (base.axis .h).cfg.bands.2.2 < ((signedWord 8 + signedWord 1).toInt - (base.axis .h).cfg.homeValue).natAbs := by
  unfold State.RingOpen
  decide +kernel

theorem test_premises_MotionPeriod :
    (moving .moving direct).Quiet
    ∧ ((moving .moving direct).axis .h).st = .moving
    ∧ ((moving .moving direct).axis .h).move = some direct
    ∧ (moving .moving direct).budget.order = [.h]
    ∧ (base.axis .h).cfg.bands.2.2 < (direct.target - ((moving .moving direct).axis .h).counter.toInt).natAbs
    ∧ 16 ≤ (moving .moving direct).budget.capacity - (moving .moving direct).totalDraw
    ∧ direct.stallCount + 1 < 50
    ∧ ((bandClass (base.axis .h).cfg.bands 3000).slower direct.limit).slower ((moving .moving direct).thermalCap .directMove) ≠ .zero
    ∧ (moving .moving (aMove .directMove (some 1) 4)).Quiet
    ∧ (4 : Int).natAbs ≤ (base.axis .h).cfg.bands.2.2 := by
  simp only [quiet_iff]
  decide +kernel

theorem test_premises_MotionPeriod_hold (n : Nat) (h : n = 1998 ∨ n = 1999) :
    (squeezed { direct with holdTime := n }).Quiet
    ∧ ((squeezed { direct with holdTime := n }).axis .h).st = .moving
    ∧ ((squeezed { direct with holdTime := n }).axis .h).move = some { direct with holdTime := n }
    ∧ (squeezed { direct with holdTime := n }).budget.capacity = 40
    ∧ (squeezed { direct with holdTime := n }).AllotInv
    ∧ (squeezed { direct with holdTime := n }).budget.order = [otherAxis .h, .h]
    ∧ (squeezed { direct with holdTime := n }).budget.capacity - (squeezed { direct with holdTime := n }).totalDraw
        - ((squeezed { direct with holdTime := n }).budget.allot.get (otherAxis .h)).reserve < 4 := by
  simp only [quiet_iff]
  unfold State.AllotInv
  rcases h with rfl | rfl <;> decide +kernel

def homeMove : Move := { aMove .home (some 1) 0 with limit := .creep }

theorem test_premises_MotionPeriod_homing :
    ((moving .homing { homeMove with stallCount := 48 }).Quiet
        ∧ ((moving .homing { homeMove with stallCount := 48 }).axis .h).st = .homing
        ∧ (moving .homing { homeMove with stallCount := 48 }).budget.order = [.h]
        ∧ 4 ≤ (moving .homing homeMove).budget.capacity - (moving .homing homeMove).totalDraw)
    ∧ (let s := onAxis (squeezed { homeMove with holdTime := 1998 }) .h (fun x => { x with st := .homing })
      s.Quiet ∧ (s.axis .h).st = .homing ∧ (s.axis .h).move = some { homeMove with holdTime := 1998 } ∧ s.AllotInv
        ∧ s.budget.order = [otherAxis .h, .h]
        ∧ s.budget.capacity - s.totalDraw - (s.budget.allot.get (otherAxis .h)).reserve < 4) := by
  simp only [quiet_iff]
  unfold State.AllotInv
  decide +kernel

theorem test_premises_ClassesAndAllotments :
    (moving .moving direct).budget.order = [.h]
    ∧ ((2000, 200, 4) : Nat × Nat × Nat).1 < (2001 : Int).natAbs
    ∧ Class.zero.reserve ≤ base.budget.capacity - base.totalDraw
    ∧ (squeezed direct).budget.order = [otherAxis .h, .h]
    ∧ base.budget.order = [] := by decide +kernel

theorem test_premises_Stall :
    (moving .moving { direct with stallCount := 49 }).Ready
    ∧ (moving .moving { direct with stallCount := 49 }).RingOpen
    ∧ ((moving .moving { direct with stallCount := 49 }).axis .h).st = .moving
    ∧ ((moving .moving { direct with stallCount := 49 }).axis .h).move = some { direct with stallCount := 49 }
    ∧ ((moving .moving { direct with stallCount := 49 }).axis .h).queue = []
    ∧ ((moving .moving { direct with stallCount := 49 }).axis .h).counter = ((moving .moving { direct with stallCount := 49 }).axis .h).prevCount
    ∧ (moving .moving { direct with stallCount := 49 }).budget.order = [.h]
    ∧ 16 ≤ (moving .moving { direct with stallCount := 49 }).budget.capacity - (moving .moving { direct with stallCount := 49 }).totalDraw
    ∧ (base.axis .h).cfg.bands.2.2 < (direct.target - ((moving .moving direct).axis .h).counter.toInt).natAbs
    ∧ ((bandClass (base.axis .h).cfg.bands 3000).slower direct.limit).slower ((moving .moving { direct with stallCount := 49 }).thermalCap .directMove) = .far
    ∧ 0 < ((base.axis .h).cfg.duties (liftSet .h .floor true)).get .far := by
  simp only [ready_iff, State.RingOpen]
  decide +kernel

/-- The placement move of H is at its nineteenth settle period, at a position. -/
def placeSettling (position : Int) (corrections : Nat) (otherSettled : Bool) (other : AxisState) : State :=
  { placedBy 8 .moving with
    placement := { (placedBy 8 .moving).placement with settled := { h := false, v := otherSettled } }
    axes :=
      { h :=
          { (homed base).axes.h with
            st := .settling
            counter := signedWord position
            move := some { aMove .placement none 6000 with settleCount := 19, corrections := corrections } }
        v :=
          { (homed base).axes.v with
            st := other, move := if other = .idle then none else some (aMove .placement none (-800)) } } }

/-- The flip that the placement waits for is being drained. -/
def applying (needed : Half) : State :=
  { placedBy 8 .applying with
    placement := { (placedBy 8 .applying).placement with needed := needed }
    path := flipping.path
    mesh := flipping.mesh }

theorem test_premises_PlacementEnds :
    ((placeSettling 5996 0 true .idle).Ready ∧ (placeSettling 6004 0 false .moving).Ready
        ∧ (placeSettling 5995 3 false .moving).Ready ∧ (placeSettling 6005 3 true .idle).Ready)
    ∧ ((placeSettling 5996 0 true .idle).axis .h).st = .settling
    ∧ ((placeSettling 5996 0 true .idle).axis .h).move
        = some { aMove .placement none 6000 with settleCount := 19, corrections := 0 }
    ∧ (((placeSettling 5996 0 true .idle).axis .h).queue = [] ∧ ((placeSettling 5996 0 true .idle).axis .h).stopWait = []
        ∧ ((placeSettling 5996 0 true .idle).axis .h).pendingPark = false)
    ∧ (placeSettling 5996 0 true .idle).placement.status = .moving
    ∧ ((placeSettling 5996 0 true .idle).placement.ref = some 3
        ∧ (placeSettling 5996 0 true .idle).view 3 = .part 8 0x33 false .placement)
    ∧ ((6000 : Int) - (signedWord 5996).toInt).natAbs ≤ (base.axis .h).cfg.bands.2.2
    ∧ (base.axis .h).cfg.bands.2.2 < ((6000 : Int) - (signedWord 5995).toInt).natAbs
    ∧ (((placeSettling 5995 3 false .moving).axis .v).runsPlacement = true
        ∧ ((placeSettling 5995 3 false .moving).axis .v).st.active = true
        ∧ ((placeSettling 6005 3 true .idle).axis .v).runsPlacement = false) := by
  simp only [ready_iff]
  decide +kernel

theorem test_premises_PlacementEnds_flip :
    (applying 6).hold = .running
    ∧ (applying 6).path.host = none
    ∧ (applying 6).path.buffer = { offset := 0x103, data := selectorWord .b 6, producer := .meshSelector } :: []
    ∧ (applying 6).path.port = some { kind := .drain, left := 10 }
    ∧ ((applying 6).mesh.snapshot = some { params := base.mesh.last, gen := 6, bank := .b } ∧ (applying 6).mesh.waiting = []
        ∧ (applying 6).slots.queue = [] ∧ (applying 6).slots.writer = Initial.progress)
    ∧ ((applying 6).placement.ref = some 3 ∧ (applying 6).view 3 = .part 8 0x33 false .placement)
    ∧ (applying 6).placement.status = .applying
    ∧ ((6 : Half) - (applying 6).placement.needed).toNat < 32768
    ∧ 32768 ≤ ((6 : Half) - (applying 7).placement.needed).toNat := by decide +kernel

/-- Axis H at its nineteenth settle period, at a position. -/
def settling (position : Int) (corrections tally : Nat) : State :=
  onAxis (moving .settling { direct with settleCount := 19, corrections := corrections, tally := tally }) .h
    (fun x => { x with counter := signedWord position })

/-- Axis H in STOPPING with its result set, with one stop waiting. -/
def stopping (quiet stops : Nat) (prev : Word) : State :=
  onAxis (moving .stopping { direct with result := some { cls := .ended, code := .stopped }, quiet := quiet, stops := stops }) .h
    (fun x => { x with stopWait := [4], prevCount := prev })

theorem test_premises_SettleEnd :
    (settling 2996 0 63).Ready
    ∧ (settling 3004 0 64).Ready
    ∧ (settling 2995 3 0).Ready
    ∧ (settling 3005 2 0).Ready
    ∧ ((settling 2996 0 63).axis .h).st = .settling
    ∧ ((settling 2996 0 63).axis .h).queue = []
    ∧ ((settling 2996 0 63).axis .h).stopWait = []
    ∧ ((settling 2996 0 63).axis .h).pendingPark = false
    ∧ ((settling 2996 0 63).axis .h).move = some { direct with settleCount := 19, corrections := 0, tally := 63 }
    ∧ (direct.target - ((settling 2996 0 63).axis .h).counter.toInt).natAbs ≤ (base.axis .h).cfg.bands.2.2
    ∧ (base.axis .h).cfg.bands.2.2 < (direct.target - ((settling 3005 2 0).axis .h).counter.toInt).natAbs := by
  simp only [ready_iff]
  decide +kernel

theorem test_premises_StoppingEnds :
    (stopping 9 9 0).Ready
    ∧ ((stopping 9 9 0).axis .h).st = .stopping
    ∧ ((stopping 9 9 0).axis .h).counter = ((stopping 9 9 0).axis .h).prevCount
    ∧ ((stopping 9 9 0).axis .h).queue = []
    ∧ ((stopping 9 9 0).axis .h).pendingPark = false
    ∧ ((stopping 9 9 0).axis .h).move = some { direct with result := some { cls := .ended, code := .stopped }, quiet := 9, stops := 9 }
    ∧ ((stopping 0 499 7).Ready ∧ (stopping 0 499 7).RingOpen
        ∧ ((stopping 0 499 7).axis .h).counter ≠ ((stopping 0 499 7).axis .h).prevCount)
    ∧ ((stopping 8 499 0).Ready ∧ (stopping 8 499 0).RingOpen
        ∧ ((stopping 8 499 0).axis .h).counter = ((stopping 8 499 0).axis .h).prevCount) := by
  simp only [ready_iff, State.RingOpen]
  decide +kernel

/-- Axis H homes from 0 and has come to a position; a change of input A that counts back by one is being timed. -/
def travelling (position : Int) : State :=
  onAxis (moving .homing { aMove .home (some 1) 0 with limit := .creep }) .h (fun x =>
    { x with
      counter := signedWord position
      homed := false
      enc := { x.enc with a := { raw := true, filtered := false, timing := some 1 }, b := Initial.encInput true }
      searchTimer := some 12000 })

/-- Axis H moves homed at a position; the index level is being timed in the phase it is qualified in. -/
def slipping (position : Int) : State :=
  onAxis (moving .moving direct) .h (fun x =>
    { x with
      counter := signedWord position
      enc := { a := Initial.encInput true, b := Initial.encInput true, i := { raw := true, filtered := false, timing := some 1 } } })

theorem test_premises_HomeTimeout :
    (indexed.Quiet ∧ (indexed.axis .h).st = .homing ∧ (indexed.axis .h).searchTimer = some 12000)
    ∧ ((travelling (-48000)).Quiet ∧ (travelling (-47999)).Quiet
        ∧ ((travelling (-48000)).axis .h).st = .homing
        ∧ ((travelling (-48000)).axis .h).enc.i.filtered = false
        ∧ ((travelling (-48000)).axis .h).enc.a.timing = some 1
        ∧ ((travelling (-48000)).axis .h).enc.a.raw ≠ ((travelling (-48000)).axis .h).enc.a.filtered
        ∧ countDelta .x4 (false, true) (true, true) = -1
        ∧ ((base.axis .h).cfg.encoder.mode = .x4 ∧ (base.axis .h).cfg.encoder.homePositive = false
            ∧ (base.axis .h).cfg.span = 48000)
        ∧ (48000 : Int) < (0 : Word).toInt - (((travelling (-48000)).axis .h).counter + signedWord (-1)).toInt
        ∧ (0 : Word).toInt - (((travelling (-47999)).axis .h).counter + signedWord (-1)).toInt ≤ (48000 : Int))
    ∧ ((slipping 8).Quiet ∧ (slipping 9).Quiet ∧ (slipping 9).RingOpen ∧ (slipping 9).RingInv
        ∧ ((slipping 9).axis .h).st = .moving ∧ ((slipping 9).axis .h).homed = true
        ∧ ((slipping 9).axis .h).enc.i = { raw := true, filtered := false, timing := some 1 }
        ∧ ((slipping 9).axis .h).enc.a.filtered = ((slipping 9).axis .h).cfg.encoder.phaseA
        ∧ ((slipping 9).axis .h).enc.b.filtered = ((slipping 9).axis .h).cfg.encoder.phaseB
        ∧ (((slipping 8).axis .h).counter.toInt - (base.axis .h).cfg.homeValue).natAbs ≤ 2 * (base.axis .h).cfg.bands.2.2
        ∧ 2 * (base.axis .h).cfg.bands.2.2 < (((slipping 9).axis .h).counter.toInt - (base.axis .h).cfg.homeValue).natAbs) := by
  simp only [quiet_iff, ringInv_iff]
  unfold State.RingOpen
  decide +kernel

/-! ### Premises of the statements: lines, fans, temperatures, timers -/

theorem test_premises_LineEdges :
    base.Ready
    ∧ base.RingOpen
    ∧ base.pins.interlock = false
    ∧ base.pins.supplyLow = false
    ∧ locked.Ready
    ∧ locked.RingOpen
    ∧ locked.pins.interlock = true
    ∧ ({ base with pins := { base.pins with supplyLow := true } } : State).Ready
    ∧ (moving .moving direct).Ready := by
  simp only [ready_iff, State.RingOpen]
  decide +kernel

/-- The exhaust fan runs at 60 with a demand of 40; its windows and its clean timer run. -/
def running (retries : Nat) : State :=
  base.setFan .exhaust
    { base.fans.exhaust with
      st := .run
      commanded := 60
      drive := 60
      kickTimer := none
      tachWindow := some 0
      cleanTimer := some 10000
      retries := retries
      capValid := true }

theorem test_premises_FanTickAndTimers :
    base.Quiet
    ∧ (base.fan .intake).kickTimer = some 500
    ∧ (running 2).Quiet
    ∧ ((running 2).fan .exhaust).cleanTimer = some 10000
    ∧ ¬ ((running 2).fan .exhaust).commanded ≤ ((running 2).fan .exhaust).demand := by
  simp only [quiet_iff]
  decide +kernel

/-- A number of ms after the release of power-on reset. -/
def afterMs (ms : Nat) : State := base.passMs ms

theorem test_premises_FanTickAndTimers_seconds :
    (∀ ms ∈ [0, 1, 999, 1000, 1001], quietCheck (afterMs ms) = true ∧ (afterMs ms).ClockInv ∧ (afterMs ms).OnSeconds
      ∧ (afterMs ms).hold ≠ .powerOn ∧ (afterMs ms).clock.uptime.toNat + (afterMs ms).clock.fanTick < 2 ^ 32)
    ∧ (afterMs 1).clock.uptime.toNat + ((afterMs 1).clock.usInMs + 4294967294999) / 1000 < 2 ^ 32 := by
  unfold State.ClockInv State.OnSeconds
  decide +kernel

theorem test_premises_Tachometer :
    (running 2).Quiet
    ∧ ((running 2).fan .exhaust).capValid = true
    ∧ (base.fan .exhaust).capValid = false
    ∧ (running 2).Ready
    ∧ (running 3).Ready
    ∧ (running 3).RingOpen
    ∧ ((running 3).fan .exhaust).tachWindow = some 0
    ∧ 0 + (400000 : Word).toNat ≤ 400000
    ∧ 400000 < 0 + (400001 : Word).toNat
    ∧ ((running 3).fan .exhaust).st = .run
    ∧ ((running 3).fan .exhaust).retries = 3
    ∧ 0 < ((running 2).fan .exhaust).commanded
    ∧ ((running 2).clock.usTimer + 499 - ((running 2).fan .exhaust).capTime).toNat < 500
    ∧ 500 ≤ ((running 2).clock.usTimer + 500 - ((running 2).fan .exhaust).capTime).toNat := by
  simp only [ready_iff, quiet_iff, State.RingOpen]
  decide +kernel

/-- STANDBY with the fans at rest. -/
def resting : State :=
  { standby with fans := { intake := Initial.fan, exhaust := Initial.fan, source := Initial.fan } }

theorem test_premises_Temperatures :
    (base.Quiet ∧ base.power.mode = .run ∧ base.RingOpen ∧ base.RingInv)
    ∧ (Initial.thresholds .inlet).warm < (Initial.thresholds .inlet).hot
    ∧ (Initial.thresholds .inlet).hot < (Initial.thresholds .inlet).critical
    ∧ 0 ≤ (Initial.thresholds .inlet).hyst
    ∧ ((cooledDown 60000).Ready ∧ (cooledDown 60000).power.mode = .cooldown ∧ (cooledDown 60000).power.ref = some 1
        ∧ (cooledDown 60000).power.park.h ≠ .waiting ∧ (cooledDown 60000).power.park.v ≠ .waiting)
    ∧ after (cooledDown 60000) (.temperatureReading .source 90) (fun t => ((t.channel .source).reading, t.highestLevel))
        = some (90, .normal)
    ∧ after (cooledDown 60000) (.temperatureReading .source 91) (fun t => ((t.channel .source).reading, t.power.mode))
        = some (91, .cooldown)
    ∧ (resting.Quiet ∧ resting.power.mode = .standby)
    ∧ after resting (.temperatureReading .inlet 80) (fun t => (t.highestLevel, t.power.kind)) = some (.hot, .recool)
    ∧ after resting (.temperatureReading .inlet 79) (fun t => (t.highestLevel, t.power.mode)) = some (.warm, .standby) := by
  simp only [ready_iff, quiet_iff, ringInv_iff]
  unfold State.RingOpen
  decide +kernel

/-- A first reading has not been seen: the blind duty is the largest term of the demand. -/
theorem test_premises_demandTerm : base.DemandTerm .intake 40 ∧ ∀ v, base.DemandTerm .intake v → v ≤ 40 := by
  constructor
  · exact .inr (.inr (.inr (.inr (.inr (.inr (.inr (.inr (.inr ⟨by decide +kernel, rfl⟩))))))))
  · intro v h
    unfold State.DemandTerm at h
    rcases h with h | h | h | h | h | h | h | h | h | h
    · subst h; decide +kernel
    · subst h; decide +kernel
    all_goals first
      | (obtain ⟨_, rfl⟩ := h; decide)
      | exact absurd h.1 (by decide +kernel)

def armed : State := { moving .moving direct with thermal := { base.thermal with hb := .armed, hbTimer := some 2000 } }

theorem test_premises_HeartbeatTimeout :
    armed.Ready
    ∧ armed.RingOpen
    ∧ armed.thermal.hb = .armed
    ∧ armed.thermal.hbTimer = some 2000
    ∧ (armed.axis .h).st.active = true
    ∧ (armed.axis .v).st.active = false := by
  simp only [ready_iff, State.RingOpen]
  decide +kernel

def hotSource (s : State) : State :=
  { s with thermal := { s.thermal with channels := { s.thermal.channels with source := { s.thermal.channels.source with reading := 91 } } } }

def hotPanel (s : State) : State :=
  { s with thermal := { s.thermal with channels := { s.thermal.channels with panel := { s.thermal.channels.panel with level := .hot } } } }

theorem test_premises_CooldownClock :
    ((hotSource (cooling 60000)).Quiet ∧ (hotSource (cooling 60000)).ClockInv
        ∧ (hotSource (cooling 60000)).power.mode = .cooldown ∧ (hotSource (cooling 60000)).power.minMet = false
        ∧ 90 < (hotSource (cooling 60000)).thermal.channels.source.reading)
    ∧ ((cooling 60000).Ready ∧ (cooling 60000).ClockInv ∧ (cooling 60000).power.ref = some 1
        ∧ (cooling 60000).power.park.h ≠ .waiting ∧ (cooling 60000).power.park.v ≠ .waiting
        ∧ (cooling 60000).highestLevel.rank < Level.hot.rank
        ∧ (cooling 60000).thermal.channels.source.reading ≤ 90 ∧ (cooling 60000).thermal.channels.source.fault = false)
    ∧ ((cooling 300000).Ready ∧ (cooling 300000).power.elapsed ≤ 300000)
    ∧ ((hotPanel (cooling 300000)).Ready ∧ Level.hot.rank ≤ (hotPanel (cooling 300000)).highestLevel.rank
        ∧ (hotPanel (cooling 300000)).thermal.channels.source.reading ≤ 90) := by
  simp only [ready_iff, quiet_iff]
  unfold State.ClockInv
  decide +kernel

theorem test_premises_CooldownClock_parks :
    (parking 299999).Ready
    ∧ (parking 299999).ClockInv
    ∧ (parking 299999).power.ref = some 1
    ∧ (parking 299999).power.elapsed ≤ 300000
    ∧ ((parking 299999).power.park.h = .waiting ∧ (parking 299999).power.park.v = .waiting) := by
  simp only [ready_iff]
  unfold State.ClockInv
  decide +kernel

/-- Bank B retires; the generator waits for it. -/
def retiring : State :=
  { base with mesh := { base.mesh with markB := .retiring, retireTimer := some 100, st := .waitRetire, dirty := true } }

theorem test_premises_RetiringBankIsFreed :
    retiring.Ready
    ∧ retiring.RingOpen
    ∧ retiring.mesh.retireTimer = some 100
    ∧ retiring.mesh.mark .b = .retiring
    ∧ retiring.mesh.st = .waitRetire
    ∧ retiring.mesh.mark retiring.mesh.target = .retiring
    ∧ retiring.mesh.awaitRead = false
    ∧ retiring.mesh.dirty = true := by
  simp only [ready_iff, State.RingOpen]
  decide +kernel

/-- The reset-time read holds the port, and memory holds the selector of bank B, generation 0203. -/
def reading : State :=
  onPort { base with mem := Memory.writeWord [] (wordBase (base.addrOf 0x103)) 0x00020302 0xF, mesh := State.reset.mesh } .selector none

theorem test_premises_SelectorNames :
    (reading.hold = .running ∧ reading.path.port = some { kind := .selector, left := 10 }
        ∧ readSelector (Memory.readWord reading.mem (wordBase (reading.addrOf 0x103))) = some (.b, 0x0203))
    ∧ (State.reset.path.port = some { kind := .selector, left := 10 } ∧ State.reset.path.buffer ≠ []
        ∧ readSelector (Memory.readWord State.reset.mem (wordBase (State.reset.addrOf 0x103))) = none
        ∧ State.reset.mesh.st = .idle ∧ State.reset.mesh.dirty = true) := by decide +kernel

theorem test_premises_invariants :
    Memory.wf reading.mem = true
    ∧ reading.mem ≠ []
    ∧ stackRises [.thermal, .axisH, .event] = true
    ∧ (buffered.path.buffer.length ≤ Config.bufferSize ∧ buffered.path.streak ≤ Config.streakLimit ∧ buffered.path.refusals ≤ Config.countCap)
    ∧ base.nextAction.isNone = true
    ∧ base.budget.allot = base.allotNow := by decide +kernel

theorem test_premises_MeshNodes :
    base.mesh.last.orientation = .floor
    ∧ ({ base.mesh.last with orientation := .ceiling } : MeshParams).orientation = .ceiling
    ∧ (8 ≤ 8 ∧ 6 ≤ 6) := by decide +kernel

theorem test_premises_StandbyInv : resting.StandbyInv ∧ resting.release = true :=
  ⟨fun _ f => by cases f <;> decide +kernel, by decide +kernel⟩

theorem test_premises_AllotInv : (moving .moving direct).AllotInv := by
  unfold State.AllotInv; decide +kernel

theorem test_premises_RingInv : fourEvents.RingInv := by
  unfold State.RingInv; decide +kernel

theorem test_premises_PathInv : buffered.PathInv := by
  unfold State.PathInv; decide +kernel

theorem test_premises_QuietInv : base.QuietInv ∧ base.hold = .running :=
  ⟨fun _ => by decide +kernel, by decide +kernel⟩

/-- A request behind every holder: slot 1 runs on H, 2 waits behind it, 3 places, 4 stops H, 5 completes, 6 waits for a flip, and the
header of slot 7 is on its way. -/
def owned : State :=
  let views :=
    ((((base.slots.views.set 1 (.part 3 0x21 false (.axisRunning .h))).set 2 (.part 2 0x5A false (.axisQueue .h))).set 3
      (.part 8 0x33 false .placement)).set 4 (.part 5 0x44 false (.stopWait .h))).set 5 (.part 3 0x77 false .completing)
  { onAxis (moving .stopping direct) .h (fun x => { x with queue := [{ slot := 2, req := .home }], stopWait := [4] }) with
    placement := { base.placement with status := .moving, ref := some 3 }
    mesh := { base.mesh with waiting := [{ slot := 6, needed := 6 }] }
    slots :=
      { base.slots with
        views := views.set 6 (.part 9 0x66 false .meshWait)
        queue := [{ slot := 5, result := { cls := .done, code := .ok }, body := [9] }]
        writer := { queued := 1, inBuffer := 1, dropped := false } }
    path :=
      { base.path with
        buffer := [{ offset := slotOffset 5 1, data := 9, producer := .slotBody }]
        port := some { kind := .hostWrite (base.addrOf (slotOffset 7 0)) 0x81000000 0xF .post false, left := 4 } } }

theorem test_premises_SlotInv : owned.SlotInv ∧ (cooling 5).SlotInv ∧ base.SlotInv :=
  ⟨slotInv_of _ (by decide +kernel), slotInv_of _ (by decide +kernel), slotInv_of _ (by decide +kernel)⟩

/-- The claim for P = 0 that the release of RESET makes is served at once, so the state after reset lists it as queued. -/
theorem test_reset_invariants : State.reset.RingInv ∧ State.reset.AllotInv ∧ State.reset.PathInv ∧ State.reset.SlotInv := by
  refine ⟨?_, ?_, ?_, slotInv_of _ (by decide +kernel)⟩
  · unfold State.RingInv; decide +kernel
  · unfold State.AllotInv; decide +kernel
  · unfold State.PathInv; decide +kernel

/-! ### One step of each command -/

theorem test_powerOnReset :
    after base (.powerOnReset
        { straps := { region := 5, orient := .ceiling }
          supplyLow := true
          interlock := true
          encH := { a := true, b := false, i := false }
          encV := { a := false, b := false, i := false } })
      (fun t => (t.hold, t.path.region, t.budget.capacity, t.placement.orientation, t.pins.interlock, t.mesh.awaitRead))
      = some (.powerOn, 5, 40, .ceiling, true, true) := by decide +kernel
theorem test_systemReset :
    after (onAxis (moving .moving direct) .h (fun x => { x with counter := 77 })) (.systemReset { region := 2, orient := .floor })
      (fun t => (t.hold, (t.axis .h).st, (t.axis .h).counter, (t.fan .intake).drive, t.view 1))
      = some (.system, .idle, 77, 0, .host) := by decide +kernel
theorem test_resetRelease :
    after (State.reset.powerOn
        { straps := { region := 0, orient := .floor }
          supplyLow := false
          interlock := false
          encH := { a := false, b := false, i := false }
          encV := { a := false, b := false, i := false } }) .resetRelease id = some State.reset := by decide +kernel
theorem test_hostRead_live :
    after base (.hostRead 0x00FFC820) (fun t => (t.path.reply, t.path.port)) = some (some (.readData 0), none) := by decide +kernel
theorem test_hostRead_memory :
    after base (.hostRead 0x00FFC408) (fun t => (t.path.reply, t.path.port))
      = some (none, some { kind := .hostRead 0x00FFC408, left := 10 }) := by decide +kernel
theorem test_hostWrite_refused :
    after base (.hostWrite 0x00FFC40C 0x12345678 3)
      (fun t => (t.path.refusals, t.path.lastRefused, t.path.buffer.map Entry.data, t.path.buffer.map Entry.offset))
      = some (1, 0x103, [0x00008103, 0x12345678, 3, 0, 1], [0x80, 0x81, 0x82, 0x83, 0x100]) := by decide +kernel
theorem test_memoryAnswer_write :
    after (onPort base (.hostWrite 0x00FFC410 0xAABBCCDD 0x6 .plain false) none) .memoryAnswer
      (fun t => (t.mem, t.path.port, t.path.reply)) = some ([(0xFFC411, 0xCC), (0xFFC412, 0xBB)], none, some .writeDone) := by
  decide +kernel
theorem test_memoryTimeout_read :
    after (onPort base (.hostRead 0x00FFC408) (some (.read 0x00FFC408))) .memoryTimeout
      (fun t => (t.path.reply, t.path.host, t.path.buffer.map Entry.data))
      = some (some (.readData 0xFFFFFFFF), none, [0x0000A102, 0, 0x00FFC408, 0, 1]) := by decide +kernel
theorem test_pairLowRead :
    after (onAxis base .v (fun x => { x with counter := 0xFFFFFFFE, posTime := 0x55 })) (.pairLowRead .positionV)
      (fun t => (t.path.reply, t.path.holds.positionV, t.path.holds.positionH))
      = some (some (.readData 0xFFFFFFFE), some 0x55, none) := by decide +kernel
theorem test_acknowledge :
    after (noticed 0x81 0x81 [.mesh]) .acknowledge (fun t => (t.path.reply, t.notice.pend, t.notice.stack))
      = some (some (.readData 0x30), 0x80, [.thermal, .mesh]) := by decide +kernel
theorem test_acknowledge_spurious :
    after (noticed 0x80 0x80 [.mesh]) .acknowledge (fun t => (t.path.reply, t.notice.pend, t.notice.stack))
      = some (some (.readData 0x3F), 0x80, [.mesh]) := by decide +kernel
theorem test_endOfService :
    after (noticed 0x81 0x81 [.thermal, .mesh]) (.endOfService 9 0xF) (fun t => (t.notice.pend, t.notice.stack, t.path.port))
      = some (0x81, [.mesh], none) := by decide +kernel
theorem test_abort_queued :
    after (onAxis (held (moving .moving direct) 2 (.axisQueue .h)) .h (fun x => { x with queue := [{ slot := 2, req := .home }] }))
        (.abort 2 { post 1 with abort := true })
      (fun t => ((t.axis .h).queue, (t.axis .h).st, t.slots.queue))
      = some ([], .moving, [{ slot := 2, result := { cls := .ended, code := .aborted }, body := [0] }]) := by decide +kernel
theorem test_nop :
    after base (.nop (post 0)) (fun t => (t.view 2, t.shadowWord 2 0, t.path.buffer.map Entry.offset))
      = some (.host, 0x015A0400, [0x20]) := by decide +kernel
theorem test_axisHome :
    after (filled base [1]) (.axisHome (post 1))
      (fun t => ((t.axis .v).st, (t.axis .v).searchTimer, t.view 2, t.budget.order, t.budget.desire.v))
      = some (.homing, some 12000, .part 2 0x5A false (.axisRunning .v), [.v], .creep) := by decide +kernel
theorem test_axisHome_badLength :
    after (filled base [1, 2]) (.axisHome (post 2)) (fun t => ((t.axis .v).st, t.shadowWord 2 0))
      = some (.idle, 0x025A0804) := by decide +kernel
theorem test_axisMoveTo :
    after (filled (homed base) [0, 3000, 0]) (.axisMoveTo (post 3)) (fun t => ((t.axis .h).st, (t.axis .h).target, t.budget.order))
      = some (.moving, 3000, [.h]) := by decide +kernel
theorem test_axisMoveTo_not_homed :
    after (filled base [0, 3000, 0]) (.axisMoveTo (post 3)) (fun t => t.slots.queue.map (fun c => (c.result, c.body)))
      = some [({ cls := .refused, code := .notHomed }, [0])] := by decide +kernel
theorem test_axisMoveBy_out_of_range :
    after (filled (homed base) [0, 0xFFFFB1DF, 0]) (.axisMoveBy (post 3)) (fun t => t.slots.queue.map Completion.result)
      = some [{ cls := .refused, code := .outOfRange }] := by decide +kernel
theorem test_axisMoveBy :
    after (filled (homed base) [0, 0xFFFFB1E0, 2]) (.axisMoveBy (post 3)) (fun t => ((t.axis .h).st, (t.axis .h).target))
      = some (.moving, -20000) := by decide +kernel
theorem test_axisStop :
    after (filled (moving .moving direct) [0]) (.axisStop (post 1))
      (fun t => ((t.axis .h).st, (t.axis .h).stopWait, (t.axis .h).move.map Move.result))
      = some (.stopping, [2], some (some { cls := .ended, code := .stopped })) := by decide +kernel
theorem test_axisReport_clears_fault :
    after (filled faulted [0, 1]) (.axisReport (post 2)) (fun t => ((t.axis .h).st, (t.slots.queue.map Completion.body).map List.length))
      = some (.idle, [7]) := by decide +kernel
theorem test_axisSetup_home_value :
    after (filled (homed base) setupGood) (.axisSetup (post 3))
      (fun t => ((t.axis .h).cfg.homeValue, (t.axis .h).homed, (t.axis .v).homed, t.slots.queue.map Completion.body))
      = some (500, false, true, [[2]]) := by decide +kernel
theorem test_place :
    after (filled (homed base) [300, 0xFFFFFFD8]) (.place (post 2))
      (fun t => (t.placement.status, (t.axis .h).st, (t.axis .v).st, t.placement.targets))
      = some (.moving, .moving, .moving, { h := 6000, v := -800 }) := by decide +kernel
theorem test_orient :
    after (filled base [1]) (.orient (post 1)) (fun t => (t.placement.orientation, t.mesh.waiting, t.mesh.st))
      = some (.ceiling, [{ slot := 2, needed := 6 }], .building) := by decide +kernel
theorem test_keystone_negative :
    after (filled base [0xFFFFFFFF, 0]) (.keystone (post 2)) (fun t => (t.mesh.corners, t.shadowWord 2 0))
      = some (Initial.zeroCorners, 0x095A080B) := by decide +kernel
theorem test_corners :
    after (filled base cornersGood) (.corners (post 4)) (fun t => (t.mesh.corners.br, t.view 2, t.mesh.st, t.path.buffer.length))
      = some ({ dx := -60, dy := -60 }, .part 10 0x5A false .meshWait, .building, 16) := by decide +kernel
theorem test_fanCurve :
    after (filled base [0, 2, 2, 2, 0x00320050, 0x00640078]) (.fanCurve (post 6))
      (fun t => (t.thermal.curvesFloor.source, t.slots.queue.map Completion.body))
      = some ({ channel := .board, points := [(80, 50), (120, 100)] }, [[0]]) := by decide +kernel
theorem test_thresholds :
    after (filled base [3, 0xFFFFFFB0, 81, 300, 2]) (.thresholds (post 5))
      (fun t => ((t.channel .inlet).thr, t.slots.queue.map Completion.body))
      = some ({ warm := -80, hot := 81, critical := 300, hyst := 2 }, [[0]]) := by decide +kernel
theorem test_thermalResume :
    after (latched .warm) (.thermalResume (post 0)) (fun t => (t.thermal.cutLatch, t.cut, t.slots.queue.map Completion.result))
      = some (false, false, [{ cls := .done, code := .ok }]) := by decide +kernel
theorem test_fanFloor :
    after (filled base [2, 75]) (.fanFloor (post 2))
      (fun t => ((t.fan .source).floor, (t.fan .source).commanded, t.slots.queue.map Completion.body)) = some (75, 75, [[75, 75]]) := by
  decide +kernel
theorem test_fanReport_clears_failed :
    after (filled failedFan [1, 1]) (.fanReport (post 2))
      (fun t => ((t.fan .exhaust).st, (t.fan .exhaust).retries, t.slots.queue.map Completion.body)) = some (.kick, 0, [[3, 40, 0, 4]]) := by
  decide +kernel
theorem test_powerDown :
    after (filled base [0]) (.powerDown (post 1))
      (fun t => (t.power.mode, t.cut, t.release, (t.fan .intake).commanded, t.power.ref)) = some (.cooldown, true, false, 60, some 2) := by
  decide +kernel
theorem test_powerUp_cancels :
    after (cooling 5) (.powerUp (post 0)) (fun t => (t.power.mode, t.slots.queue.map (fun c => (c.slot, c.result))))
      = some (.run, [(1, { cls := .ended, code := .cancelled }), (2, { cls := .done, code := .ok })]) := by decide +kernel
theorem test_noticeSetup :
    after (filled base [0xFF, 0x30]) (.noticeSetup (post 2)) (fun t => (t.notice.enable, t.notice.base)) = some (0xFF, 0x30) := by
  decide +kernel
theorem test_encoderEdge :
    after base (.encoderEdge .h { a := true, b := false, i := false }) (fun t => ((t.axis .h).enc.a, (t.axis .h).counter))
      = some ({ raw := true, filtered := false, timing := some 1 }, 0) := by decide +kernel
theorem test_filterAccept :
    after timed (.filterAccept .h { a := true, b := false, i := false }) (fun t => ((t.axis .h).enc.a, (t.axis .h).counter))
      = some ({ raw := true, filtered := true, timing := none }, 1) := by decide +kernel
theorem test_motionPeriod :
    after (moving .moving direct) (.motionPeriod .h)
      (fun t => ((t.axis .h).drive.positive, (t.axis .h).drive.duty, t.budget.allot.h, t.clock.uptime)) = some (true, 90, .far, 1) := by
  decide +kernel
theorem test_stall :
    after (moving .moving { direct with stallCount := 49 }) (.stall .h)
      (fun t => ((t.axis .h).st, t.slots.queue.map (fun c => (c.result, c.body))))
      = some (.fault, [({ cls := .ended, code := .stall }, [0, 3000, 0, 0, 0])]) := by decide +kernel
theorem test_budgetTimeout :
    after (squeezed { direct with holdTime := 1999 }) (.budgetTimeout .h)
      (fun t => ((t.axis .h).st, (t.axis .h).move.map Move.result))
      = some (.stopping, some (some { cls := .ended, code := .budgetTimeout })) := by decide +kernel
theorem test_settleEnd :
    after (settling 2996 0 64) (.settleEnd .h) (fun t => ((t.axis .h).st, t.slots.queue.map (fun c => (c.result, c.body))))
      = some (.idle, [({ cls := .done, code := .okNoisy }, [2996, 3000, 0, 0, 64])]) := by decide +kernel
theorem test_stoppingEnd :
    after (stopping 9 9 0) (.stoppingEnd .h) (fun t => ((t.axis .h).st, t.slots.queue.map (fun c => (c.slot, c.result))))
      = some (.idle, [(1, { cls := .ended, code := .stopped }), (4, { cls := .done, code := .ok })]) := by decide +kernel
theorem test_stopSlow :
    after (stopping 0 499 7) (.stopSlow .h) (fun t => ((t.axis .h).st, t.events.p)) = some (.idle, 1) := by decide +kernel
theorem test_homeTimeout :
    after indexed (.homeTimeout .h) (fun t => ((t.axis .h).st, (t.axis .h).move.map Move.result, t.clock.uptime))
      = some (.stopping, some (some { cls := .ended, code := .homeFail }), 12000) := by decide +kernel
theorem test_interlockAsserted :
    after (moving .moving direct) .interlockAsserted (fun t => (t.pins.interlock, (t.axis .h).st, t.path.buffer.map Entry.data))
      = some (true, .stopping, [0x00000D00, 1, 0, 0, 1]) := by decide +kernel
theorem test_interlockReleased :
    after locked .interlockReleased (fun t => (t.pins.interlock, t.path.buffer.map Entry.data))
      = some (false, [0x00000E00, 0, 0, 0, 1]) := by decide +kernel
theorem test_supplyLowAsserted :
    after base .supplyLowAsserted (fun t => (t.budget.capacity, t.path.buffer.map Entry.data))
      = some (40, [0x00000B00, 40, 34, 0, 1]) := by decide +kernel
theorem test_supplyLowDeasserted :
    after { base with pins := { base.pins with supplyLow := true }, budget := { base.budget with capacity := 40 } }
        .supplyLowDeasserted (fun t => (t.budget.capacity, t.path.buffer.map Entry.data))
      = some (64, [0x00000C00, 64, 34, 0, 1]) := by decide +kernel
theorem test_fanTick :
    after (running 0) .fanTick (fun t => ((t.fan .exhaust).commanded, (t.fan .exhaust).drive, t.clock.uptime)) = some (55, 55, 1000) := by
  decide +kernel
/-- Ticks stay on whole seconds: after 2.5 s without one, at a whole second itself, and after a system reset. -/
theorem test_fanTick_whole_second :
    after (base.passMs 2500) .fanTick (fun t => (t.clock.uptime, t.clock.fanTick)) = some (3000, 1000)
    ∧ after (base.passMs 2000) .fanTick (fun t => (t.clock.uptime, t.clock.fanTick)) = some (2000, 1000)
    ∧ after ((heldBySystem base).passMs 1700) .fanTick (fun t => (t.clock.uptime, t.clock.fanTick)) = some (2000, 1000) := by
  decide +kernel
theorem test_kickEnd :
    after base (.kickEnd .intake) (fun t => ((t.fan .intake).st, (t.fan .intake).drive, (t.fan .intake).tachWindow))
      = some (.run, 40, some 0) := by decide +kernel
theorem test_tachEdge :
    after (running 0) (.tachEdge .exhaust 15000) (fun t => ((t.fan .exhaust).rpm, (t.fan .exhaust).capTime)) = some (2000, 15000) := by
  decide +kernel
theorem test_tachWindowExpiry_fails :
    after (running 3) (.tachWindowExpiry .exhaust) (fun t => ((t.fan .exhaust).st, (t.fan .exhaust).drive, t.thermal.overall, t.notice.pend))
      = some (.failed, 100, .hot, 2) := by decide +kernel
theorem test_cleanTimerExpiry :
    after (running 2) (.cleanTimerExpiry .exhaust) (fun t => ((t.fan .exhaust).retries, t.clock.uptime)) = some (0, 10000) := by
  decide +kernel
theorem test_temperatureReading :
    after base (.temperatureReading .inlet 90) (fun t => ((t.channel .inlet).level, t.thermal.overall, t.thermal.cutLatch, t.notice.pend))
      = some (.critical, .critical, true, 1) := by decide +kernel
theorem test_temperatureReading_invalid :
    after base (.temperatureReading .inlet 301) (fun t => ((t.channel .inlet).invalidStreak, (t.channel .inlet).seen, t.thermal.overall))
      = some (1, false, .normal) := by decide +kernel
theorem test_heartbeatTimeout :
    after armed .heartbeatTimeout (fun t => (t.thermal.hb, t.dim, (t.axis .h).st, (t.fan .source).commanded))
      = some (.lost, true, .stopping, 100) := by decide +kernel
theorem test_minimumMet :
    after (cooling 59999) .minimumMet (fun t => (t.power.mode, t.release, t.slots.queue.map (fun c => (c.result, c.body))))
      = some (.standby, true, [({ cls := .done, code := .ok }, [0, 0, 60000])]) := by decide +kernel
theorem test_cooldownTimeout :
    after (hotSource (cooling 299000)) .cooldownTimeout (fun t => (t.power.mode, t.slots.queue.map (fun c => (c.result, c.body))))
      = some (.standby, [({ cls := .ended, code := .cooldownTimeout }, [0, 0, 300000])]) := by decide +kernel
theorem test_fsync :
    after retiring .fsync (fun t => (t.mesh.markB, t.mesh.st, t.mesh.retireTimer)) = some (.free, .building, none) := by decide +kernel
theorem test_retirementTimeout :
    after { retiring with mesh := { retiring.mesh with st := .idle, dirty := false } } .retirementTimeout
      (fun t => (t.mesh.markB, t.mesh.missingRun, t.path.buffer.length)) = some (.free, true, 5) := by decide +kernel
theorem test_empty_queue_passes_time :
    (match step base with
      | .next t => some (t.clock.uptime, t.clock.usTimer, t.clock.fanTick)
      | _ => none) = some (1, 1000, 999) := by decide +kernel

end Sys2Proof.Tests.Slice0
end

section
/-! SUPPORT for O57. In STANDBY every fan is commanded 0 and at rest (R85, R86, R127): each function of the blocks keeps this,
said once per function and in the order of the model's files. Most leave the fans and the mode alone; those that reach the
fans do so through a recomputation of the demands, which establishes it whatever the state was. -/

namespace Sys2Proof.Machine

/-! ### A fan at rest -/

/-- The fan is commanded 0 and driven at 0. -/
def Fan.AtRest (x : Fan) : Prop := x.commanded = 0 ∧ x.drive = 0

theorem State.standby_iff (s : State) : s.standby = true ↔ s.power.mode = .standby := by simp [State.standby]

/-- In STANDBY a fan commanded 0 is not driven, in whatever state it is, FAILED included (R86). -/
theorem Fan.follow_atRest (x : Fan) (h : x.commanded = 0) : (Fan.follow true x).AtRest := by
  unfold Fan.follow Fan.AtRest
  split <;> simp [h]

/-- In STANDBY a fan that takes its demand comes to rest at once (R85). -/
theorem Fan.takeDemand_atRest (d : Nat) (x : Fan) : (Fan.takeDemand true d x).AtRest := Fan.follow_atRest _ rfl

/-- A fan commanded 0 has nothing to fall by at a tick (R84). -/
theorem Fan.tick_atRest (standby : Bool) {x : Fan} (h : x.AtRest) : (x.tick standby).AtRest := by
  unfold Fan.tick
  rw [if_pos (by rw [h.1]; exact Nat.zero_le _)]
  exact h

theorem Fan.kickEnd_atRest {x : Fan} (h : x.AtRest) : x.kickEnd.AtRest := ⟨h.1, h.1⟩

theorem Fan.edge_atRest (timer : Word) {x : Fan} (h : x.AtRest) : (x.edge timer).AtRest := by
  unfold Fan.edge
  split
  · exact h
  · dsimp only
    split <;> exact h

theorem Fan.systemReset_atRest (x : Fan) : (x.systemReset true).AtRest := ⟨rfl, if_neg (by simp)⟩

theorem PerFan.get_map {α β : Type} (g : α → β) (p : PerFan α) (f : FanId) : (p.map g).get f = g (p.get f) := by
  cases f <;> rfl

namespace State.StandbyInv

/-! ### Ways to the invariant -/

/-- It reads the fans and the mode only. -/
theorem of_same {s t : State} (h : s.StandbyInv) (fans : t.fans = s.fans) (power : t.power = s.power) : t.StandbyInv := by
  unfold State.StandbyInv State.fan
  rw [fans, power]
  exact h

/-- Outside STANDBY it says nothing. -/
theorem of_mode {t : State} (h : t.power.mode ≠ .standby) : t.StandbyInv := fun m => absurd m h

theorem ite {c : Prop} [Decidable c] {t u : State} (ht : t.StandbyInv) (hu : u.StandbyInv) :
    (if c then t else u).StandbyInv := by
  split <;> assumption

/-- A recomputation of every demand establishes it (R83, R85). -/
theorem of_refreshFans {s : State} : s.refreshFans.StandbyInv := by
  intro m f
  rw [s.refreshFans_only.power] at m
  rw [s.refreshFans_fan, s.standby_iff.mpr m]
  exact Fan.takeDemand_atRest _ _

section
variable {s : State}

/-- A change of one fan that leaves it at rest in STANDBY. -/
theorem setFan {f : FanId} {x : Fan} (h : s.StandbyInv) (hx : s.power.mode = .standby → x.AtRest) :
    (s.setFan f x).StandbyInv := by
  intro m g
  by_cases e : g = f
  · rw [e, s.fan_setFan_self f x]
    exact hx m
  · rw [s.fan_setFan_other f g x e]
    exact h m g

theorem drawFan {f : FanId} {x : Fan} (h : s.StandbyInv) (hx : s.power.mode = .standby → x.AtRest) : (s.drawFan f x).StandbyInv :=
  of_same (setFan h hx) rfl rfl

/-- Any change of a fan's record that ends with its state and drive following a commanded duty that was not raised (R86). -/
theorem drawFan_follow {f : FanId} {x : Fan} (h : s.StandbyInv) (hx : x.commanded = (s.fan f).commanded) :
    (s.drawFan f (Fan.follow s.standby x)).StandbyInv := by
  refine drawFan h fun m => ?_
  rw [s.standby_iff.mpr m]
  exact Fan.follow_atRest x (hx.trans (h m f).1)

/-! ### Axes, mesh, time, notices, events and slots -/

theorem setAxis {a : AxisId} {x : Axis} (h : s.StandbyInv) : (s.setAxis a x).StandbyInv := h

theorem setMesh {m : Mesh} (h : s.StandbyInv) : State.StandbyInv { s with mesh := m } := h

theorem pass {us : Nat} (h : s.StandbyInv) : (s.pass us).StandbyInv := by
  unfold State.pass
  split
  · exact h
  · dsimp only
    split
    · exact h
    · intro m f
      have mode : ∀ ms, (s.power.pass ms).mode = s.power.mode := by
        intro ms
        unfold Power.pass
        split <;> rfl
      have rest := h ((mode _).symm.trans m) f
      simp only [State.fan, PerFan.get_map]
      exact rest

theorem raiseNotice {n : NoticeSource} (h : s.StandbyInv) : (s.raiseNotice n).StandbyInv := ite h h

theorem loseEvent (h : s.StandbyInv) : s.loseEvent.StandbyInv := ite h (raiseNotice h)

theorem raiseCode {code : Half} {va vb : Word} (h : s.StandbyInv) : (s.raiseCode code va vb).StandbyInv := by
  unfold State.raiseCode
  split
  · exact h
  · split
    · exact loseEvent h
    · split
      · exact ite (loseEvent h) h
      · exact h

theorem raiseEvent {k : EventKind} {subject : Nat} {va vb : Word} (h : s.StandbyInv) :
    (s.raiseEvent k subject va vb).StandbyInv :=
  raiseCode h

theorem setHolder {k : SlotId} {g : Holder} (h : s.StandbyInv) : (s.setHolder k g).StandbyInv := by
  unfold State.setHolder
  split <;> exact h

theorem complete {k : SlotId} {r : Result} {body : List Word} (h : s.StandbyInv) : (s.complete k r body).StandbyInv := setHolder h

theorem completeRef {ref : Option SlotId} {r : Result} {body : List Word} (h : s.StandbyInv) :
    (s.completeRef ref r body).StandbyInv := by
  cases ref with
  | none => exact h
  | some k => exact complete h

/-! ### Budget and encoder -/

theorem setDesire {a : AxisId} {c : Class} (h : s.StandbyInv) : (s.setDesire a c).StandbyInv := h

theorem supplyEdge {low : Bool} (h : s.StandbyInv) : (s.supplyEdge low).StandbyInv := ite h (ite h (raiseEvent h))

theorem enterStopping {a : AxisId} {r : Result} (h : s.StandbyInv) : (s.enterStopping a r).StandbyInv := h

theorem stopCause {a : AxisId} {c : ResCode} (h : s.StandbyInv) : (s.stopCause a c).StandbyInv :=
  ite (enterStopping h) h

theorem stopBoth {c : ResCode} (h : s.StandbyInv) : (s.stopBoth c).StandbyInv := stopCause (stopCause h)

theorem addNoise {a : AxisId} (h : s.StandbyInv) : (s.addNoise a).StandbyInv := by
  unfold State.addNoise
  dsimp only
  split
  · exact h
  · exact ite h (ite (raiseEvent h) h)

theorem homeFound {a : AxisId} (h : s.StandbyInv) : (s.homeFound a).StandbyInv := enterStopping (setAxis (setAxis h))

theorem homeFail {a : AxisId} (h : s.StandbyInv) : (s.homeFail a).StandbyInv := enterStopping (setAxis h)

theorem slipCheck {a : AxisId} (h : s.StandbyInv) : (s.slipCheck a).StandbyInv :=
  ite h (enterStopping (raiseEvent (setAxis h)))

theorem indexEvent {a : AxisId} (h : s.StandbyInv) : (s.indexEvent a).StandbyInv := by
  unfold State.indexEvent
  split
  · exact h
  · split
    · exact homeFound h
    · exact ite (slipCheck h) h
    · exact ite (slipCheck h) h
    · exact h
    · exact h
    · exact h

theorem spanCheck {a : AxisId} (h : s.StandbyInv) : (s.spanCheck a).StandbyInv :=
  ite (homeFail h) h

theorem decoderUpdate {a : AxisId} {l : EncLevels} (h : s.StandbyInv) : (s.decoderUpdate a l).StandbyInv := by
  unfold State.decoderUpdate
  dsimp only
  have counted {c d : Prop} [Decidable c] [Decidable d] {x : Axis} {w : Word} :
      (if c then (s.setAxis a x).phaseError a else if d then s.setAxis a x else (s.setAxis a x).setCounter a w).StandbyInv :=
    ite (addNoise h) (ite h h)
  exact ite (ite (indexEvent counted) counted) (spanCheck (ite (indexEvent counted) counted))

theorem rejectEdges {a : AxisId} {n : Nat} (h : s.StandbyInv) : (s.rejectEdges a n).StandbyInv := by
  induction n generalizing s with
  | zero => exact h
  | succ n ih => exact ih (addNoise h)

theorem encoderLevels {a : AxisId} {l : EncLevels} (h : s.StandbyInv) : (s.encoderLevels a l).StandbyInv :=
  ite h (ite (decoderUpdate (rejectEdges h)) (rejectEdges h))

theorem acceptInputs {a : AxisId} {m : EncLevels} (h : s.StandbyInv) : (s.acceptInputs a m).StandbyInv := ite h (decoderUpdate h)

/-! ### Mesh -/

theorem meshRun (h : s.StandbyInv) : s.meshRun.StandbyInv := ite (ite h h) h

theorem markDirty (h : s.StandbyInv) : s.markDirty.StandbyInv := meshRun h

theorem retireExpiry (h : s.StandbyInv) : s.retireExpiry.StandbyInv := meshRun (ite h (raiseEvent h))

theorem endReached {g : Half} {l : List Waiting} (h : s.StandbyInv) : (s.endReached g l).StandbyInv := by
  induction l generalizing s with
  | nil => exact h
  | cons w l ih => exact ih (ite (complete h) h)

theorem joinWaiting {k : SlotId} {needed : Half} (h : s.StandbyInv) : (s.joinWaiting k needed).StandbyInv := setHolder h

theorem takeCornerRecord {k : SlotId} {c : Corners} (h : s.StandbyInv) : (s.takeCornerRecord k c).StandbyInv :=
  ite (markDirty (joinWaiting h)) (complete h)

theorem abortWaiting {k : SlotId} (h : s.StandbyInv) : (s.abortWaiting k).StandbyInv := complete h

theorem selectorAnswer {w : Option Word} (h : s.StandbyInv) : (s.selectorAnswer w).StandbyInv := meshRun h

/-! ### Fans and thermal monitor -/

theorem tickFans (h : s.StandbyInv) : s.tickFans.StandbyInv := by
  intro m f
  rw [s.tickFans_only.power] at m
  rw [s.tickFans_fan]
  exact Fan.tick_atRest _ (h m f)

theorem updateOverall {subject : Nat} (h : s.StandbyInv) : (s.updateOverall subject).StandbyInv :=
  have alarmed {u : State} {th : Thermal} : State.StandbyInv { u.refreshFans with thermal := th } := of_refreshFans (s := u)
  ite h (ite (raiseNotice (stopBoth alarmed)) of_refreshFans)

theorem fanStall {f : FanId} (h : s.StandbyInv) : (s.fanStall f).StandbyInv :=
  ite (raiseEvent (drawFan_follow h rfl))
    (updateOverall (raiseNotice (raiseEvent (raiseEvent (drawFan_follow h rfl)))))

theorem tachSilence {f : FanId} (h : s.StandbyInv) : (s.tachSilence f).StandbyInv :=
  have silent : (s.setFan f (s.fan f).silence).StandbyInv := setFan h fun m => h m f
  ite (fanStall silent) silent

theorem takeFanReport {k : SlotId} {body : List Word} (h : s.StandbyInv) : (s.takeFanReport k body).StandbyInv :=
  complete (ite h (ite (updateOverall (drawFan_follow h rfl)) (setFan h fun m => h m _)))

theorem handCurves {c : ChannelId} (h : s.StandbyInv) : (s.handCurves c).StandbyInv := by
  intro m f
  cases f with
  | intake => exact h m .intake
  | exhaust => exact h m .exhaust
  | source => exact h m .source

theorem takeThermalResume {k : SlotId} (h : s.StandbyInv) : (s.takeThermalResume k).StandbyInv :=
  ite (complete h) (ite (complete h) (complete h))

theorem heartbeatWrite (h : s.StandbyInv) : s.heartbeatWrite.StandbyInv := by
  unfold State.heartbeatWrite
  dsimp only
  split
  · exact ite h h
  · exact h
  · exact of_refreshFans

end

theorem of_takeFanFloor {s : State} {k : SlotId} {body : List Word} : (s.takeFanFloor k body).StandbyInv :=
  complete of_refreshFans

theorem of_channelReading {s : State} {c : ChannelId} {code : Int} : (s.channelReading c code).StandbyInv :=
  updateOverall of_refreshFans

theorem takeFanCurve {s : State} (h : s.StandbyInv) {k : SlotId} {body : List Word} : (s.takeFanCurve k body).StandbyInv :=
  complete (ite of_refreshFans h)

theorem of_hostLost {s : State} : s.hostLost.StandbyInv := stopBoth of_refreshFans

/-! ### Power sequencer -/

theorem of_enterStandby {s : State} : s.enterStandby.StandbyInv := raiseNotice of_refreshFans

/-- The end of a cool-down establishes it, whether STANDBY is entered or a re-cool begins (R133). -/
theorem of_endCooldown {s : State} {r : Result} : (s.endCooldown r).StandbyInv :=
  ite (raiseNotice of_refreshFans) of_enterStandby

theorem of_cooldownExpiry {s : State} : s.cooldownExpiry.StandbyInv := of_endCooldown

theorem of_recool {s : State} : s.recool.StandbyInv := raiseNotice of_refreshFans

section
variable {s : State}

theorem checkCooldown (h : s.StandbyInv) : s.checkCooldown.StandbyInv := ite of_endCooldown h

theorem parkReport {a : AxisId} {r : Result} (h : s.StandbyInv) : (s.parkReport a r).StandbyInv := ite (checkCooldown h) h

theorem takePowerUp {k : SlotId} (h : s.StandbyInv) : (s.takePowerUp k).StandbyInv := by
  unfold State.takePowerUp
  split
  · exact complete h
  · exact complete of_refreshFans
  · exact complete of_refreshFans

theorem takeReading {c : ChannelId} {code : Int} (h : s.StandbyInv) : (s.takeReading c code).StandbyInv :=
  have read : (s.channelReading c code).StandbyInv := of_channelReading
  ite (ite h h) (ite of_recool (ite (checkCooldown read) read))

/-! ### Placement -/

theorem detach (h : s.StandbyInv) : s.detach.StandbyInv := ite h h

theorem startHome {a : AxisId} {k : SlotId} (h : s.StandbyInv) : (s.startHome a k).StandbyInv :=
  ite (indexEvent (detach h)) (detach h)

theorem maybeApply (h : s.StandbyInv) : s.maybeApply.StandbyInv := ite (markDirty h) h

theorem placeAxis {a : AxisId} (h : s.StandbyInv) : (s.placeAxis a).StandbyInv := ite h (ite (ite h h) h)

theorem takeSplit {o : Orientation} {p : Split} {k : SlotId} (h : s.StandbyInv) : (s.takeSplit o p k).StandbyInv := setHolder h

theorem startPlace {k : SlotId} {x y : Int} {p : Split} (h : s.StandbyInv) : (s.startPlace k x y p).StandbyInv :=
  have freed : (if s.placementRuns then s.completeRef s.placement.ref (endedWith .superseded) s.positions else s).StandbyInv :=
    ite (completeRef h) h
  maybeApply (placeAxis (placeAxis (takeSplit freed)))

theorem takePlace {k : SlotId} {body : List Word} (h : s.StandbyInv) : (s.takePlace k body).StandbyInv := by
  unfold State.takePlace
  dsimp only
  split
  · exact complete h
  · refine ite (complete h) (ite (complete h) ?_)
    split
    · exact complete h
    · exact ite (startPlace h) (complete h)

theorem orientRerun {k : SlotId} {o : Orientation} (h : s.StandbyInv) : (s.orientRerun k o).StandbyInv := by
  unfold State.orientRerun
  split
  · exact complete h
  · refine ite (complete h) ?_
    split
    · exact complete h
    · have turned : (s.setOrientation o).StandbyInv := of_refreshFans
      exact ite (maybeApply (markDirty (placeAxis (placeAxis (takeSplit turned))))) (complete h)

theorem of_orientOnly {k : SlotId} {o : Orientation} : (s.orientOnly k o).StandbyInv :=
  markDirty (joinWaiting of_refreshFans)

theorem takeOrient {k : SlotId} {body : List Word} (h : s.StandbyInv) : (s.takeOrient k body).StandbyInv := by
  unfold State.takeOrient
  refine ite (complete h) ?_
  split
  · exact complete h
  · exact complete h
  · exact of_orientOnly
  · exact of_orientOnly
  · exact orientRerun h

theorem endFailed (h : s.StandbyInv) : s.endFailed.StandbyInv := ite (completeRef h) h

theorem stopPlacementMove {a : AxisId} (h : s.StandbyInv) : (s.stopPlacementMove a).StandbyInv := ite (stopCause h) h

theorem failPlacement {c : ResCode} (h : s.StandbyInv) : (s.failPlacement c).StandbyInv :=
  stopPlacementMove (stopPlacementMove h)

theorem placementReport {a : AxisId} {r : Result} (h : s.StandbyInv) : (s.placementReport a r).StandbyInv :=
  endFailed (ite (maybeApply (ite h h)) (ite (failPlacement h) h))

theorem placementFlip {g : Half} (h : s.StandbyInv) : (s.placementFlip g).StandbyInv := ite (completeRef h) h

theorem failApplying {c : ResCode} (h : s.StandbyInv) : (s.failApplying c).StandbyInv := completeRef h

theorem placementAbort (h : s.StandbyInv) : s.placementAbort.StandbyInv := by
  unfold State.placementAbort
  split
  · exact endFailed (failPlacement h)
  · exact failApplying h
  · exact h
  · exact h
  · exact h

theorem flip (h : s.StandbyInv) : s.flip.StandbyInv := by
  unfold State.flip
  split
  · exact h
  · exact meshRun (setMesh (raiseNotice (placementFlip (endReached (setMesh h)))))

/-! ### Moves -/

theorem handOver {a : AxisId} {m : Move} {r : Result} (h : s.StandbyInv) : (s.handOver a m r).StandbyInv := by
  unfold State.handOver
  split
  · exact completeRef h
  · exact completeRef h
  · exact placementReport h
  · exact parkReport h

theorem leaveMove {a : AxisId} {st : AxisState} {r : Result} (h : s.StandbyInv) : (s.leaveMove a st r).StandbyInv := by
  unfold State.leaveMove
  dsimp only
  split
  · exact h
  · exact handOver h

theorem startDirect {a : AxisId} {k : SlotId} {r : DirectReq} (h : s.StandbyInv) : (s.startDirect a k r).StandbyInv := by
  cases r with
  | home => exact startHome (setHolder h)
  | moveTo t l => exact detach (setHolder h)
  | moveBy d l => exact detach (setHolder h)

theorem present {a : AxisId} {k : SlotId} {r : DirectReq} (h : s.StandbyInv) : (s.present a k r).StandbyInv := by
  unfold State.present
  split
  · exact complete h
  · exact startDirect h

theorem presentQueue {a : AxisId} {l : List Queued} (h : s.StandbyInv) : (s.presentQueue a l).StandbyInv := by
  induction l generalizing s with
  | nil => exact h
  | cons q l ih =>
    unfold State.presentQueue
    dsimp only
    split
    · exact ih (complete h)
    · exact startDirect h

theorem presentPark {a : AxisId} (h : s.StandbyInv) : (s.presentPark a).StandbyInv := by
  unfold State.presentPark
  dsimp only
  split
  · exact parkReport h
  · exact h

theorem askPark {a : AxisId} (h : s.StandbyInv) : (s.askPark a).StandbyInv := ite (presentPark h) h

/-- Requests of a list that end one after another. -/
theorem foldl_complete {α : Type} {l : List α} {slot : α → SlotId} {r : Result} {body : State → List Word} (h : s.StandbyInv) :
    (l.foldl (fun t x => t.complete (slot x) r (body t)) s).StandbyInv := by
  induction l generalizing s with
  | nil => exact h
  | cons x l ih => exact ih (complete h)

theorem endStops {a : AxisId} (h : s.StandbyInv) : (s.endStops a).StandbyInv := foldl_complete h

theorem abortQueue {a : AxisId} (h : s.StandbyInv) : (s.abortQueue a).StandbyInv := foldl_complete h

theorem presentIdle {a : AxisId} (h : s.StandbyInv) : (s.presentIdle a).StandbyInv :=
  have parked : (if (s.axis a).pendingPark then s.presentPark a else s).StandbyInv := ite (presentPark h) h
  ite (presentQueue parked) parked

theorem enterIdle {a : AxisId} {r : Result} (h : s.StandbyInv) : (s.enterIdle a r).StandbyInv :=
  presentIdle (endStops (leaveMove h))

theorem stallEnd {a : AxisId} (h : s.StandbyInv) : (s.stallEnd a).StandbyInv :=
  abortQueue (raiseNotice (raiseEvent (leaveMove h)))

theorem holdPeriod {a : AxisId} {m : Move} (h : s.StandbyInv) : (s.holdPeriod a m).StandbyInv :=
  ite (enterStopping (setAxis h)) (setAxis h)

theorem drivenPeriod {a : AxisId} {m : Move} {desire grant : Class} {positive : Bool} (h : s.StandbyInv) :
    (s.drivenPeriod a m desire grant positive).StandbyInv :=
  ite (stallEnd (setAxis h)) (setAxis h)

theorem drivePeriod {a : AxisId} {m : Move} {desire : Class} {positive : Bool} (h : s.StandbyInv) :
    (s.drivePeriod a m desire positive).StandbyInv :=
  ite (holdPeriod (setDesire h)) (drivenPeriod (setDesire h))

theorem movingPeriod {a : AxisId} {m : Move} (h : s.StandbyInv) : (s.movingPeriod a m).StandbyInv := ite h (drivePeriod h)

theorem settlingPeriod {a : AxisId} {m : Move} (h : s.StandbyInv) : (s.settlingPeriod a m).StandbyInv :=
  ite h (ite (enterIdle h) (ite h (enterIdle h)))

theorem stoppingPeriod {a : AxisId} {m : Move} (h : s.StandbyInv) : (s.stoppingPeriod a m).StandbyInv :=
  ite (enterIdle h) (ite (enterIdle (raiseEvent h)) h)

theorem periodWork {a : AxisId} (h : s.StandbyInv) : (s.periodWork a).StandbyInv := by
  unfold State.periodWork
  split
  · exact h
  · split
    · exact drivePeriod h
    · exact movingPeriod h
    · exact settlingPeriod h
    · exact stoppingPeriod h
    · exact h
    · exact h

theorem motionPeriod {a : AxisId} (h : s.StandbyInv) : (s.motionPeriod a).StandbyInv := ite h (periodWork (pass h))

theorem searchExpiry {a : AxisId} (h : s.StandbyInv) : (s.searchExpiry a).StandbyInv := by
  unfold State.searchExpiry
  split
  · exact h
  · exact ite (homeFail (pass h)) h

theorem interlockEdge {asserted : Bool} (h : s.StandbyInv) : (s.interlockEdge asserted).StandbyInv :=
  ite h (ite h (ite (raiseEvent (stopBoth h)) (raiseEvent h)))

theorem takeDirect {k : SlotId} {a : AxisId} {r : DirectReq} (h : s.StandbyInv) : (s.takeDirect k a r).StandbyInv :=
  ite (complete h) (ite (present h) (setHolder h))

theorem dropPark {a : AxisId} (h : s.StandbyInv) : (s.dropPark a).StandbyInv := ite (parkReport h) h

theorem takeStop {k : SlotId} {body : List Word} (h : s.StandbyInv) : (s.takeStop k body).StandbyInv :=
  have stopped (a : AxisId) : (((s.abortQueue a).dropPark a).stopCause a .stopped).StandbyInv :=
    stopCause (dropPark (abortQueue h))
  ite (complete (stopped _)) (setHolder (stopped _))

theorem takeReport {k : SlotId} {body : List Word} (h : s.StandbyInv) : (s.takeReport k body).StandbyInv :=
  have ended : (s.complete k doneOk (s.reportBody (axisOfWord (bodyWord body 1)))).StandbyInv := complete h
  ite ended (ite (presentIdle ended) ended)

theorem takeSetup {k : SlotId} {body : List Word} (h : s.StandbyInv) : (s.takeSetup k body).StandbyInv :=
  ite (complete h) (ite (complete h) (complete (ite (detach h) h)))

theorem abortHolder {k : SlotId} {g : Holder} (h : s.StandbyInv) : (s.abortHolder k g).StandbyInv := by
  cases g with
  | axisQueue a => exact complete h
  | axisRunning a => exact stopCause h
  | stopWait a => exact complete h
  | placement => exact placementAbort h
  | meshWait => exact abortWaiting h
  | power => exact h
  | completing => exact h

end

/-- A cool-down that begins leaves STANDBY out, and what it asks of the axes starts from demands formed anew (R129). -/
theorem of_beginCooldown {s : State} {k : SlotId} {park : Bool} : (s.beginCooldown k park).StandbyInv :=
  ite (askPark (askPark of_refreshFans)) of_refreshFans

section
variable {s : State}

theorem takePowerDown {k : SlotId} {body : List Word} (h : s.StandbyInv) : (s.takePowerDown k body).StandbyInv := by
  unfold State.takePowerDown
  split
  · exact of_beginCooldown
  · exact complete h
  · exact complete h

/-! ### Slot unit -/

theorem route {k : SlotId} {kind : Kind} {body : List Word} (h : s.StandbyInv) : (s.route k kind body).StandbyInv := by
  cases kind with
  | nop => exact complete h
  | axisHome => exact takeDirect h
  | axisMoveTo => exact takeDirect h
  | axisMoveBy => exact takeDirect h
  | axisStop => exact takeStop h
  | axisReport => exact takeReport h
  | axisSetup => exact takeSetup h
  | place => exact takePlace h
  | keystone => exact takeCornerRecord h
  | corners => exact takeCornerRecord h
  | orient => exact takeOrient h
  | fanCurve => exact takeFanCurve h
  | thresholds => exact complete h
  | fanFloor => exact of_takeFanFloor
  | fanReport => exact takeFanReport h
  | thermalResume => exact takeThermalResume h
  | powerDown => exact takePowerDown h
  | powerUp => exact takePowerUp h
  | noticeSetup => exact complete h

theorem takePost {k : SlotId} (h : s.StandbyInv) : (s.takePost k).StandbyInv := by
  unfold State.takePost State.checkAndRoute
  dsimp only
  split
  · exact complete h
  · split
    · exact complete h
    · exact route h

theorem takeAbort {k : SlotId} (h : s.StandbyInv) : (s.takeAbort k).StandbyInv := by
  unfold State.takeAbort
  split
  · exact h
  · exact ite h (abortHolder h)

theorem slotWriteEnd {offset : Nat} {data : Word} {be : BitVec 4} {act : SlotAct} {superseded : Bool} (h : s.StandbyInv) :
    (s.slotWriteEnd offset data be act superseded).StandbyInv := by
  have written : ∀ w : Word, (if superseded then s else s.setShadow (slotOfOffset offset) (wordOfOffset offset) w).StandbyInv :=
    fun _ => ite h h
  cases act with
  | plain => exact written _
  | post => exact takePost (written _)
  | abort => exact takeAbort (written _)

/-! ### Memory path -/

theorem consumerWrite {data : Word} {be : BitVec 4} (h : s.StandbyInv) : (s.consumerWrite data be).StandbyInv :=
  ite h (raiseCode h)

theorem endService {data : Word} {be : BitVec 4} (h : s.StandbyInv) : (s.endService data be).StandbyInv := by
  unfold State.endService
  split
  · exact raiseEvent h
  · exact h

theorem liveRead {offset : Nat} (h : s.StandbyInv) : (s.liveRead offset).2.StandbyInv := by
  unfold State.liveRead
  split
  · exact h
  · split
    · exact h
    · split <;> exact h

theorem refuseWrite {offset : Nat} {data : Word} {be : BitVec 4} (h : s.StandbyInv) : (s.refuseWrite offset data be).StandbyInv :=
  raiseCode h

theorem tellWrite {offset : Nat} {data : Word} {be : BitVec 4} (h : s.StandbyInv) : (s.tellWrite offset data be).StandbyInv :=
  ite (consumerWrite h) (ite (heartbeatWrite h) h)

theorem grantHost {x : HostAccess} (h : s.StandbyInv) : (s.grantHost x).StandbyInv := by
  cases x with
  | read addr =>
    simp only [State.grantHost]
    split <;> exact h
  | write addr data be =>
    simp only [State.grantHost]
    split
    · exact h
    · split
      · exact refuseWrite h
      · exact tellWrite h

theorem nextGrant {t : State} (h : s.StandbyInv) (e : s.nextGrant = some t) : t.StandbyInv := by
  unfold State.nextGrant at e
  split at e
  · cases e
  · dsimp only at e
    split at e
    · cases e; exact h
    · split at e
      · split at e
        · cases e
        · cases e; exact h
      · split at e
        · cases e; exact grantHost h
        · split at e
          · cases e; exact grantHost h
          · cases e; exact h

/-- What a claim keeps takes in the fans and the mode. -/
theorem of_claimKeeps {t : State} (h : s.StandbyInv) (k : ClaimKeeps s t) : t.StandbyInv := by
  have inner := k.inner
  simp only [State.inner, Prod.mk.injEq] at inner
  obtain ⟨_, _, _, _, _, _, _, _, _, fans, _, _, power, _⟩ := inner
  exact h.of_same fans power

theorem settleFor {n : Nat} (h : s.StandbyInv) : (s.settleFor n).StandbyInv := by
  induction n generalizing s with
  | zero => exact h
  | succ n ih =>
    unfold State.settleFor
    split
    · exact h
    · next t e =>
      rcases s.nextAction_cases t e with claim | ⟨_, grant⟩
      · exact ih (h.of_claimKeeps (s.nextClaim_keeps t claim))
      · exact ih (h.nextGrant grant)

theorem settle (h : s.StandbyInv) : s.settle.StandbyInv := settleFor h

theorem arrive (h : s.StandbyInv) : s.arrive.StandbyInv := by
  unfold State.arrive
  split
  · exact h
  · split
    · exact h
    · split
      · exact h
      · refine ite (liveRead h) ?_
        split <;> exact h
    · split
      · exact h
      · exact ite (ite (endService h) (refuseWrite h)) h

theorem hostAccess {x : HostAccess} (h : s.StandbyInv) : (s.hostAccess x).StandbyInv := by
  unfold State.hostAccess
  split
  · exact h
  · exact settle (arrive h)

theorem bodyReport {drained : Bool} (h : s.StandbyInv) : (s.bodyReport drained).StandbyInv := by
  unfold State.bodyReport
  dsimp only
  split
  · exact h
  · exact ite h h

theorem report {p : Producer} {drained : Bool} (h : s.StandbyInv) : (s.report p drained).StandbyInv := by
  cases p with
  | slotBody => exact bodyReport h
  | slotHeader => exact ite (raiseNotice h) h
  | eventWriter mark => exact ite (raiseNotice h) h
  | meshWord => exact h
  | meshSelector => exact ite (flip h) h

theorem freedEntry (h : s.StandbyInv) : s.freedEntry.StandbyInv := by
  unfold State.freedEntry
  cases e : s.nextClaim with
  | none => exact h
  | some t => exact h.of_claimKeeps (s.nextClaim_keeps t e)

theorem leaveHead {drained : Bool} (h : s.StandbyInv) : (s.leaveHead drained).StandbyInv := by
  unfold State.leaveHead
  split
  · exact h
  · exact report (freedEntry h)

theorem endHostWrite {addr data : Word} {be : BitVec 4} {act : SlotAct} {superseded : Bool} (h : s.StandbyInv) :
    (s.endHostWrite addr data be act superseded).StandbyInv := by
  unfold State.endHostWrite
  split
  · exact h
  · exact ite (slotWriteEnd h) h

theorem answerKind {k : CycleKind} (h : s.StandbyInv) : (s.answerKind k).StandbyInv := by
  cases k with
  | hostRead addr => exact h
  | hostWrite addr data be act superseded => exact endHostWrite h
  | drain => exact leaveHead h
  | selector => exact selectorAnswer h
  | orphan => exact h

theorem answerCycle (h : s.StandbyInv) : s.answerCycle.StandbyInv := by
  unfold State.answerCycle
  split
  · exact h
  · exact settle (answerKind h)

theorem timeoutKind {k : CycleKind} (h : s.StandbyInv) : (s.timeoutKind k).StandbyInv := by
  cases k with
  | hostRead addr => exact raiseCode h
  | hostWrite addr data be act superseded => exact raiseCode (endHostWrite h)
  | drain => exact raiseCode (leaveHead h)
  | selector => exact raiseCode (selectorAnswer h)
  | orphan => exact h

theorem timeoutCycle (h : s.StandbyInv) : s.timeoutCycle.StandbyInv := by
  unfold State.timeoutCycle
  split
  · exact h
  · exact settle (timeoutKind (pass h))

theorem postRow {kind : BitVec 6} {p : Post} {abort : Bool} (h : s.StandbyInv) : (s.postRow kind p abort).StandbyInv :=
  ite (answerCycle h) (ite (answerCycle (hostAccess h)) (hostAccess h))

/-! ### Resets -/

theorem assertReset {straps : Straps} (h : s.StandbyInv) : (s.assertReset straps).StandbyInv := by
  refine ite h fun m f => ?_
  have standby : s.standby = true := s.standby_iff.mpr m
  have reset : ((s.fans.map (Fan.systemReset s.standby)).get f).AtRest := by
    rw [PerFan.get_map, standby]
    exact Fan.systemReset_atRest _
  exact reset

theorem releaseReset (h : s.StandbyInv) : s.releaseReset.StandbyInv :=
  ite h (settle (arrive (ite of_cooldownExpiry (checkCooldown of_refreshFans))))

/-! ### Timers -/

theorem wholeSecond (h : s.StandbyInv) : s.wholeSecond.StandbyInv :=
  ite h (ite (tickFans (pass h)) (pass h))

theorem kickExpiry {f : FanId} (h : s.StandbyInv) : (s.kickExpiry f).StandbyInv := by
  unfold State.kickExpiry
  split
  · exact h
  · exact drawFan (pass h) fun m => Fan.kickEnd_atRest (pass h m f)

theorem tachExpiry {f : FanId} (h : s.StandbyInv) : (s.tachExpiry f).StandbyInv := by
  unfold State.tachExpiry
  split
  · exact h
  · exact tachSilence (pass h)

theorem tachEdge {f : FanId} {elapsed : Word} (h : s.StandbyInv) : (s.tachEdge f elapsed).StandbyInv := by
  have passed : (s.passToEdge f elapsed.toNat).StandbyInv := by
    unfold State.passToEdge
    split
    · exact pass h
    · exact ite (pass h) (pass (tachExpiry h))
  exact ite (setFan passed fun m => Fan.edge_atRest _ (passed m f)) (pass h)

theorem cleanExpiry {f : FanId} (h : s.StandbyInv) : (s.cleanExpiry f).StandbyInv := by
  unfold State.cleanExpiry
  split
  · exact h
  · exact setFan (pass h) fun m => pass h m f

theorem readingExpiry {c : ChannelId} {code : Int} (h : s.StandbyInv) : (s.readingExpiry c code).StandbyInv :=
  ite h (takeReading (pass h))

theorem heartbeatExpiry (h : s.StandbyInv) : s.heartbeatExpiry.StandbyInv := by
  unfold State.heartbeatExpiry
  split
  · exact h
  · exact ite of_hostLost h

theorem minimumExpiry (h : s.StandbyInv) : s.minimumExpiry.StandbyInv := ite (checkCooldown (pass h)) h

theorem elapsedExpiry (h : s.StandbyInv) : s.elapsedExpiry.StandbyInv := ite (ite of_cooldownExpiry (pass h)) h

theorem retirementTimer (h : s.StandbyInv) : s.retirementTimer.StandbyInv := by
  unfold State.retirementTimer
  split
  · exact h
  · exact ite (retireExpiry (pass h)) h

end
end State.StandbyInv

/-! ### Commands and steps -/

section
open State.StandbyInv

/-- Every command keeps the invariant. -/
theorem exec_keeps_standbyInv {s t : State} (h : s.StandbyInv) (i : Instr) (e : exec i s = .next t) : t.StandbyInv := by
  have period (a : AxisId) : (s.motionPeriod a).settle.StandbyInv := settle (motionPeriod h)
  cases i with
  | powerOnReset pins => cases e; exact of_mode fun m => nomatch m
  | systemReset straps => cases e; exact assertReset h
  | resetRelease => cases e; exact releaseReset h
  | hostRead addr => cases e; exact hostAccess h
  | hostWrite addr data be => cases e; exact hostAccess h
  | memoryAnswer => cases e; exact answerCycle h
  | memoryTimeout => cases e; exact timeoutCycle h
  | pairLowRead pair => cases e; exact hostAccess h
  | acknowledge => cases e; exact hostAccess h
  | endOfService data be => cases e; exact hostAccess h
  | encoderEdge a l => cases e; exact settle (encoderLevels h)
  | filterAccept a m => cases e; exact settle (acceptInputs (pass h))
  | motionPeriod a => cases e; exact period a
  | stall a => cases e; exact ite (period a) h
  | budgetTimeout a => cases e; exact ite (period a) h
  | settleEnd a => cases e; exact ite (period a) h
  | stoppingEnd a => cases e; exact ite (period a) h
  | stopSlow a => cases e; exact ite (period a) h
  | homeTimeout a => cases e; exact settle (searchExpiry h)
  | interlockAsserted => cases e; exact settle (interlockEdge h)
  | interlockReleased => cases e; exact settle (interlockEdge h)
  | supplyLowAsserted => cases e; exact settle (supplyEdge h)
  | supplyLowDeasserted => cases e; exact settle (supplyEdge h)
  | fanTick => cases e; exact wholeSecond h
  | kickEnd f => cases e; exact kickExpiry h
  | tachEdge f elapsed => cases e; exact settle (tachEdge h)
  | tachWindowExpiry f => cases e; exact settle (tachExpiry h)
  | cleanTimerExpiry f => cases e; exact cleanExpiry h
  | temperatureReading c code => cases e; exact settle (readingExpiry h)
  | heartbeatTimeout => cases e; exact settle (heartbeatExpiry h)
  | minimumMet => cases e; exact settle (minimumExpiry h)
  | cooldownTimeout => cases e; exact settle (elapsedExpiry h)
  | fsync => cases e; exact ite (settle (meshRun h)) h
  | retirementTimeout => cases e; exact settle (retirementTimer h)
  -- ABORT and the nineteen request kinds
  | _ => cases e; exact postRow h

theorem step_keeps_standbyInv {s t : State} (h : s.StandbyInv) (e : step s = .next t) : t.StandbyInv := by
  unfold step at e
  split at e
  · cases e; exact pass h
  · next i rest _ =>
    have waiting : (s.withPending rest).StandbyInv := h
    exact exec_keeps_standbyInv waiting i e

end

/-! ### The lines (R105, R127) -/

theorem State.dim_iff (s : State) :
    s.dim = true ↔ s.thermal.overall = .hot ∨ s.thermal.overall = .critical ∨ s.thermal.hb = .lost := by
  simp [State.dim, State.autonomous, or_assoc]

theorem State.cut_iff (s : State) : s.cut = true ↔ s.thermal.cutLatch = true ∨ s.power.mode ≠ .run := by
  simp [State.cut]

theorem State.release_iff (s : State) : s.release = true ↔ s.power.mode = .standby := by simp [State.release]

/-- Settles O57, by the step lemma of the invariant. -/
theorem linesFollowTheMode : Obligations.LinesFollowTheMode := by
  refine ⟨fun s => ⟨s.dim_iff, s.cut_iff, s.release_iff⟩, fun s t => step_keeps_standbyInv, fun s inv line => ?_⟩
  have standby := s.release_iff.mp line
  exact ⟨standby, s.cut_iff.mpr (Or.inr (by rw [standby]; decide)), inv standby⟩

end Sys2Proof.Machine
end

section
/-! SUPPORT for O31. How a request row ends out of a ready state, said once for every kind: the post is taken or refused for its
length, the owning unit completes it, and settling writes the result's body (R160, R165). -/

namespace Sys2Proof.Machine

/-! ### Settling as an induction -/

/-- What holds of a state and is kept by each claim and each grant holds when it has settled. -/
theorem State.settle_induct {P : State → Prop} (keeps : ∀ u v, P u → u.nextAction = some v → P v) {s : State} (h : P s) :
    P s.settle := by
  have all : ∀ (n : Nat) (u : State), P u → P (u.settleFor n) := by
    intro n
    induction n with
    | zero => exact fun _ hu => hu
    | succ n ih =>
      intro u hu
      unfold State.settleFor
      split
      · exact hu
      · next v e => exact ih v (keeps u v hu e)
  exact all 24 s h

/-- A grant that cannot be that of a host access is of the selector read or a drain: it moves the port alone. -/
theorem State.nextGrant_quiet (s t : State) (hh : s.HostQuiet) (e : s.nextGrant = some t) : GrantKeeps s t := by
  rcases hh with host | port
  · exact (s.nextGrant_keeps t host e).1
  · obtain ⟨c, hc⟩ := Option.isSome_iff_exists.mp port
    unfold State.nextGrant at e
    rw [hc] at e
    cases e

/-! ### The mesh generator while settling -/

theorem State.slotClaim_mesh (s t : State) (h : s.slotClaim = some t) : t.mesh = s.mesh := by
  unfold State.slotClaim at h
  split at h
  · cases h
  · dsimp only at h
    split at h
    · cases h; exact State.supersede_mesh _ _
    · split at h
      · split at h
        · cases h; exact State.supersede_mesh _ _
        · cases h
      · cases h

theorem State.eventClaim_mesh (s t : State) (h : s.eventClaim = some t) : t.mesh = s.mesh := by
  unfold State.eventClaim at h
  dsimp only at h
  split at h
  · cases h; rfl
  · split at h
    · cases h
    · split at h <;> cases h <;> rfl

/-- Whether the mesh generator wants a claim depends on its own record alone. -/
theorem State.meshClaim_none_congr (s t : State) (hm : t.mesh = s.mesh) (h : s.meshClaim = none) : t.meshClaim = none := by
  unfold State.meshClaim at h ⊢
  rw [hm]
  split
  · rfl
  · next sn e =>
    rw [e] at h
    dsimp only at h ⊢
    split
    · next b =>
      rw [b] at h
      split
      · next w => simp [w] at h
      · next w =>
        split
        · next d => simp [w, d] at h
        · rfl
    · next b =>
      rw [b] at h
      split
      · next q => simp [q] at h
      · rfl
    · rfl
    · rfl

/-- A mesh generator that wants nothing is left alone. -/
theorem State.settle_mesh (s : State) (hh : s.HostQuiet) (hm : s.meshClaim = none) : s.settle.mesh = s.mesh := by
  have all : s.settle.mesh = s.mesh ∧ s.settle.HostQuiet := by
    refine State.settle_induct (P := fun u => u.mesh = s.mesh ∧ u.HostQuiet) ?_ ⟨rfl, hh⟩
    rintro u v ⟨same, quiet⟩ e
    refine ⟨?_, (u.nextAction_keeps v quiet e).2⟩
    rcases u.nextAction_cases v e with claim | ⟨_, grant⟩
    · rcases u.nextClaim_cases v claim with c | ⟨_, c | c⟩
      · rw [u.slotClaim_mesh v c, same]
      · rw [u.eventClaim_mesh v c, same]
      · rw [s.meshClaim_none_congr u same hm] at c
        cases c
    · rw [(u.nextGrant_quiet v quiet grant).mesh, same]
  exact all.1

/-! ### A completion being written (R165) -/

/-- The first n words of a completion's body have been queued and stand in the shadow; none has left the buffer yet. -/
structure State.Writing (s : State) (c : Completion) (kind : BitVec 6) (tag : BitVec 8) (n : Nat) : Prop where
  queue : s.slots.queue = [c]
  writer : s.slots.writer = { queued := n, inBuffer := n, dropped := false }
  view : s.view c.slot = .part kind tag false .completing
  fits : c.body.length ≤ 15
  within : n ≤ c.body.length
  room : n < c.body.length → s.path.buffer.length = n
  words : ∀ i, i < n → s.shadowWord c.slot (wordOfOffset (i + 1)) = c.body.getD i 0

theorem State.shadowWord_setShadow_other (s : State) (k : SlotId) (v w : Fin 16) (x : Word) (h : w ≠ v) :
    (s.setShadow k v x).shadowWord k w = s.shadowWord k w := by
  have ne : v.val ≠ w.val := fun e => h (Fin.ext e.symm)
  simp [State.shadowWord, State.setShadow, Vector.getElem_set_ne, ne]

theorem State.queueSlotWord_slots (s : State) (k : SlotId) (w : Nat) (d : Word) (p : Producer) :
    (s.queueSlotWord k w d p).slots = (s.setShadow k (wordOfOffset w) d).slots := State.supersede_slots _ _

theorem State.view_congr {s t : State} (h : t.slots = s.slots) (k : SlotId) : t.view k = s.view k := by
  unfold State.view; rw [h]

theorem State.shadowWord_congr {s t : State} (h : t.slots = s.slots) (k : SlotId) (w : Fin 16) :
    t.shadowWord k w = s.shadowWord k w := by
  unfold State.shadowWord; rw [h]

section
variable {s t : State} {c : Completion} {kind : BitVec 6} {tag : BitVec 8} {n : Nat}

/-- While words of the body are left the slot unit claims the next one. -/
theorem State.Writing.slotClaim (w : s.Writing c kind tag n) (left : n < c.body.length) :
    s.slotClaim = some ((s.queueSlotWord c.slot (n + 1) (c.body.getD n 0) .slotBody).setWriter
      { queued := n + 1, inBuffer := n + 1, dropped := false }) := by
  unfold State.slotClaim
  rw [w.queue, w.writer]
  exact if_pos left

theorem State.Writing.of_word (w : s.Writing c kind tag n) (left : n < c.body.length) (e : s.slotClaim = some t) :
    t.Writing c kind tag (n + 1) := by
  have longer := (s.slotClaim_keeps t e).longer
  rw [w.slotClaim left, Option.some.injEq] at e
  have slots : t.slots = { (s.setShadow c.slot (wordOfOffset (n + 1)) (c.body.getD n 0)).slots with
      writer := { queued := n + 1, inBuffer := n + 1, dropped := false } } := by
    rw [← e]
    unfold State.setWriter
    rw [State.queueSlotWord_slots]
  have shadow (i : Fin 16) : t.shadowWord c.slot i
      = (s.setShadow c.slot (wordOfOffset (n + 1)) (c.body.getD n 0)).shadowWord c.slot i := by
    unfold State.shadowWord; rw [slots]
  refine
    { queue := by rw [slots]; exact w.queue
      writer := by rw [slots]
      view := by unfold State.view; rw [slots]; exact w.view
      fits := w.fits
      within := left
      room := fun _ => by rw [longer, w.room left]
      words := fun i hi => ?_ }
  have fits := w.fits
  rw [shadow]
  by_cases last : i = n
  · rw [last, State.shadowWord_setShadow_self]
  · have apart : wordOfOffset (i + 1) ≠ wordOfOffset (n + 1) := by
      intro q
      have := congrArg Fin.val q
      simp only [wordOfOffset] at this
      omega
    rw [State.shadowWord_setShadow_other _ _ _ _ _ apart]
    exact w.words i (by omega)

/-- Whatever else is claimed or granted once the body is queued whole leaves the completion as it stands. -/
theorem State.Writing.of_same (w : s.Writing c kind tag n) (whole : n = c.body.length) (slots : t.slots = s.slots) :
    t.Writing c kind tag n where
  queue := by rw [slots]; exact w.queue
  writer := by rw [slots]; exact w.writer
  view := (State.view_congr slots _).trans w.view
  fits := w.fits
  within := w.within
  room := fun left => absurd whole (Nat.ne_of_lt left)
  words := fun i hi => (State.shadowWord_congr slots _ _).trans (w.words i hi)

/-- With no claim left the body is queued whole: words that are left would find room. -/
theorem State.Writing.whole (w : s.Writing c kind tag n) (noClaim : s.slotClaim = none) : n = c.body.length := by
  rcases Nat.lt_or_eq_of_le w.within with left | whole
  · rw [w.slotClaim left] at noClaim
    cases noClaim
  · exact whole

theorem State.Writing.whole_of_nextClaim (w : s.Writing c kind tag n) (noClaim : s.nextClaim = none) : n = c.body.length := by
  rcases Nat.lt_or_eq_of_le w.within with left | whole
  · have fits := w.fits
    have room := w.room left
    unfold State.nextClaim at noClaim
    rw [w.slotClaim left, if_neg (by rw [room]; simp only [Config.bufferSize]; omega)] at noClaim
    cases noClaim
  · exact whole

/-- One claim or grant: the next word of the body, or nothing of the completion (a body that is not empty holds the header
back until it has left the buffer). -/
theorem State.Writing.nextAction (w : s.Writing c kind tag n) (nonempty : c.body ≠ []) (hh : s.HostQuiet)
    (e : s.nextAction = some t) : ∃ m, t.Writing c kind tag m := by
  rcases s.nextAction_cases t e with claim | ⟨noClaim, grant⟩
  · rcases s.nextClaim_cases t claim with h | ⟨noClaim, h | h⟩
    · rcases Nat.lt_or_eq_of_le w.within with left | whole
      · exact ⟨n + 1, w.of_word left h⟩
      · have positive : n ≠ 0 := fun z => nonempty (List.length_eq_zero_iff.mp (whole.symm.trans z))
        unfold State.slotClaim at h
        rw [w.queue, w.writer] at h
        dsimp only at h
        rw [if_neg (by omega), if_neg (fun q => positive q.1)] at h
        cases h
    · exact ⟨n, w.of_same (w.whole noClaim) (s.eventClaim_slots t h)⟩
    · exact ⟨n, w.of_same (w.whole noClaim) (s.meshClaim_slots t h)⟩
  · exact ⟨n, w.of_same (w.whole_of_nextClaim noClaim) (s.nextGrant_quiet t hh grant).slots⟩

/-- Settling queues the body of a completion whole, and the completion waits for it to drain (R165). -/
theorem State.Writing.settle (w : s.Writing c kind tag n) (nonempty : c.body ≠ []) (run : s.hold = .running) (hh : s.HostQuiet) :
    s.settle.Writing c kind tag c.body.length := by
  obtain ⟨⟨m, wm⟩, _⟩ := State.settle_induct (P := fun u => (∃ m, u.Writing c kind tag m) ∧ u.HostQuiet)
    (fun u v ⟨⟨_, wu⟩, quiet⟩ e => ⟨wu.nextAction nonempty quiet e, (u.nextAction_keeps v quiet e).2⟩) (s := s) ⟨⟨n, w⟩, hh⟩
  have noClaim : s.settle.nextClaim = none := by
    have hold : s.settle.hold = .running := (congrArg (fun x => x.2.2.2.1) (s.settle_keeps hh).inner).trans run
    have ended := s.settle_ends
    unfold State.nextAction at ended
    rw [if_neg (fun q => q hold)] at ended
    cases e : s.settle.nextClaim with
    | none => rfl
    | some u => rw [e] at ended; cases ended
  exact (wm.whole_of_nextClaim noClaim) ▸ wm

/-- The words of a body that is queued whole read back. -/
theorem State.Writing.body_eq (w : s.Writing c kind tag c.body.length) : s.body c.slot c.body.length = c.body := by
  refine List.ext_getElem (by simp [State.body]) fun i _ hi => ?_
  have word := w.words i hi
  simp only [wordOfOffset] at word
  simp [State.body, word, hi]

/-- A completion with an empty body: the header is queued at once, and the slot is the host's again (R165). -/
theorem State.Writing.settle_header (w : s.Writing c kind tag 0) (empty : c.body = []) (run : s.hold = .running)
    (buffer : s.path.buffer = []) (hh : s.HostQuiet) :
    s.settle.slots.queue = [] ∧ s.settle.view c.slot = .host
      ∧ s.settle.shadowWord c.slot 0 = completionHeader kind tag 0 c.result := by
  have claim : s.slotClaim = some (s.queueHeader c [] kind tag) := by
    unfold State.slotClaim
    rw [w.queue, w.writer]
    dsimp only
    rw [if_neg (by simp [empty]), if_pos ⟨rfl, rfl⟩, w.view]
  have action : s.nextAction = some (s.queueHeader c [] kind tag) := by
    unfold State.nextAction State.nextClaim
    rw [if_neg (fun q => q run), buffer, if_neg (by decide), claim]
    rfl
  have quiet := (s.nextAction_keeps _ hh action).2
  have slots : s.settle.slots = (s.queueHeader c [] kind tag).slots := by
    have first : s.settle = (s.queueHeader c [] kind tag).settleFor 23 := by
      show s.settleFor 24 = _
      rw [State.settleFor, action]
    rw [first]
    exact State.settleFor_slots _ 23 quiet (State.slotClaim_none_of_queue _ rfl)
  refine ⟨by rw [slots]; rfl, (State.view_congr slots _).trans ?_, (State.shadowWord_congr slots _ _).trans ?_⟩
  · exact State.view_setView_self _ _ _
  · have header : (s.queueSlotWord c.slot 0 (completionHeader kind tag c.body.length c.result) .slotHeader).shadowWord c.slot 0
        = completionHeader kind tag 0 c.result := by
      rw [State.shadowWord_congr (State.queueSlotWord_slots _ _ _ _ _), empty]
      exact State.shadowWord_setShadow_self _ _ _ _
    exact header

end

/-! ### A post taken out of a ready state (R160) -/

/-- The header has been handed over, and the part holds the request. -/
def State.taken (s : State) (kind : Kind) (p : Post) : State :=
  (s.handed kind.number p).setView p.slot (.part kind.number p.tag false .completing)

/-- The body is read as the host wrote it: the header write reaches no word of it. -/
theorem State.body_taken {s : State} {p : Post} {body : List Word} (kind : Kind) (h : s.Posted p body) :
    (s.taken kind p).body p.slot p.len.toNat = body := by
  have fits := p.len.isLt
  have same : (s.taken kind p).body p.slot p.len.toNat = s.body p.slot p.len.toNat := by
    refine List.map_congr_left fun i hi => ?_
    have inside := List.mem_range.mp hi
    unfold State.taken
    rw [State.shadowWord_setView]
    refine State.shadowWord_setShadow_other _ _ _ _ _ fun q => ?_
    have := congrArg Fin.val q
    simp only [Fin.val_zero] at this
    omega
  rw [same, h.len, h.words]

/-- The slot unit reads the header that was handed over, and checks the post (R160). -/
theorem State.takePost_handed (s : State) (p : Post) (kind : Kind) :
    (s.handed kind.number p).takePost p.slot = (s.taken kind p).checkAndRoute p.slot kind (postHeader kind.number p) := by
  have header : (s.handed kind.number p).shadowWord p.slot 0 = postHeader kind.number p :=
    State.shadowWord_setShadow_self _ _ _ _
  unfold State.takePost
  simp only [header, headerKind_post, headerTag_post, kindOfCode_number]
  rfl

section
variable {s : State} {p : Post} {body : List Word} (kind : Kind)

theorem State.checkAndRoute_refused {c : ResCode} (posted : s.Posted p body) (check : postCheck kind false body = some c) :
    (s.taken kind p).checkAndRoute p.slot kind (postHeader kind.number p)
      = (s.taken kind p).complete p.slot (refusedWith c) [] := by
  unfold State.checkAndRoute
  rw [headerLen_post, headerAbort_post, posted.noAbort, State.body_taken kind posted]
  dsimp only
  rw [check]

theorem State.checkAndRoute_routed (posted : s.Posted p body) (check : postCheck kind false body = none) :
    (s.taken kind p).checkAndRoute p.slot kind (postHeader kind.number p) = (s.taken kind p).route p.slot kind body := by
  unfold State.checkAndRoute
  rw [headerLen_post, headerAbort_post, posted.noAbort, State.body_taken kind posted]
  dsimp only
  rw [check]

end

/-! ### The end of a request -/

/-- A post has been taken, and nothing of the paths that lead to memory has moved since. -/
structure State.Holds (s x : State) (kind : Kind) (p : Post) : Prop where
  slots : x.slots = (s.taken kind p).slots
  path : x.path = (s.taken kind p).path
  mem : x.mem = (s.taken kind p).mem
  hold : x.hold = s.hold
  mesh : x.mesh = s.mesh

/-- A request has ended with a result: handed over, answered, and nothing else has changed since it was completed. -/
structure State.Answers (s x t : State) (kind : Kind) (p : Post) (r : Result) (body : List Word) : Prop where
  handsOver : s.HandsOver t kind p
  ends : t.Ends kind p r body
  keeps : SettleKeeps x t
  mesh : t.mesh = x.mesh

/-- What settling keeps, block by block. -/
theorem SettleKeeps.blocks {s t : State} (k : SettleKeeps s t) :
    t.mem = s.mem ∧ s.SameTime t ∧ s.SameLens t ∧ s.SameCooling t ∧ s.SameNews t := by
  have inner := k.inner
  have idx := k.idx
  simp only [State.inner, Prod.mk.injEq] at inner
  simp only [EventWriter.idx, Prod.mk.injEq] at idx
  obtain ⟨_, _, clock, hold, pins, mem, axes, placement, _, fans, thermal, budget, power, notice⟩ := inner
  obtain ⟨hp, hc, hlost, hover⟩ := idx
  exact ⟨mem, ⟨clock, pins, hold⟩, ⟨axes, placement, budget⟩, ⟨fans, thermal, power⟩, notice, hp, hc, hlost, hover⟩

@[simp] theorem State.setHolder_queue (s : State) (k : SlotId) (g : Holder) : (s.setHolder k g).slots.queue = s.slots.queue := by
  unfold State.setHolder; split <;> rfl

@[simp] theorem State.setHolder_writer (s : State) (k : SlotId) (g : Holder) :
    (s.setHolder k g).slots.writer = s.slots.writer := by
  unfold State.setHolder; split <;> rfl

@[simp] theorem State.complete_inner (s : State) (k : SlotId) (r : Result) (body : List Word) :
    (s.complete k r body).inner = s.inner := by
  unfold State.complete State.setHolder; split <;> rfl

@[simp] theorem State.complete_mesh (s : State) (k : SlotId) (r : Result) (body : List Word) :
    (s.complete k r body).mesh = s.mesh := by
  unfold State.complete State.setHolder; split <;> rfl

@[simp] theorem State.complete_path (s : State) (k : SlotId) (r : Result) (body : List Word) :
    (s.complete k r body).path = s.path := by
  unfold State.complete State.setHolder; split <;> rfl

@[simp] theorem State.complete_hold (s : State) (k : SlotId) (r : Result) (body : List Word) :
    (s.complete k r body).hold = s.hold := by
  unfold State.complete State.setHolder; split <;> rfl

@[simp] theorem State.complete_events (s : State) (k : SlotId) (r : Result) (body : List Word) :
    (s.complete k r body).events = s.events := by
  unfold State.complete State.setHolder; split <;> rfl

/-- The completion that an owning unit hands over out of a ready state is at its start. -/
theorem State.Holds.writing {s x : State} {kind : Kind} {p : Post} (a : s.Holds x kind p) (h : s.Ready) (r : Result)
    (body : List Word) (fits : body.length ≤ 15) :
    (x.complete p.slot r body).Writing { slot := p.slot, result := r, body := body } kind.number p.tag 0 where
  queue := by
    have empty : x.slots.queue = [] := (congrArg SlotUnit.queue a.slots).trans h.queue
    simp [State.complete, empty]
  writer := by
    have start : x.slots.writer = Initial.progress := (congrArg SlotUnit.writer a.slots).trans h.writer
    simp [State.complete, start, Initial.progress]
  view := State.view_setHolder_self .completing ((State.view_congr a.slots _).trans (State.view_setView_self _ _ _))
  fits := fits
  within := Nat.zero_le _
  room := fun _ => by
    have buffer : x.path.buffer = [] := (congrArg PathUnit.buffer a.path).trans h.buffer
    rw [State.complete_path, buffer]
    rfl
  words := fun i hi => absurd hi (Nat.not_lt_zero i)

/-- The one law of a request's end: completed out of a ready state, it is answered when the part has settled (R160, R165). -/
theorem State.Holds.answers {s x : State} {kind : Kind} {p : Post} (a : s.Holds x kind p) (h : s.Ready) (r : Result)
    (body : List Word) (fits : body.length ≤ 15) : s.Answers x (x.complete p.slot r body).settle kind p r body := by
  have w := a.writing h r body fits
  have run : (x.complete p.slot r body).hold = .running := (x.complete_hold _ _ _).trans (a.hold.trans h.running)
  have buffer : (x.complete p.slot r body).path.buffer = [] := by
    rw [State.complete_path, a.path]; exact h.buffer
  have quiet : (x.complete p.slot r body).HostQuiet := Or.inl (by rw [State.complete_path, a.path]; exact h.host)
  have kept := State.settle_keeps _ quiet
  have keeps : SettleKeeps x (x.complete p.slot r body).settle :=
    ⟨kept.inner.trans (x.complete_inner _ _ _), by rw [kept.idx, State.complete_events],
      by rw [kept.rest, State.complete_path]⟩
  have noMesh : (x.complete p.slot r body).meshClaim = none :=
    State.meshClaim_none_congr s _ ((x.complete_mesh _ _ _).trans a.mesh) (h.toQuiet.noClaims h.buffer).2.2
  have mem : (x.complete p.slot r body).settle.mem
      = Memory.writeWord s.mem (s.headerBase p.slot) (postHeader kind.number p) 0xF := keeps.blocks.1.trans a.mem
  refine ⟨⟨?_, fun b out => ?_⟩, ⟨?_, fun empty => ?_, fun nonempty => ?_⟩, keeps,
    (State.settle_mesh _ quiet noMesh).trans (x.complete_mesh _ _ _)⟩
  · rw [mem, Memory.readWord_writeWord _ _ _ h.canonical]
  · rw [mem, Memory.get_writeWord_outside _ _ _ _ _ out]
  · cases body with
    | nil => rfl
    | cons b l => exact (w.settle (List.cons_ne_nil b l) run quiet).body_eq
  · exact w.settle_header empty run buffer quiet
  · have done := w.settle nonempty run quiet
    exact ⟨done.queue, done.view⟩

/-- A post of another length than its kind's ends REFUSED/BAD_LENGTH, and the part is as before (R160). -/
theorem State.postRow_badLength {s : State} {p : Post} {body : List Word} (kind : Kind) (h : s.Ready) (posted : s.Posted p body)
    (bad : lengthOk kind body = false) :
    s.Answers (s.taken kind p) (s.postRow kind.number p false) kind p (refusedWith .badLength) [] := by
  have check : postCheck kind false body = some .badLength := by simp [postCheck, bad]
  rw [s.postRow_ready kind.number p h posted.view, State.takePost_handed,
    State.checkAndRoute_refused kind posted check]
  exact State.Holds.answers ⟨rfl, rfl, rfl, rfl, rfl⟩ h _ [] (by simp)

/-- A post that passes its checks is routed to its owning unit (R160, R161). -/
theorem State.postRow_routed {s : State} {p : Post} {body : List Word} (kind : Kind) (h : s.Ready) (posted : s.Posted p body)
    (good : postCheck kind false body = none) :
    s.postRow kind.number p false = ((s.taken kind p).route p.slot kind body).settle := by
  rw [s.postRow_ready kind.number p h posted.view, State.takePost_handed,
    State.checkAndRoute_routed kind posted good]

/-! ### THERMAL_RESUME (R107) -/

/-- A resume is blocked: the overall level is HOT or CRITICAL, or the mode is not RUN. -/
def State.ResumeBlocked (s : State) : Prop :=
  s.thermal.overall = .hot ∨ s.thermal.overall = .critical ∨ s.power.mode ≠ .run

/-- The result of a resume and the thermal monitor after it, in the order of the rule. -/
structure State.Resumes (s : State) (r : Result) (th : Thermal) : Prop where
  already : s.thermal.cutLatch = false → r = doneAlready ∧ th = s.thermal
  blocked : s.thermal.cutLatch = true → s.ResumeBlocked → r = refusedWith .thermalBlock ∧ th = s.thermal
  cleared : s.thermal.cutLatch = true → ¬ s.ResumeBlocked → r = doneOk ∧ th = { s.thermal with cutLatch := false }

/-- A resume is one completion, with the overall level as its body; it reaches the thermal monitor alone. -/
theorem State.takeThermalResume_complete (s : State) (k : SlotId) :
    ∃ r th, s.Resumes r th
      ∧ s.takeThermalResume k = State.complete { s with thermal := th } k r [natWord s.thermal.overall.rank] := by
  unfold State.takeThermalResume
  dsimp only
  split
  · next clear =>
    exact ⟨doneAlready, s.thermal,
      ⟨fun _ => ⟨rfl, rfl⟩, fun set => by simp [clear] at set, fun set => by simp [clear] at set⟩, rfl⟩
  · next set =>
    split
    · next blocked =>
      exact ⟨refusedWith .thermalBlock, s.thermal,
        ⟨fun clear => absurd clear set, fun _ _ => ⟨rfl, rfl⟩, fun _ free => absurd blocked free⟩, rfl⟩
    · next free =>
      exact ⟨doneOk, { s.thermal with cutLatch := false },
        ⟨fun clear => absurd clear set, fun _ blocked => absurd blocked free, fun _ _ => ⟨rfl, rfl⟩⟩, rfl⟩

/-- A posted THERMAL_RESUME is answered in every mode, and nothing but the thermal monitor differs from the taken post. -/
theorem State.postRow_thermalResume {s : State} {p : Post} (h : s.Ready) (posted : s.Posted p []) :
    ∃ r th, s.Resumes r th
      ∧ s.Answers { s.taken .thermalResume p with thermal := th } (s.postRow Kind.thermalResume.number p false) .thermalResume p r
          [natWord s.thermal.overall.rank] := by
  obtain ⟨r, th, outcome, completes⟩ := (s.taken .thermalResume p).takeThermalResume_complete p.slot
  have holds : s.Holds { s.taken .thermalResume p with thermal := th } .thermalResume p := ⟨rfl, rfl, rfl, rfl, rfl⟩
  have answers := holds.answers h r [natWord s.thermal.overall.rank] (by simp)
  have routed : s.postRow Kind.thermalResume.number p false
      = ((s.taken .thermalResume p).takeThermalResume p.slot).settle := State.postRow_routed .thermalResume h posted rfl
  refine ⟨r, th, ⟨outcome.already, outcome.blocked, outcome.cleared⟩, ?_⟩
  rw [routed, completes]
  exact answers

/-- Settles O31: the outcome of the rule is the one completion that the row is, and settling touches no other block. -/
theorem thermalResume : Obligations.ThermalResume := by
  refine ⟨fun s p h posted => ?_, fun s p body h posted long => ?_⟩
  · obtain ⟨r, th, outcome, a⟩ := State.postRow_thermalResume h posted
    obtain ⟨_, time, lens, ⟨fans, thermal, power⟩, news⟩ := a.keeps.blocks
    refine ⟨_, rfl, a.handsOver, fun clear => ?_, fun set blocked => ?_, fun set notHot notCritical running => ?_, fans, power,
      time, lens, a.mesh, news⟩
    · obtain ⟨rfl, rfl⟩ := outcome.already clear
      exact ⟨a.ends, thermal⟩
    · obtain ⟨rfl, rfl⟩ := outcome.blocked set blocked
      exact ⟨a.ends, thermal⟩
    · have free : ¬ s.ResumeBlocked := fun blocked =>
        blocked.elim notHot fun rest => rest.elim notCritical fun mode => mode running
      obtain ⟨rfl, rfl⟩ := outcome.cleared set free
      have run : (s.postRow Kind.thermalResume.number p false).power.mode = .run := (congrArg Power.mode power).trans running
      refine ⟨a.ends, thermal, ?_⟩
      unfold State.cut
      rw [run, thermal]
      rfl
  · have bad : lengthOk .thermalResume body = false := by simpa [lengthOk] using long
    have a := State.postRow_badLength .thermalResume h posted bad
    obtain ⟨_, _, _, ⟨_, thermal, _⟩, _⟩ := a.keeps.blocks
    exact ⟨_, rfl, a.handsOver, a.ends, thermal⟩

end Sys2Proof.Machine
end

section
/-! SUPPORT for O9. The end of service at its live word (R172), a live access that the port answers at once (R146), and how one
event raised out of a ready state comes to stand whole in the buffer (R175, R176). -/

namespace Sys2Proof.Machine

/-! ### The notice controller (R170 to R172) -/

theorem Notice.outranksTop_iff (n : Notice) (x : NoticeSource) :
    n.outranksTop x = true ↔ ∀ top rest, n.stack = top :: rest → x.prio < top.prio := by
  unfold Notice.outranksTop
  cases n.stack with
  | nil => simp
  | cons top rest =>
    simp only [decide_eq_true_eq, List.cons.injEq, and_imp]
    exact ⟨fun above _ _ same _ => same ▸ above, fun above => above top rest rfl rfl⟩

theorem Notice.qualifies_iff (n : Notice) (x : NoticeSource) : n.qualifies x = true ↔ n.Qualified x := by
  simp only [Notice.qualifies, Notice.Qualified, Bool.and_eq_true, Notice.outranksTop_iff, and_assoc]

theorem NoticeSource.mem_allSources (x : NoticeSource) : x ∈ allSources := by cases x <;> decide

/-- NOTICE is asserted while a source qualifies (R170). -/
theorem Notice.line_iff (n : Notice) : n.line = true ↔ ∃ x, n.Qualified x := by
  unfold Notice.line Notice.best
  rw [List.find?_isSome]
  exact ⟨fun ⟨x, _, q⟩ => ⟨x, (n.qualifies_iff x).mp q⟩, fun ⟨x, q⟩ => ⟨x, x.mem_allSources, (n.qualifies_iff x).mpr q⟩⟩

theorem State.endService_top {s : State} {x : NoticeSource} {rest : List NoticeSource} (h : s.notice.stack = x :: rest)
    (data : Word) (be : BitVec 4) : s.endService data be = { s with notice := { s.notice with stack := rest } } := by
  unfold State.endService
  rw [h]

theorem State.endService_empty {s : State} (h : s.notice.stack = []) (data : Word) (be : BitVec 4) :
    s.endService data be = s.raiseCode (eventCode .eosEmpty 0) data (be.setWidth 32) := by
  unfold State.endService
  rw [h]
  rfl

/-! ### Live accesses (R146, R172) -/

/-- The state in which a host access has come to the port. -/
def State.presented (s : State) (x : HostAccess) : State := { s with path := { s.path with host := some x } }

theorem State.hostAccess_presented {s : State} (host : s.path.host = none) (x : HostAccess) :
    s.hostAccess x = (s.presented x).arrive.settle := by
  unfold State.hostAccess
  rw [host]
  rfl

theorem State.arrive_liveRead {s : State} (run : s.hold = .running) {o : Nat} (inside : o < 0x1000) (live : isLive o = true) :
    (s.presented (.read (s.addrOf o))).arrive
      = ((s.presented (.read (s.addrOf o))).liveRead o).2.answerRead ((s.presented (.read (s.addrOf o))).liveRead o).1 := by
  have offset : (s.presented (.read (s.addrOf o))).offsetOf (s.addrOf o) = some o := s.offsetOf_addrOf o inside
  unfold State.arrive
  rw [if_neg (by simp [State.presented, run])]
  simp only [State.presented] at offset ⊢
  rw [offset]
  simp only [live, if_true]

theorem State.arrive_endOfService {s : State} (run : s.hold = .running) (data : Word) (be : BitVec 4) :
    (s.presented (.write (s.addrOf 0x201) data be)).arrive
      = ((s.presented (.write (s.addrOf 0x201) data be)).endService data be).answerWrite := by
  have offset : (s.presented (.write (s.addrOf 0x201) data be)).offsetOf (s.addrOf 0x201) = some 0x201 :=
    s.offsetOf_addrOf 0x201 (by decide)
  have live : isLive 0x201 = true := by decide
  unfold State.arrive
  rw [if_neg (by simp [State.presented, run])]
  simp only [State.presented] at offset ⊢
  rw [offset]
  simp only [live, if_true]

/-- A quiet state whose notices and bus reply alone have changed is settled. -/
theorem State.Quiet.settle_reply {s : State} (h : s.Quiet) (host : s.path.host = none) (n : Notice) (r : Option Reply) :
    State.settle { s with path := { s.path with host := none, reply := r }, notice := n }
      = { s with path := { s.path with reply := r }, notice := n } := by
  have free : { s.path with host := none, reply := r } = { s.path with reply := r } := by rw [← host]
  rw [free]
  exact State.settle_still _
    (State.nextAction_none_congr s _ rfl rfl rfl rfl rfl rfl rfl rfl rfl rfl (by simpa using h.still))

/-- The end-of-service word reads as the code of the top of the stack, and the read changes nothing (R172). -/
theorem State.liveRead_endOfService (s : State) : s.liveRead 0x201 = (s.notice.code s.notice.stack.head?, s) := rfl

/-! ### One event out of a ready state (R175, R176) -/

/-- With room and no overrun to report, an event is placed (R175). -/
theorem State.raiseCode_open {s : State} (run : s.hold = .running) (room : s.RingOpen) (code : Half) (va vb : Word) :
    s.raiseCode code va vb = s.placeRecord code va vb := by
  unfold State.raiseCode
  rw [if_neg (by simp [run]), if_neg (Nat.not_le.mpr room.1), if_neg (by simp [room.2])]

theorem State.eventClaim_none_iff (s : State) : s.eventClaim = none ↔ s.events.claimZero = false ∧ s.events.out = [] := by
  unfold State.eventClaim
  cases zero : s.events.claimZero with
  | true => simp [zero]
  | false =>
    cases out : s.events.out with
    | nil => simp [zero, out]
    | cons r rest =>
      simp only [zero, out, Bool.false_eq_true, if_false]
      split <;> simp

/-- A claim of the event writer puts one entry of its own at the tail of the buffer. -/
theorem State.eventClaim_buffer {s t : State} (h : s.eventClaim = some t) :
    ∃ e : Entry, e.ofWriter = true ∧ t.path.buffer = s.path.buffer ++ [e] := by
  unfold State.eventClaim at h
  dsimp only at h
  split at h
  · cases h; exact ⟨_, rfl, rfl⟩
  · split at h
    · cases h
    · split at h <;> cases h <;> exact ⟨_, rfl, rfl⟩

/-- Nobody but the event writer has anything on its way to memory. -/
structure State.OnlyWriter (s : State) : Prop where
  queue : s.slots.queue = []
  mesh : s.meshClaim = none
  quiet : s.HostQuiet
  mine : ∀ e ∈ s.path.buffer, e.ofWriter = true

theorem State.OnlyWriter.next {s t : State} (h : s.OnlyWriter) (e : s.nextAction = some t) : t.OnlyWriter := by
  have quiet := (s.nextAction_keeps t h.quiet e).2
  rcases s.nextAction_cases t e with claim | ⟨_, grant⟩
  · rcases s.nextClaim_cases t claim with c | ⟨_, c | c⟩
    · rw [s.slotClaim_none_of_queue h.queue] at c
      cases c
    · obtain ⟨x, own, buffer⟩ := State.eventClaim_buffer c
      refine ⟨by rw [s.eventClaim_slots t c]; exact h.queue, s.meshClaim_none_congr t (s.eventClaim_mesh t c) h.mesh, quiet,
        fun y m => ?_⟩
      rw [buffer, List.mem_append, List.mem_singleton] at m
      rcases m with m | rfl
      · exact h.mine y m
      · exact own
    · rw [h.mesh] at c
      cases c
  · have g := s.nextGrant_quiet t h.quiet grant
    exact ⟨by rw [g.slots]; exact h.queue, s.meshClaim_none_congr t g.mesh h.mesh, quiet, by rw [g.buffer]; exact h.mine⟩

theorem State.OnlyWriter.settle {s : State} (h : s.OnlyWriter) : s.settle.OnlyWriter :=
  State.settle_induct (fun _ _ => State.OnlyWriter.next) h

/-- While the buffer has room, a state with nothing left to do has no claim of the event writer. -/
theorem State.eventClaim_none_of_room {s : State} (run : s.hold = .running) (still : s.nextAction = none)
    (room : s.path.buffer.length < Config.bufferSize) : s.eventClaim = none := by
  have quiet : s.Quiet := ⟨run, by rw [still]; rfl⟩
  have noClaim := quiet.noAction.1
  unfold State.nextClaim at noClaim
  rw [if_neg (Nat.not_le.mpr room)] at noClaim
  cases e : s.eventClaim with
  | none => rfl
  | some t => cases c : s.slotClaim <;> simp [c, e] at noClaim

/-- What the event writer alone has on its way stands whole in the buffer once the part has settled, where it finds room. -/
theorem State.OnlyWriter.settle_buffer {s : State} (h : s.OnlyWriter) (run : s.hold = .running) (ok : s.events.FedOk)
    (room : s.ringTraffic.length < Config.bufferSize) :
    s.settle.path.buffer = s.ringTraffic ∧ s.settle.events.out = [] := by
  obtain ⟨traffic, _⟩ := s.settle_ring h.quiet ok
  have mine : s.settle.path.buffer.filter Entry.ofWriter = s.settle.path.buffer :=
    List.filter_eq_self.mpr h.settle.mine
  have short : s.settle.path.buffer.length < Config.bufferSize := by
    refine Nat.lt_of_le_of_lt ?_ room
    rw [← traffic]
    unfold State.ringTraffic
    rw [mine, List.length_append, List.length_append]
    omega
  have running : s.settle.hold = .running := by
    obtain ⟨_, ⟨_, _, hold⟩, _⟩ := (s.settle_keeps h.quiet).blocks
    exact hold.trans run
  obtain ⟨noZero, out⟩ := (State.eventClaim_none_iff _).mp (State.eventClaim_none_of_room running s.settle_ends short)
  refine ⟨?_, out⟩
  rw [← traffic]
  simp [State.ringTraffic, mine, noZero, out]

/-- Out of a ready state nothing is on its way but what the event writer is given. -/
theorem State.Ready.onlyWriter {s x : State} (h : s.Ready) (slots : x.slots = s.slots) (mesh : x.mesh = s.mesh)
    (host : x.path.host = none) (buffer : x.path.buffer = []) : x.OnlyWriter where
  queue := by rw [slots]; exact h.queue
  mesh := State.meshClaim_none_congr s x mesh (h.toQuiet.noClaims h.buffer).2.2
  quiet := Or.inl host
  mine := by simp [buffer]

/-- A record placed out of a ready state is all that the event writer has on its way, and nothing of it is queued yet. -/
theorem State.Ready.ringTraffic_placeRecord {s : State} (h : s.Ready) {path : PathUnit} (buffer : path.buffer = []) (code : Half)
    (va vb : Word) :
    (State.placeRecord { s with path := path } code va vb).ringTraffic = s.recordEntries s.clock.uptime code va vb
      ∧ (State.placeRecord { s with path := path } code va vb).events.FedOk := by
  obtain ⟨_, noEvent, _⟩ := h.toQuiet.noClaims h.buffer
  obtain ⟨noZero, out⟩ := s.eventClaim_none_iff.mp noEvent
  constructor
  · simp [State.ringTraffic, State.placeRecord, buffer, noZero, out, h.fed, Record.entries, State.recordEntries,
      Config.ringSize, Config.eventMark]
  · simp [EventWriter.FedOk, State.placeRecord, h.fed]

/-- The one law of an event out of a ready state: whatever else the path records, the record stands whole in the buffer when the
part has settled, and no block but the event writer has changed. -/
theorem State.Ready.settle_placeRecord {s x : State} (h : s.Ready) {path : PathUnit} (host : path.host = none)
    (buffer : path.buffer = []) (code : Half) (va vb : Word) (placed : x = State.placeRecord { s with path := path } code va vb) :
    SettleKeeps x x.settle ∧ x.settle.mesh = s.mesh ∧ x.settle.slots = s.slots ∧ s.Records x.settle code va vb := by
  subst placed
  obtain ⟨traffic, fed⟩ := h.ringTraffic_placeRecord buffer code va vb
  have only := h.onlyWriter (x := State.placeRecord { s with path := path } code va vb) rfl rfl host buffer
  obtain ⟨whole, done⟩ := only.settle_buffer h.running fed (by rw [traffic]; exact (by decide : 5 < Config.bufferSize))
  have keeps := State.settle_keeps _ only.quiet
  obtain ⟨_, ⟨clock, _⟩, _, _, _, p, c, _⟩ := keeps.blocks
  refine ⟨keeps, State.settle_mesh _ only.quiet only.mesh, State.settle_slots _ only.quiet only.queue, ?_, p, c, done⟩
  rw [whole, traffic, clock]
  rfl

/-! ### The end of service (R172) -/

theorem State.hostAccess_endOfService_top {s : State} {x : NoticeSource} {rest : List NoticeSource} (h : s.Quiet)
    (host : s.path.host = none) (stack : s.notice.stack = x :: rest) (data : Word) (be : BitVec 4) :
    s.hostAccess (.write (s.addrOf 0x201) data be)
      = { s with path := { s.path with reply := some .writeDone }, notice := { s.notice with stack := rest } } := by
  rw [State.hostAccess_presented host, State.arrive_endOfService h.running, State.endService_top (s := s.presented _) stack]
  exact h.settle_reply host _ _

theorem State.hostAccess_endOfService_empty {s : State} (h : s.Ready) (room : s.RingOpen) (stack : s.notice.stack = [])
    (data : Word) (be : BitVec 4) :
    s.hostAccess (.write (s.addrOf 0x201) data be)
      = (State.placeRecord { s with path := { s.path with host := none, reply := some .writeDone } } (eventCode .eosEmpty 0) data
          (be.setWidth 32)).settle := by
  rw [State.hostAccess_presented h.host, State.arrive_endOfService h.running, State.endService_empty (s := s.presented _) stack,
    State.raiseCode_open (s := s.presented _) h.running room]
  rfl

theorem State.hostAccess_endOfService_read {s : State} (h : s.Quiet) (host : s.path.host = none) :
    s.hostAccess (.read (s.addrOf 0x201))
      = { s with path := { s.path with reply := some (.readData (s.notice.code s.notice.stack.head?)) } } := by
  rw [State.hostAccess_presented host, State.arrive_liveRead h.running (by decide) (by decide), State.liveRead_endOfService]
  exact h.settle_reply host _ _

/-- Settles O9: a write to the live word is answered as it arrives; of an empty stack the one event is all that settling moves. -/
theorem endOfService : Obligations.EndOfService := by
  refine ⟨fun s data be x rest h host stack => ?_, fun s data be h room stack => ?_, fun s h host => ?_,
    fun s => s.notice.line_iff⟩
  · exact congrArg Host.Outcome.next (State.hostAccess_endOfService_top h host stack data be)
  · obtain ⟨keeps, mesh, slots, records⟩ :=
      h.settle_placeRecord (path := { s.path with host := none, reply := some .writeDone }) rfl h.buffer
        (eventCode .eosEmpty 0) data (be.setWidth 32) rfl
    obtain ⟨mem, ⟨clock, pins, hold⟩, lens, cooling, notice, _⟩ := keeps.blocks
    have rest := keeps.rest
    simp only [PathUnit.outerRest, Prod.mk.injEq] at rest
    obtain ⟨_, free, reply, _⟩ := rest
    exact ⟨_, congrArg Host.Outcome.next (State.hostAccess_endOfService_empty h room stack data be), notice, reply, free,
      ⟨mem, clock, pins, hold⟩, lens, cooling, mesh, slots, records⟩
  · refine (congrArg Host.Outcome.next (State.hostAccess_endOfService_read h host)).trans ?_
    cases e : s.notice.stack <;> simp [Notice.code]

end Sys2Proof.Machine
end

section
/-! SUPPORT for O53. The selector word and its test (R181), what the reset-time read sets (R78, R79), and what settling keeps of
the banks and of a build when a host access has waited behind that read. -/

namespace Sys2Proof.Machine

/-! ### The selector word (R181) -/

/-- A word names a bank by its three fields. -/
theorem readSelector_eq_some (w : Word) (bank : Bank) (g : Half) :
    readSelector w = some (bank, g) ↔
      w.extractLsb' 24 8 = 0 ∧ g = w.extractLsb' 8 16
        ∧ ((w.extractLsb' 0 8 = 1 ∧ bank = .a) ∨ (w.extractLsb' 0 8 = 2 ∧ bank = .b)) := by
  unfold readSelector
  split
  · next high => exact ⟨nofun, fun ⟨zero, _⟩ => absurd zero high⟩
  · next high =>
    have zero : w.extractLsb' 24 8 = 0 := not_not.mp high
    split
    · next isA => simp [zero, isA, eq_comm, and_comm]
    · next notA =>
      split
      · next isB => simp [zero, isB, eq_comm, and_comm]
      · next notB =>
        refine ⟨nofun, fun ⟨_, _, code⟩ => ?_⟩
        obtain ⟨isA, _⟩ | ⟨isB, _⟩ := code
        · exact absurd isA notA
        · exact absurd isB notB

@[simp] theorem selectorWord_high (bank : Bank) (g : Half) : (selectorWord bank g).extractLsb' 24 8 = 0 :=
  calc (selectorWord bank g).extractLsb' 24 8
      = (0#8 ++ g).extractLsb' 16 8 := BitVec.extractLsb'_append_eq_of_le (by decide)
    _ = 0#8 := BitVec.extractLsb'_append_eq_left

@[simp] theorem selectorWord_gen (bank : Bank) (g : Half) : (selectorWord bank g).extractLsb' 8 16 = g :=
  calc (selectorWord bank g).extractLsb' 8 16
      = (0#8 ++ g).extractLsb' 0 16 := BitVec.extractLsb'_append_eq_of_le (by decide)
    _ = g := BitVec.extractLsb'_append_eq_right

@[simp] theorem selectorWord_bank (bank : Bank) (g : Half) :
    (selectorWord bank g).extractLsb' 0 8 = BitVec.ofNat 8 bank.number :=
  BitVec.extractLsb'_append_eq_right

/-- Every selector that the part writes names its bank and generation. -/
@[simp] theorem readSelector_selectorWord (bank : Bank) (g : Half) : readSelector (selectorWord bank g) = some (bank, g) := by
  rw [readSelector_eq_some, selectorWord_high, selectorWord_gen, selectorWord_bank]
  cases bank <;> simp [Bank.number]

/-! ### The read-back (R78, R79) -/

/-- The generator's record as the answer to the reset-time read leaves it, before the generator acts on its dirty flag. -/
def Mesh.readBack (m : Mesh) : Option (Bank × Half) → Mesh
  | some (bank, g) =>
    { (Mesh.setMark { m with gen := g, retireTimer := some Config.retirementMs } bank .selected).setMark (otherBank bank)
        .retiring with
      awaitRead := false }
  | none => { m with gen := 0, markA := .free, markB := .free, retireTimer := none, awaitRead := false }

/-- The answer sets the record, and the generator then acts on its dirty flag. -/
theorem State.selectorAnswer_eq (s : State) (w : Option Word) :
    s.selectorAnswer w = State.meshRun { s with mesh := s.mesh.readBack (w.bind readSelector) } := by
  unfold State.selectorAnswer
  cases w.bind readSelector with
  | none => rfl
  | some found => rfl

/-- What the read-back sets. -/
def Mesh.banks (m : Mesh) := (m.awaitRead, m.gen, m.markA, m.markB, m.retireTimer)

theorem Mesh.banks_core (m : Mesh) : m.core.banks = m.banks := rfl

theorem Mesh.banks_iff (m n : Mesh) :
    n.banks = m.banks ↔
      n.awaitRead = m.awaitRead ∧ n.gen = m.gen ∧ n.markA = m.markA ∧ n.markB = m.markB ∧ n.retireTimer = m.retireTimer := by
  simp [Mesh.banks]

theorem Mesh.mark_of_banks {m n : Mesh} (h : n.banks = m.banks) (bank : Bank) : n.mark bank = m.mark bank := by
  obtain ⟨_, _, a, b, _⟩ := (Mesh.banks_iff m n).mp h
  cases bank
  · exact a
  · exact b

@[simp] theorem Mesh.readBack_awaitRead (m : Mesh) (found : Option (Bank × Half)) : (m.readBack found).awaitRead = false := by
  cases found <;> rfl

/-- A word that names a bank sets the generation, the marks and the timer of the bank to retire. -/
theorem Mesh.readBack_some (m : Mesh) (bank : Bank) (g : Half) :
    (m.readBack (some (bank, g))).gen = g ∧ (m.readBack (some (bank, g))).mark bank = .selected
      ∧ (m.readBack (some (bank, g))).mark (otherBank bank) = .retiring
      ∧ (m.readBack (some (bank, g))).retireTimer = some 100 := by
  cases bank <;> exact ⟨rfl, rfl, rfl, rfl⟩

/-- The generator acts on its dirty flag without touching marks, generation or timer (R71). -/
@[simp] theorem State.meshRun_banks (s : State) : s.meshRun.mesh.banks = s.mesh.banks := by
  unfold State.meshRun
  dsimp only
  split
  · split <;> rfl
  · rfl

/-- In IDLE with the dirty flag set and a FREE target the build begins at once (R71). -/
theorem State.meshRun_idle {s : State} (idle : s.mesh.st = .idle) (dirty : s.mesh.dirty = true)
    (read : s.mesh.awaitRead = false) (free : s.mesh.mark s.mesh.target = .free) : s.meshRun = s.takeSnapshot := by
  simp [State.meshRun, idle, dirty, read, free]

/-! ### Settling with a host access waiting -/

theorem State.mem_of_outer {s t : State} (h : t.outer = s.outer) : t.mem = s.mem := congrArg (fun o => o.2.2.2.2.2.1) h

@[simp] theorem State.raiseNotice_mesh (s : State) (n : NoticeSource) : (s.raiseNotice n).mesh = s.mesh := by
  unfold State.raiseNotice; split <;> rfl

@[simp] theorem State.loseEvent_mesh (s : State) : s.loseEvent.mesh = s.mesh := by
  unfold State.loseEvent
  dsimp only
  split
  · rfl
  · exact State.raiseNotice_mesh _ _

@[simp] theorem State.raiseCode_mesh (s : State) (code : Half) (va vb : Word) : (s.raiseCode code va vb).mesh = s.mesh := by
  unfold State.raiseCode
  split
  · rfl
  · split
    · exact s.loseEvent_mesh
    · split
      · dsimp only
        split
        · exact State.loseEvent_mesh _
        · rfl
      · rfl

@[simp] theorem State.consumerWrite_mesh (s : State) (data : Word) (be : BitVec 4) : (s.consumerWrite data be).mesh = s.mesh := by
  unfold State.consumerWrite
  dsimp only
  split
  · rfl
  · exact State.raiseCode_mesh _ _ _ _

@[simp] theorem State.heartbeatWrite_mesh (s : State) : s.heartbeatWrite.mesh = s.mesh := by
  unfold State.heartbeatWrite
  dsimp only
  split
  · split <;> rfl
  · rfl
  · exact (State.refreshFans_only _).mesh.trans (State.raiseCode_mesh _ _ _ _)

@[simp] theorem State.tellWrite_mesh (s : State) (o : Nat) (data : Word) (be : BitVec 4) :
    (s.tellWrite o data be).mesh = s.mesh := by
  unfold State.tellWrite
  split
  · exact s.consumerWrite_mesh data be
  · split
    · exact s.heartbeatWrite_mesh
    · rfl

@[simp] theorem State.tellWrite_outer (s : State) (o : Nat) (data : Word) (be : BitVec 4) :
    (s.tellWrite o data be).outer = s.outer := by
  unfold State.tellWrite
  split
  · exact s.consumerWrite_outer data be
  · split
    · exact s.heartbeatWrite_outer
    · rfl

@[simp] theorem State.tellWrite_mem (s : State) (o : Nat) (data : Word) (be : BitVec 4) :
    (s.tellWrite o data be).mem = s.mem := State.mem_of_outer (s.tellWrite_outer o data be)

@[simp] theorem State.raiseCode_mem (s : State) (code : Half) (va vb : Word) : (s.raiseCode code va vb).mem = s.mem :=
  State.mem_of_outer (s.raiseCode_outer code va vb)

/-- A grant of a host access moves neither the memory nor the mesh generator: a write reaches memory when its cycle ends. -/
theorem State.grantHost_keeps (s : State) (x : HostAccess) :
    (s.grantHost x).mesh = s.mesh ∧ (s.grantHost x).mem = s.mem := by
  cases x with
  | read addr =>
    simp only [State.grantHost]
    split <;> exact ⟨rfl, rfl⟩
  | write addr data be =>
    simp only [State.grantHost]
    split
    · exact ⟨rfl, rfl⟩
    · split
      · exact ⟨State.raiseCode_mesh _ _ _ _, State.raiseCode_mem _ _ _ _⟩
      · exact ⟨State.tellWrite_mesh _ _ _ _, State.tellWrite_mem _ _ _ _⟩

/-- What a grant can be: a cycle of the part's own begins, or a host access is granted. -/
theorem State.nextGrant_cases {s t : State} (h : s.nextGrant = some t) :
    ∃ path, (∃ k, t = State.beginCycle { s with path := path } k) ∨ ∃ x, t = State.grantHost { s with path := path } x := by
  unfold State.nextGrant at h
  split at h
  · cases h
  · dsimp only at h
    split at h
    · cases h; exact ⟨_, .inl ⟨_, rfl⟩⟩
    · split at h
      · split at h
        · cases h
        · cases h; exact ⟨_, .inl ⟨_, rfl⟩⟩
      · split at h
        · cases h; exact ⟨_, .inr ⟨_, rfl⟩⟩
        · split at h
          · cases h; exact ⟨_, .inr ⟨_, rfl⟩⟩
          · cases h; exact ⟨_, .inl ⟨_, rfl⟩⟩

theorem State.nextGrant_mesh_mem {s t : State} (h : s.nextGrant = some t) : t.mesh = s.mesh ∧ t.mem = s.mem := by
  obtain ⟨path, ⟨k, rfl⟩ | ⟨x, rfl⟩⟩ := State.nextGrant_cases h
  · exact ⟨rfl, rfl⟩
  · exact State.grantHost_keeps _ x

/-- Of the claims and grants only the mesh generator's own claim moves the mesh generator. -/
theorem State.nextAction_mesh {s t : State} (h : s.nextAction = some t) : t.mesh = s.mesh ∨ s.meshClaim = some t := by
  rcases s.nextAction_cases t h with claim | ⟨_, grant⟩
  · rcases s.nextClaim_cases t claim with c | ⟨_, c | c⟩
    · exact .inl (s.slotClaim_mesh t c)
    · exact .inl (s.eventClaim_mesh t c)
    · exact .inr c
  · exact .inl (State.nextGrant_mesh_mem grant).1

theorem ClaimKeeps.core {s t : State} (k : ClaimKeeps s t) : t.mesh.core = s.mesh.core :=
  congrArg (fun i => i.2.2.2.2.2.2.2.2.1) k.inner

theorem ClaimKeeps.mem {s t : State} (k : ClaimKeeps s t) : t.mem = s.mem := congrArg (fun i => i.2.2.2.2.2.1) k.inner

/-- Settling moves no byte of memory, whatever host access it grants. -/
theorem State.settle_mem (s : State) : s.settle.mem = s.mem := by
  refine State.settle_induct (P := fun u => u.mem = s.mem) (fun u v same e => ?_) rfl
  rcases u.nextAction_cases v e with claim | ⟨_, grant⟩
  · exact (u.nextClaim_keeps v claim).mem.trans same
  · exact (State.nextGrant_mesh_mem grant).2.trans same

/-- Settling moves no mark, generation or timer of the banks, whatever host access it grants. -/
theorem State.settle_banks (s : State) : s.settle.mesh.banks = s.mesh.banks := by
  refine State.settle_induct (P := fun u => u.mesh.banks = s.mesh.banks) (fun u v same e => ?_) rfl
  rcases State.nextAction_mesh e with kept | claim
  · rw [kept, same]
  · rw [← same, ← Mesh.banks_core, (u.meshClaim_keeps v claim).core, Mesh.banks_core]

/-- A build of which no word has left the buffer: it cannot end while the part settles, since the selector is queued only when
every word has drained (R72). -/
structure Mesh.Filling (m : Mesh) (sn : Snapshot) : Prop where
  building : m.st = .building
  snapshot : m.snapshot = some sn
  held : m.progress.inBuffer = m.progress.queued

theorem State.meshClaim_filling {s t : State} {sn : Snapshot} (h : s.mesh.Filling sn) (e : s.meshClaim = some t) :
    t.mesh.Filling sn := by
  obtain ⟨building, snapshot, held⟩ := h
  simp only [State.meshClaim, snapshot, building] at e
  split at e
  · cases e
    exact ⟨rfl, rfl, congrArg (· + 1) held⟩
  · next all =>
    have words : s.mesh.progress.inBuffer ≠ 0 := by
      simp only [Config.bankWords] at all
      omega
    rw [if_neg (fun c => words c.1)] at e
    cases e

theorem State.settle_filling {s : State} {sn : Snapshot} (h : s.mesh.Filling sn) : s.settle.mesh.Filling sn := by
  refine State.settle_induct (P := fun u => u.mesh.Filling sn) (fun u v filling e => ?_) h
  rcases State.nextAction_mesh e with kept | claim
  · rw [kept]; exact filling
  · exact State.meshClaim_filling filling claim

/-! ### The answer to the reset-time read -/

/-- The word that the reset-time read returns (R78). -/
def State.selectorRead (s : State) : Option (Bank × Half) :=
  readSelector (Memory.readWord s.mem (wordBase (s.addrOf selectorOffset)))

theorem State.answerCycle_selector {s : State} {left : Nat} (port : s.path.port = some { kind := .selector, left := left }) :
    s.answerCycle = (State.meshRun { s.freePort with mesh := s.mesh.readBack s.selectorRead }).settle := by
  have answered : s.answerCycle = (s.freePort.answerKind .selector).settle := by
    unfold State.answerCycle
    rw [port]
  rw [answered]
  exact congrArg State.settle (State.selectorAnswer_eq _ _)

theorem State.answerCycle_selector_mem {s : State} {left : Nat} (port : s.path.port = some { kind := .selector, left := left }) :
    s.answerCycle.mem = s.mem := by
  rw [State.answerCycle_selector port, State.settle_mem, State.mem_of_outer (State.meshRun_outer _)]
  rfl

theorem State.answerCycle_selector_banks {s : State} {left : Nat}
    (port : s.path.port = some { kind := .selector, left := left }) :
    s.answerCycle.mesh.banks = (s.mesh.readBack s.selectorRead).banks := by
  rw [State.answerCycle_selector port, State.settle_banks, State.meshRun_banks]

/-- With no bank named, a generator that is to build begins generation 1 in bank A at once (R79). -/
theorem State.answerCycle_selector_builds {s : State} {left : Nat}
    (port : s.path.port = some { kind := .selector, left := left }) (unnamed : s.selectorRead = none)
    (idle : s.mesh.st = .idle) (dirty : s.mesh.dirty = true) :
    s.answerCycle.mesh.Filling { params := s.meshParams, gen := 1, bank := .a } := by
  have begun := State.meshRun_idle (s := { s.freePort with mesh := s.mesh.readBack none }) idle dirty rfl rfl
  rw [State.answerCycle_selector port, unnamed, begun]
  exact State.settle_filling ⟨rfl, rfl, rfl⟩

/-- Settles O53: the answer leaves the banks as `Mesh.readBack` sets them, and settling keeps them and the build begun. -/
theorem selectorNames : Obligations.SelectorNames := by
  refine ⟨readSelector_eq_some, readSelector_selectorWord, fun s left _ port => ?_⟩
  have banks := State.answerCycle_selector_banks port
  obtain ⟨read, gen, markA, markB, timer⟩ := (Mesh.banks_iff _ _).mp banks
  refine ⟨_, rfl, read.trans (Mesh.readBack_awaitRead _ _), State.answerCycle_selector_mem port,
    fun bank g (named : s.selectorRead = some (bank, g)) => ?_, fun (unnamed : s.selectorRead = none) => ?_⟩
  · rw [gen, Mesh.mark_of_banks banks, Mesh.mark_of_banks banks, timer, named]
    exact s.mesh.readBack_some bank g
  · rw [gen, markA, markB, timer, unnamed]
    refine ⟨rfl, rfl, rfl, rfl, fun idle dirty => ?_⟩
    obtain ⟨building, snapshot, _⟩ := State.answerCycle_selector_builds port unnamed idle dirty
    exact ⟨building, snapshot⟩

end Sys2Proof.Machine
end

section
/-! SUPPORT for O54, O55, O56, O58 and O59. Every command is a run of small changes: a change of a block's own record, a
recomputation of the allotments, an event, a claim, the passing of time, a reset. What those changes keep, every step keeps. -/

namespace Sys2Proof.Machine

/-! ### The small changes -/

/-- What the blocks share beside the supply: queue of commands, clock, reset state, memory, memory path, notices, events. -/
def State.base (t : State) := (t.pending, t.clock, t.hold, t.mem, t.path, t.notice, t.events)

/-- What the blocks share: that, the supply budget and what each fan draws. -/
def State.shared (t : State) := (t.base, t.budget, t.fans.map Fan.drive)

/-- Counts of the memory path unit within their ranges (R145, R148, R150). -/
def PathUnit.InRange (p : PathUnit) : Prop :=
  p.buffer.length ≤ Config.bufferSize ∧ p.streak ≤ Config.streakLimit ∧ p.refusals ≤ Config.countCap

/-- What the release of RESET does before the fans' demands are formed (R36, R117, R155, R179). -/
def State.unheld (s : State) : State :=
  let t := if s.hold = .powerOn then { s with axes := s.axes.map Axis.takeLevels } else s
  { t with
    hold := .running
    budget := { t.budget with capacity := Config.capacity t.pins.supplyLow }
    path := { t.path with selPending := true }
    events := { t.events with claimZero := true } }

/-- A run of small changes leads from one state to another. -/
inductive State.Leads (s : State) : State → Prop
  | refl : s.Leads s
  /-- a block changes its own record -/
  | own {t u : State} (h : s.Leads t) (e : u.shared = t.shared) : s.Leads u
  /-- a change of desires, order, capacity or fan draw, with the recomputation of R122 -/
  | supply {t u : State} (h : s.Leads t) (e : u.base = t.base) : s.Leads u.rebudget
  | notice {t : State} {n : Notice} (h : s.Leads t)
      (rises : stackRises t.notice.stack = true → stackRises n.stack = true) : s.Leads { t with notice := n }
  | event {t : State} (h : s.Leads t) (code : Half) (va vb : Word) : s.Leads (t.raiseCode code va vb)
  /-- the host moves the consumer index on (R177) -/
  | consume {t : State} {c : Half} (h : s.Leads t)
      (within : (c - t.events.c).toNat ≤ (t.events.q - t.events.c).toNat) :
      s.Leads { t with events := { t.events with c := c } }
  | pass {t : State} (h : s.Leads t) (us : Nat) : s.Leads (t.pass us)
  | tick {t : State} (h : s.Leads t) : s.Leads { t with clock := { t.clock with fanTick := 1000 } }
  | path {t : State} {p : PathUnit} (h : s.Leads t) (range : t.path.InRange → p.InRange) : s.Leads { t with path := p }
  | write {t : State} (h : s.Leads t) (base : Nat) (w : Word) (be : BitVec 4) :
      s.Leads { t with mem := Memory.writeWord t.mem base w be }
  | claim {t u : State} (h : s.Leads t) (e : t.nextClaim = some u) : s.Leads u
  | powerOn {t : State} (h : s.Leads t) (pins : PinLevels) : s.Leads (t.powerOn pins)
  | reset {t : State} (h : s.Leads t) (straps : Straps) : s.Leads (t.assertReset straps)
  | release {t : State} (h : s.Leads t) (held : t.hold ≠ .running) : s.Leads t.unheld.refreshFans

theorem State.base_of_shared {s t : State} (h : t.shared = s.shared) : t.base = s.base := (Prod.mk.inj h).1

namespace State.Leads

section
variable {s t : State}

theorem ite {c : Prop} [Decidable c] {u v : State} (hu : s.Leads u) (hv : s.Leads v) : s.Leads (if c then u else v) := by
  split <;> assumption

/-! ### Ops -/

theorem setAxis {a : AxisId} {x : Axis} (h : s.Leads t) : s.Leads (t.setAxis a x) := h.own rfl

theorem setChannel {c : ChannelId} {x : Channel} (h : s.Leads t) : s.Leads (t.setChannel c x) := h.own rfl

theorem setView {k : SlotId} {v : SlotView} (h : s.Leads t) : s.Leads (t.setView k v) := h.own rfl

/-- A change of a fan's record that does not change what it draws. -/
theorem setFan {f : FanId} {x : Fan} (h : s.Leads t) (drive : x.drive = (t.fan f).drive) : s.Leads (t.setFan f x) := by
  refine h.own ?_
  cases f <;> simp only [State.shared, State.base, State.setFan, State.fan, PerFan.set, PerFan.get, PerFan.map] at * <;>
    rw [drive]

theorem raiseNotice {n : NoticeSource} (h : s.Leads t) : s.Leads (t.raiseNotice n) := ite (h.notice id) h

theorem raiseEvent {k : EventKind} {subject : Nat} {va vb : Word} (h : s.Leads t) :
    s.Leads (t.raiseEvent k subject va vb) :=
  h.event _ _ _

theorem setHolder {k : SlotId} {g : Holder} (h : s.Leads t) : s.Leads (t.setHolder k g) := by
  unfold State.setHolder
  split
  · exact h
  · exact setView h

theorem complete {k : SlotId} {r : Result} {body : List Word} (h : s.Leads t) : s.Leads (t.complete k r body) :=
  own (setHolder h) rfl

theorem completeRef {ref : Option SlotId} {r : Result} {body : List Word} (h : s.Leads t) :
    s.Leads (t.completeRef ref r body) := by
  cases ref with
  | none => exact h
  | some k => exact complete h

/-- Requests of a list that end one after another. -/
theorem foldl_complete {α : Type} {l : List α} {slot : α → SlotId} {r : Result} {body : State → List Word} (h : s.Leads t) :
    s.Leads (l.foldl (fun u x => u.complete (slot x) r (body u)) t) := by
  induction l generalizing t with
  | nil => exact h
  | cons x l ih => exact ih (complete h)

/-! ### Budget and encoder -/

theorem setDesire {a : AxisId} {c : Class} (h : s.Leads t) : s.Leads (t.setDesire a c) := h.supply rfl

theorem joinOrder {a : AxisId} {c : Class} (h : s.Leads t) : s.Leads (t.joinOrder a c) := h.supply rfl

theorem leaveOrder {a : AxisId} (h : s.Leads t) : s.Leads (t.leaveOrder a) := h.supply rfl

theorem supplyEdge {low : Bool} (h : s.Leads t) : s.Leads (t.supplyEdge low) :=
  have edge : s.Leads { t with pins := { t.pins with supplyLow := low } } := h.own rfl
  ite h (ite edge (raiseEvent (edge.supply rfl)))

theorem enterStopping {a : AxisId} {r : Result} (h : s.Leads t) : s.Leads (t.enterStopping a r) := setDesire (setAxis h)

theorem stopCause {a : AxisId} {c : ResCode} (h : s.Leads t) : s.Leads (t.stopCause a c) := ite (enterStopping h) h

theorem stopBoth {c : ResCode} (h : s.Leads t) : s.Leads (t.stopBoth c) := stopCause (stopCause h)

theorem addNoise {a : AxisId} (h : s.Leads t) : s.Leads (t.addNoise a) := by
  unfold State.addNoise
  dsimp only
  split
  · exact h
  · exact ite h (ite (raiseEvent (setAxis h)) (setAxis h))

theorem rejectEdge {a : AxisId} (h : s.Leads t) : s.Leads (t.rejectEdge a) := addNoise (setAxis h)

theorem phaseError {a : AxisId} (h : s.Leads t) : s.Leads (t.phaseError a) := addNoise (setAxis h)

theorem setCounter {a : AxisId} {w : Word} (h : s.Leads t) : s.Leads (t.setCounter a w) := setAxis h

theorem homeFound {a : AxisId} (h : s.Leads t) : s.Leads (t.homeFound a) := enterStopping (setAxis (setCounter h))

theorem homeFail {a : AxisId} (h : s.Leads t) : s.Leads (t.homeFail a) := enterStopping (setAxis h)

theorem slipCheck {a : AxisId} (h : s.Leads t) : s.Leads (t.slipCheck a) :=
  ite h (enterStopping (raiseEvent (setAxis h)))

theorem indexEvent {a : AxisId} (h : s.Leads t) : s.Leads (t.indexEvent a) := by
  unfold State.indexEvent
  refine ite h ?_
  split
  · exact homeFound h
  · exact ite (slipCheck h) h
  · exact ite (slipCheck h) h
  · exact h
  · exact h
  · exact h

theorem spanCheck {a : AxisId} (h : s.Leads t) : s.Leads (t.spanCheck a) := ite (homeFail h) h

theorem decoderUpdate {a : AxisId} {l : EncLevels} (h : s.Leads t) : s.Leads (t.decoderUpdate a l) := by
  unfold State.decoderUpdate
  dsimp only
  have counted {c d : Prop} [Decidable c] [Decidable d] {x : Axis} {w : Word} :
      s.Leads (if c then (t.setAxis a x).phaseError a else if d then t.setAxis a x else (t.setAxis a x).setCounter a w) :=
    ite (phaseError (setAxis h)) (ite (setAxis h) (setCounter (setAxis h)))
  exact ite (ite (indexEvent counted) counted) (spanCheck (ite (indexEvent counted) counted))

theorem rejectEdges {a : AxisId} {n : Nat} (h : s.Leads t) : s.Leads (t.rejectEdges a n) := by
  induction n generalizing t with
  | zero => exact h
  | succ n ih => exact ih (rejectEdge h)

theorem encoderLevels {a : AxisId} {l : EncLevels} (h : s.Leads t) : s.Leads (t.encoderLevels a l) :=
  ite (setAxis h) (ite (decoderUpdate (rejectEdges (setAxis h))) (rejectEdges (setAxis h)))

theorem acceptInputs {a : AxisId} {m : EncLevels} (h : s.Leads t) : s.Leads (t.acceptInputs a m) :=
  ite h (decoderUpdate (setAxis h))

/-! ### Mesh -/

theorem setMesh {m : Mesh} (h : s.Leads t) : s.Leads { t with mesh := m } := h.own rfl

theorem takeSnapshot (h : s.Leads t) : s.Leads t.takeSnapshot := setMesh h

theorem meshRun (h : s.Leads t) : s.Leads t.meshRun := ite (ite (takeSnapshot h) (setMesh h)) h

theorem markDirty (h : s.Leads t) : s.Leads t.markDirty := meshRun (setMesh h)

theorem takeFsync (h : s.Leads t) : s.Leads t.takeFsync := meshRun (setMesh h)

theorem retireExpiry (h : s.Leads t) : s.Leads t.retireExpiry := meshRun (ite (setMesh h) (raiseEvent (setMesh h)))

theorem endReached {g : Half} {l : List Waiting} (h : s.Leads t) : s.Leads (t.endReached g l) := by
  induction l generalizing t with
  | nil => exact h
  | cons w l ih => exact ih (ite (complete h) h)

theorem joinWaiting {k : SlotId} {needed : Half} (h : s.Leads t) : s.Leads (t.joinWaiting k needed) := setHolder (setMesh h)

theorem takeCornerRecord {k : SlotId} {c : Corners} (h : s.Leads t) : s.Leads (t.takeCornerRecord k c) :=
  ite (markDirty (joinWaiting (setMesh h))) (complete h)

theorem abortWaiting {k : SlotId} (h : s.Leads t) : s.Leads (t.abortWaiting k) := complete (setMesh h)

theorem selectorAnswer {w : Option Word} (h : s.Leads t) : s.Leads (t.selectorAnswer w) := meshRun (setMesh h)

/-! ### Fans and thermal monitor -/

theorem drawFan {f : FanId} {x : Fan} (h : s.Leads t) : s.Leads (t.drawFan f x) := h.supply rfl

theorem refreshFans (h : s.Leads t) : s.Leads t.refreshFans := drawFan (drawFan (drawFan h))

theorem tickFans (h : s.Leads t) : s.Leads t.tickFans := drawFan (drawFan (drawFan h))

theorem setThermal {m : Thermal} (h : s.Leads t) : s.Leads { t with thermal := m } := h.own rfl

theorem takeFanFloor {k : SlotId} {body : List Word} (h : s.Leads t) : s.Leads (t.takeFanFloor k body) :=
  complete (refreshFans (setFan h rfl))

theorem updateOverall {subject : Nat} (h : s.Leads t) : s.Leads (t.updateOverall subject) :=
  have told : ∀ m, s.Leads (State.refreshFans (State.raiseEvent { t with thermal := { t.thermal with overall := t.overallNow } }
      .thermalLevel subject (natWord t.overallNow.rank) m)) := fun _ => refreshFans (raiseEvent (setThermal h))
  ite h (ite (raiseNotice (stopBoth (setThermal (told _)))) (told _))

theorem fanStall {f : FanId} (h : s.Leads t) : s.Leads (t.fanStall f) :=
  ite (raiseEvent (drawFan h)) (updateOverall (raiseNotice (raiseEvent (raiseEvent (drawFan h)))))

theorem tachSilence {f : FanId} (h : s.Leads t) : s.Leads (t.tachSilence f) :=
  ite (fanStall (setFan h rfl)) (setFan h rfl)

theorem takeFanReport {k : SlotId} {body : List Word} (h : s.Leads t) : s.Leads (t.takeFanReport k body) :=
  complete (ite h (ite (updateOverall (drawFan h)) (setFan h rfl)))

theorem restartTimers {ms : Nat} (h : s.Leads t) : s.Leads (t.restartTimers ms) := setThermal h

theorem handCurves {c : ChannelId} (h : s.Leads t) : s.Leads (t.handCurves c) := h.own rfl

theorem channelReading {c : ChannelId} {code : Int} (h : s.Leads t) : s.Leads (t.channelReading c code) := by
  unfold State.channelReading
  dsimp only
  exact updateOverall (refreshFans (ite (handCurves (ite (raiseEvent (setChannel h)) (setChannel h)))
    (ite (raiseEvent (setChannel h)) (setChannel h))))

theorem takeThresholds {k : SlotId} {body : List Word} (h : s.Leads t) : s.Leads (t.takeThresholds k body) :=
  complete (setChannel h)

theorem takeThermalResume {k : SlotId} (h : s.Leads t) : s.Leads (t.takeThermalResume k) :=
  ite (complete h) (ite (complete h) (complete (setThermal h)))

theorem takeFanCurve {k : SlotId} {body : List Word} (h : s.Leads t) : s.Leads (t.takeFanCurve k body) := by
  unfold State.takeFanCurve
  dsimp only
  exact complete (ite (refreshFans (setFan (setThermal h) rfl)) (setThermal h))

theorem heartbeatWrite (h : s.Leads t) : s.Leads t.heartbeatWrite := by
  unfold State.heartbeatWrite
  dsimp only
  split
  · exact ite (setThermal h) (setThermal h)
  · exact setThermal h
  · exact refreshFans (raiseEvent (setThermal h))

theorem hostLost (h : s.Leads t) : s.Leads t.hostLost := stopBoth (refreshFans (raiseEvent (setThermal h)))

theorem disarm (h : s.Leads t) : s.Leads t.disarm := setThermal h

/-! ### Power sequencer -/

theorem setPower {p : Power} (h : s.Leads t) : s.Leads { t with power := p } := h.own rfl

theorem recool (h : s.Leads t) : s.Leads t.recool := raiseNotice (refreshFans (restartTimers (setPower h)))

theorem enterStandby (h : s.Leads t) : s.Leads t.enterStandby :=
  raiseNotice (refreshFans (restartTimers (disarm (setPower h))))

theorem endCooldown {r : Result} (h : s.Leads t) : s.Leads (t.endCooldown r) :=
  have ended : s.Leads (t.completeRef t.power.ref r t.coolBody) := completeRef h
  ite (raiseNotice (refreshFans (disarm (setPower (setPower ended))))) (enterStandby (setPower ended))

theorem checkCooldown (h : s.Leads t) : s.Leads t.checkCooldown := ite (endCooldown h) h

theorem setPark {a : AxisId} {p : Park} (h : s.Leads t) : s.Leads (t.setPark a p) := setPower h

theorem parkReport {a : AxisId} {r : Result} (h : s.Leads t) : s.Leads (t.parkReport a r) :=
  ite (checkCooldown (setPark h)) h

theorem settlePark {a : AxisId} {c : ResCode} (h : s.Leads t) : s.Leads (t.settlePark a c) :=
  ite (setPark (ite (stopCause (setAxis h)) (setAxis h))) h

theorem cooldownExpiry (h : s.Leads t) : s.Leads t.cooldownExpiry := endCooldown (settlePark (settlePark h))

theorem takePowerUp {k : SlotId} (h : s.Leads t) : s.Leads (t.takePowerUp k) := by
  unfold State.takePowerUp
  split
  · exact complete h
  · exact complete (refreshFans (restartTimers (setPower h)))
  · exact complete (refreshFans (setPower (completeRef (settlePark (settlePark h)))))

theorem takeReading {c : ChannelId} {code : Int} (h : s.Leads t) : s.Leads (t.takeReading c code) :=
  have read : s.Leads (if c = .source then (t.channelReading c code).checkCooldown else t.channelReading c code) :=
    ite (checkCooldown (channelReading h)) (channelReading h)
  ite (ite (setChannel h) h) (ite (recool read) read)

/-! ### Placement -/

theorem setPlacement {p : Placement} (h : s.Leads t) : s.Leads { t with placement := p } := h.own rfl

theorem startMove {a : AxisId} {kind : MoveKind} {owner : Option SlotId} {target : Int} {limit : Class} (h : s.Leads t) :
    s.Leads (t.startMove a kind owner target limit) :=
  joinOrder (setAxis h)

theorem detach (h : s.Leads t) : s.Leads t.detach := ite (setPlacement h) h

theorem startHome {a : AxisId} {k : SlotId} (h : s.Leads t) : s.Leads (t.startHome a k) := by
  unfold State.startHome
  dsimp only
  exact ite (indexEvent (detach (joinOrder (setAxis h)))) (detach (joinOrder (setAxis h)))

theorem applyPlacement (h : s.Leads t) : s.Leads t.applyPlacement := markDirty (h.own rfl)

theorem maybeApply (h : s.Leads t) : s.Leads t.maybeApply := ite (applyPlacement h) h

theorem setProgress {a : AxisId} {b : Bool} (h : s.Leads t) : s.Leads (t.setProgress a b) := setPlacement h

theorem placeAxis {a : AxisId} (h : s.Leads t) : s.Leads (t.placeAxis a) := by
  unfold State.placeAxis
  dsimp only
  exact ite (setProgress (setAxis h)) (ite (ite (setProgress h) (startMove (setProgress h))) (setProgress h))

theorem takeSplit {o : Orientation} {p : Split} {k : SlotId} (h : s.Leads t) : s.Leads (t.takeSplit o p k) :=
  setHolder (setPlacement h)

theorem startPlace {k : SlotId} {x y : Int} {p : Split} (h : s.Leads t) : s.Leads (t.startPlace k x y p) :=
  maybeApply (placeAxis (placeAxis (takeSplit (setPlacement (ite (completeRef h) h)))))

theorem takePlace {k : SlotId} {body : List Word} (h : s.Leads t) : s.Leads (t.takePlace k body) := by
  unfold State.takePlace
  dsimp only
  split
  · exact complete h
  · refine ite (complete h) (ite (complete h) ?_)
    split
    · exact complete h
    · exact ite (startPlace h) (complete h)

theorem setOrientation {o : Orientation} (h : s.Leads t) : s.Leads (t.setOrientation o) := refreshFans (setPlacement h)

theorem orientOnly {k : SlotId} {o : Orientation} (h : s.Leads t) : s.Leads (t.orientOnly k o) :=
  markDirty (joinWaiting (setOrientation h))

theorem orientRerun {k : SlotId} {o : Orientation} (h : s.Leads t) : s.Leads (t.orientRerun k o) := by
  unfold State.orientRerun
  split
  · exact complete h
  · refine ite (complete h) ?_
    split
    · exact complete h
    · exact ite (maybeApply (markDirty (placeAxis (placeAxis (takeSplit (setOrientation h)))))) (complete h)

theorem takeOrient {k : SlotId} {body : List Word} (h : s.Leads t) : s.Leads (t.takeOrient k body) := by
  unfold State.takeOrient
  refine ite (complete h) ?_
  split
  · exact complete h
  · exact complete h
  · exact orientOnly h
  · exact orientOnly h
  · exact orientRerun h

theorem endFailed (h : s.Leads t) : s.Leads t.endFailed := ite (setPlacement (completeRef h)) h

theorem stopPlacementMove {a : AxisId} (h : s.Leads t) : s.Leads (t.stopPlacementMove a) := ite (stopCause h) h

theorem failPlacement {c : ResCode} (h : s.Leads t) : s.Leads (t.failPlacement c) :=
  stopPlacementMove (stopPlacementMove (setPlacement h))

theorem placementReport {a : AxisId} {r : Result} (h : s.Leads t) : s.Leads (t.placementReport a r) :=
  endFailed (ite (maybeApply (ite (setPlacement (setProgress h)) (setProgress h))) (ite (failPlacement h) h))

theorem placementFlip {g : Half} (h : s.Leads t) : s.Leads (t.placementFlip g) := ite (setPlacement (completeRef h)) h

theorem failApplying {c : ResCode} (h : s.Leads t) : s.Leads (t.failApplying c) := setPlacement (completeRef h)

theorem placementAbort (h : s.Leads t) : s.Leads t.placementAbort := by
  unfold State.placementAbort
  split
  · exact endFailed (failPlacement h)
  · exact failApplying h
  · exact h
  · exact h
  · exact h

theorem flip (h : s.Leads t) : s.Leads t.flip := by
  unfold State.flip
  split
  · exact h
  · exact meshRun (setMesh (raiseNotice (placementFlip (endReached (setMesh h)))))

/-! ### Moves -/

theorem handOver {a : AxisId} {m : Move} {r : Result} (h : s.Leads t) : s.Leads (t.handOver a m r) := by
  unfold State.handOver
  split
  · exact completeRef h
  · exact completeRef h
  · exact placementReport h
  · exact parkReport h

theorem leaveMove {a : AxisId} {st : AxisState} {r : Result} (h : s.Leads t) : s.Leads (t.leaveMove a st r) := by
  unfold State.leaveMove
  dsimp only
  split
  · exact leaveOrder (setAxis h)
  · exact handOver (leaveOrder (setAxis h))

theorem startDirectMove {a : AxisId} {k : SlotId} {target : Int} {limit : Class} (h : s.Leads t) :
    s.Leads (t.startDirectMove a k target limit) :=
  detach (startMove (setHolder h))

theorem startDirect {a : AxisId} {k : SlotId} {r : DirectReq} (h : s.Leads t) : s.Leads (t.startDirect a k r) := by
  cases r with
  | home => exact startHome (setHolder h)
  | moveTo target limit => exact startDirectMove h
  | moveBy delta limit => exact startDirectMove h

theorem present {a : AxisId} {k : SlotId} {r : DirectReq} (h : s.Leads t) : s.Leads (t.present a k r) := by
  unfold State.present
  split
  · exact complete h
  · exact startDirect h

theorem presentQueue {a : AxisId} {l : List Queued} (h : s.Leads t) : s.Leads (t.presentQueue a l) := by
  induction l generalizing t with
  | nil => exact h
  | cons q l ih =>
    unfold State.presentQueue
    dsimp only
    split
    · exact ih (complete (setAxis h))
    · exact startDirect (setAxis h)

theorem presentPark {a : AxisId} (h : s.Leads t) : s.Leads (t.presentPark a) := by
  unfold State.presentPark
  dsimp only
  split
  · exact parkReport (setAxis h)
  · exact startMove (setAxis h)

theorem askPark {a : AxisId} (h : s.Leads t) : s.Leads (t.askPark a) := ite (presentPark (setAxis h)) (setAxis h)

theorem endStops {a : AxisId} (h : s.Leads t) : s.Leads (t.endStops a) := foldl_complete (setAxis h)

theorem abortQueue {a : AxisId} (h : s.Leads t) : s.Leads (t.abortQueue a) := foldl_complete (setAxis h)

theorem presentIdle {a : AxisId} (h : s.Leads t) : s.Leads (t.presentIdle a) :=
  have parked : s.Leads (if (t.axis a).pendingPark then t.presentPark a else t) := ite (presentPark h) h
  ite (presentQueue parked) parked

theorem enterIdle {a : AxisId} {r : Result} (h : s.Leads t) : s.Leads (t.enterIdle a r) :=
  presentIdle (endStops (leaveMove h))

theorem stallEnd {a : AxisId} (h : s.Leads t) : s.Leads (t.stallEnd a) :=
  abortQueue (raiseNotice (raiseEvent (leaveMove (setAxis h))))

theorem holdPeriod {a : AxisId} {m : Move} (h : s.Leads t) : s.Leads (t.holdPeriod a m) :=
  ite (enterStopping (setAxis h)) (setAxis h)

theorem drivenPeriod {a : AxisId} {m : Move} {desire grant : Class} {positive : Bool} (h : s.Leads t) :
    s.Leads (t.drivenPeriod a m desire grant positive) :=
  ite (stallEnd (setAxis h)) (setAxis h)

theorem drivePeriod {a : AxisId} {m : Move} {desire : Class} {positive : Bool} (h : s.Leads t) :
    s.Leads (t.drivePeriod a m desire positive) :=
  ite (holdPeriod (setDesire h)) (drivenPeriod (setDesire h))

theorem movingPeriod {a : AxisId} {m : Move} (h : s.Leads t) : s.Leads (t.movingPeriod a m) :=
  ite (setDesire (setAxis h)) (drivePeriod h)

theorem settlingPeriod {a : AxisId} {m : Move} (h : s.Leads t) : s.Leads (t.settlingPeriod a m) :=
  ite (setAxis h) (ite (enterIdle h) (ite (setAxis h) (enterIdle h)))

theorem stoppingPeriod {a : AxisId} {m : Move} (h : s.Leads t) : s.Leads (t.stoppingPeriod a m) :=
  ite (enterIdle h) (ite (enterIdle (raiseEvent h)) (setAxis h))

theorem periodWork {a : AxisId} (h : s.Leads t) : s.Leads (t.periodWork a) := by
  unfold State.periodWork
  split
  · exact h
  · split
    · exact drivePeriod h
    · exact movingPeriod h
    · exact settlingPeriod h
    · exact stoppingPeriod h
    · exact h
    · exact h

theorem motionPeriod {a : AxisId} (h : s.Leads t) : s.Leads (t.motionPeriod a) :=
  ite h (setAxis (periodWork (h.pass _)))

theorem searchExpiry {a : AxisId} (h : s.Leads t) : s.Leads (t.searchExpiry a) := by
  unfold State.searchExpiry
  split
  · exact h
  · exact ite (homeFail (h.pass _)) h

theorem interlockEdge {asserted : Bool} (h : s.Leads t) : s.Leads (t.interlockEdge asserted) :=
  have edge : s.Leads { t with pins := { t.pins with interlock := asserted } } := h.own rfl
  ite h (ite edge (ite (raiseEvent (stopBoth edge)) (raiseEvent edge)))

theorem takeDirect {k : SlotId} {a : AxisId} {r : DirectReq} (h : s.Leads t) : s.Leads (t.takeDirect k a r) :=
  ite (complete h) (ite (present h) (setHolder (setAxis h)))

theorem dropPark {a : AxisId} (h : s.Leads t) : s.Leads (t.dropPark a) := ite (parkReport (setAxis h)) h

theorem takeStop {k : SlotId} {body : List Word} (h : s.Leads t) : s.Leads (t.takeStop k body) :=
  have stopped (a : AxisId) : s.Leads (((t.abortQueue a).dropPark a).stopCause a .stopped) :=
    stopCause (dropPark (abortQueue h))
  ite (complete (stopped _)) (setHolder (setAxis (stopped _)))

theorem takeReport {k : SlotId} {body : List Word} (h : s.Leads t) : s.Leads (t.takeReport k body) :=
  have ended : s.Leads (t.complete k doneOk (t.reportBody (axisOfWord (bodyWord body 1)))) := complete h
  ite ended (ite (presentIdle (setAxis (setAxis ended))) (setAxis ended))

theorem takeSetup {k : SlotId} {body : List Word} (h : s.Leads t) : s.Leads (t.takeSetup k body) :=
  ite (complete h) (ite (complete h) (complete (ite (detach (setAxis h)) (setAxis h))))

theorem axisPowerDown {a : AxisId} (h : s.Leads t) : s.Leads (t.axisPowerDown a) := stopCause (abortQueue h)

theorem beginCooldown {k : SlotId} {park : Bool} (h : s.Leads t) : s.Leads (t.beginCooldown k park) := by
  unfold State.beginCooldown
  dsimp only
  have stopped {p : Power} : s.Leads (((State.setHolder { t with power := p } k .power).axisPowerDown .h).axisPowerDown .v) :=
    axisPowerDown (axisPowerDown (setHolder (setPower h)))
  exact ite (askPark (askPark (refreshFans (ite (failApplying stopped) stopped))))
    (refreshFans (ite (failApplying stopped) stopped))

theorem takePowerDown {k : SlotId} {body : List Word} (h : s.Leads t) : s.Leads (t.takePowerDown k body) := by
  unfold State.takePowerDown
  split
  · exact beginCooldown h
  · exact complete h
  · exact complete h

/-! ### Slot unit and notices -/

theorem abortHolder {k : SlotId} {g : Holder} (h : s.Leads t) : s.Leads (t.abortHolder k g) := by
  cases g with
  | axisQueue a => exact complete (setAxis h)
  | axisRunning a => exact stopCause h
  | stopWait a => exact complete (setAxis h)
  | placement => exact placementAbort h
  | meshWait => exact abortWaiting h
  | power => exact h
  | completing => exact h

theorem takeNoticeSetup {k : SlotId} {body : List Word} (h : s.Leads t) : s.Leads (t.takeNoticeSetup k body) :=
  complete (h.notice id)

theorem route {k : SlotId} {kind : Kind} {body : List Word} (h : s.Leads t) : s.Leads (t.route k kind body) := by
  cases kind with
  | nop => exact complete h
  | axisHome => exact takeDirect h
  | axisMoveTo => exact takeDirect h
  | axisMoveBy => exact takeDirect h
  | axisStop => exact takeStop h
  | axisReport => exact takeReport h
  | axisSetup => exact takeSetup h
  | place => exact takePlace h
  | keystone => exact takeCornerRecord h
  | corners => exact takeCornerRecord h
  | orient => exact takeOrient h
  | fanCurve => exact takeFanCurve h
  | thresholds => exact takeThresholds h
  | fanFloor => exact takeFanFloor h
  | fanReport => exact takeFanReport h
  | thermalResume => exact takeThermalResume h
  | powerDown => exact takePowerDown h
  | powerUp => exact takePowerUp h
  | noticeSetup => exact takeNoticeSetup h

theorem takePost {k : SlotId} (h : s.Leads t) : s.Leads (t.takePost k) := by
  unfold State.takePost State.checkAndRoute
  dsimp only
  split
  · exact complete (setView h)
  · split
    · exact complete (setView h)
    · exact route (setView h)

theorem takeAbort {k : SlotId} (h : s.Leads t) : s.Leads (t.takeAbort k) := by
  unfold State.takeAbort
  split
  · exact h
  · exact ite h (abortHolder (setView h))

theorem slotWriteEnd {offset : Nat} {data : Word} {be : BitVec 4} {act : SlotAct} {superseded : Bool} (h : s.Leads t) :
    s.Leads (t.slotWriteEnd offset data be act superseded) := by
  have written : ∀ w : Word, s.Leads (if superseded then t else t.setShadow (slotOfOffset offset) (wordOfOffset offset) w) :=
    fun _ => ite h (h.own rfl)
  cases act with
  | plain => exact written _
  | post => exact takePost (written _)
  | abort => exact takeAbort (written _)

theorem consumerWrite {data : Word} {be : BitVec 4} (h : s.Leads t) : s.Leads (t.consumerWrite data be) := by
  unfold State.consumerWrite
  dsimp only
  split
  · next within => exact h.consume within
  · exact h.event _ _ _

end

/-- Under any entry that may stand on it, a rising stack rises. -/
theorem stackRises_tail {x : NoticeSource} {l : List NoticeSource} (h : stackRises (x :: l) = true) : stackRises l = true := by
  cases l with
  | nil => rfl
  | cons y l => exact (Bool.and_eq_true_iff.mp h).2

/-- An acknowledge pushes a source that outranks the top (R171). -/
theorem stackRises_acknowledge {n : Notice} (h : stackRises n.stack = true) : stackRises n.acknowledge.2.stack = true := by
  unfold Notice.acknowledge
  split
  · next x e =>
    have chosen : n.qualifies x = true := List.find?_some e
    have above := (n.outranksTop_iff x).mp (Bool.and_eq_true_iff.mp chosen).2
    change stackRises (x :: n.stack) = true
    cases rest : n.stack with
    | nil => rfl
    | cons top l =>
      rw [rest] at h
      exact Bool.and_eq_true_iff.mpr ⟨decide_eq_true (above top l rest), h⟩
  · exact h

section
variable {s t : State}

theorem endService {data : Word} {be : BitVec 4} (h : s.Leads t) : s.Leads (t.endService data be) := by
  unfold State.endService
  split
  · exact raiseEvent h
  · next e => exact h.notice fun rises => stackRises_tail (e ▸ rises)

/-! ### Memory path -/

/-- A change of the memory path that touches none of its counts. -/
theorem path_same {p : PathUnit} (h : s.Leads t) (buffer : p.buffer = t.path.buffer) (streak : p.streak = t.path.streak)
    (refusals : p.refusals = t.path.refusals) : s.Leads { t with path := p } :=
  h.path fun ⟨b, c, d⟩ => ⟨buffer ▸ b, streak ▸ c, refusals ▸ d⟩

theorem answerRead {w : Word} (h : s.Leads t) : s.Leads (t.answerRead w) := path_same h rfl rfl rfl

theorem answerWrite (h : s.Leads t) : s.Leads t.answerWrite := path_same h rfl rfl rfl

theorem beginCycle {k : CycleKind} (h : s.Leads t) : s.Leads (t.beginCycle k) := path_same h rfl rfl rfl

theorem freePort (h : s.Leads t) : s.Leads t.freePort := path_same h rfl rfl rfl

theorem liveRead {offset : Nat} (h : s.Leads t) : s.Leads (t.liveRead offset).2 := by
  unfold State.liveRead
  split
  · exact h.notice stackRises_acknowledge
  · split
    · exact path_same h rfl rfl rfl
    · split <;> exact h

theorem refuseWrite {offset : Nat} {data : Word} {be : BitVec 4} (h : s.Leads t) : s.Leads (t.refuseWrite offset data be) :=
  have counted : s.Leads
      { t with
        path := { t.answerWrite.path with refusals := satSucc t.answerWrite.path.refusals, lastRefused := offset } } :=
    h.path fun ⟨b, c, _⟩ => ⟨b, c, Nat.min_le_left _ _⟩
  counted.event _ _ _

theorem tellWrite {offset : Nat} {data : Word} {be : BitVec 4} (h : s.Leads t) : s.Leads (t.tellWrite offset data be) :=
  ite (consumerWrite h) (ite (heartbeatWrite h) h)

theorem grantHost {x : HostAccess} (h : s.Leads t) : s.Leads (t.grantHost x) := by
  cases x with
  | read addr =>
    simp only [State.grantHost]
    split
    · exact answerRead h
    · exact beginCycle h
  | write addr data be =>
    simp only [State.grantHost]
    split
    · exact beginCycle h
    · split
      · exact refuseWrite h
      · exact tellWrite (beginCycle h)

theorem nextGrant {u : State} (h : s.Leads t) (e : t.nextGrant = some u) : s.Leads u := by
  unfold State.nextGrant at e
  have fresh : s.Leads { t with path := { t.path with streak := 0 } } := h.path fun ⟨b, _, d⟩ => ⟨b, Nat.zero_le _, d⟩
  split at e
  · cases e
  · dsimp only at e
    split at e
    · cases e; exact beginCycle (path_same h rfl rfl rfl)
    · split at e
      · split at e
        · cases e
        · cases e; exact beginCycle fresh
      · split at e
        · cases e; exact grantHost fresh
        · split at e
          · next below => cases e; exact grantHost (h.path fun ⟨b, _, d⟩ => ⟨b, below, d⟩)
          · cases e; exact beginCycle fresh

theorem settle (h : s.Leads t) : s.Leads t.settle := by
  refine t.settle_induct (P := s.Leads) (fun u v hu e => ?_) h
  rcases u.nextAction_cases v e with claim | ⟨_, grant⟩
  · exact hu.claim claim
  · exact nextGrant hu grant

theorem arrive (h : s.Leads t) : s.Leads t.arrive := by
  unfold State.arrive
  refine ite h ?_
  split
  · exact h
  · split
    · exact h
    · refine ite (answerRead (liveRead h)) ?_
      split
      · exact answerRead h
      · exact h
  · split
    · exact h
    · exact ite (ite (answerWrite (endService h)) (refuseWrite h)) h

theorem hostAccess {x : HostAccess} (h : s.Leads t) : s.Leads (t.hostAccess x) := by
  unfold State.hostAccess
  split
  · exact h
  · exact settle (arrive (path_same h rfl rfl rfl))

theorem bodyReport {drained : Bool} (h : s.Leads t) : s.Leads (t.bodyReport drained) := by
  unfold State.bodyReport
  dsimp only
  split
  · exact h
  · exact ite (h.own rfl) (h.own rfl)

theorem report {p : Producer} {drained : Bool} (h : s.Leads t) : s.Leads (t.report p drained) := by
  cases p with
  | slotBody => exact bodyReport h
  | slotHeader => exact ite (raiseNotice h) h
  | eventWriter mark => exact ite (raiseNotice h) h
  | meshWord => exact setMesh h
  | meshSelector => exact ite (flip h) (setMesh h)

theorem freedEntry (h : s.Leads t) : s.Leads t.freedEntry := by
  unfold State.freedEntry
  cases e : t.nextClaim with
  | none => exact h
  | some u => exact h.claim e

theorem leaveHead {drained : Bool} (h : s.Leads t) : s.Leads (t.leaveHead drained) := by
  unfold State.leaveHead
  split
  · exact h
  · next e rest buffer =>
    refine report (freedEntry ?_)
    have range : t.path.InRange → ({ t.path with buffer := rest } : PathUnit).InRange := fun ⟨b, c, d⟩ => by
      rw [buffer, List.length_cons] at b
      exact ⟨Nat.le_of_succ_le b, c, d⟩
    cases drained with
    | true => exact (h.path range).write _ _ _
    | false => exact h.path range

theorem endHostWrite {addr data : Word} {be : BitVec 4} {act : SlotAct} {superseded : Bool} (h : s.Leads t) :
    s.Leads (t.endHostWrite addr data be act superseded) := by
  unfold State.endHostWrite
  split
  · exact h
  · exact ite (slotWriteEnd h) h

theorem answerKind {k : CycleKind} (h : s.Leads t) : s.Leads (t.answerKind k) := by
  cases k with
  | hostRead addr => exact answerRead h
  | hostWrite addr data be act superseded => exact endHostWrite (answerWrite (h.write _ _ _))
  | drain => exact leaveHead h
  | selector => exact selectorAnswer h
  | orphan => exact h

theorem answerCycle (h : s.Leads t) : s.Leads t.answerCycle := by
  unfold State.answerCycle
  split
  · exact h
  · exact settle (answerKind (freePort h))

theorem timeoutKind {k : CycleKind} (h : s.Leads t) : s.Leads (t.timeoutKind k) := by
  cases k with
  | hostRead addr => exact (answerRead h).event _ _ _
  | hostWrite addr data be act superseded => exact (endHostWrite (answerWrite h)).event _ _ _
  | drain => exact (leaveHead h).event _ _ _
  | selector => exact (selectorAnswer h).event _ _ _
  | orphan => exact h

theorem timeoutCycle (h : s.Leads t) : s.Leads t.timeoutCycle := by
  unfold State.timeoutCycle
  split
  · exact h
  · exact settle (timeoutKind (freePort (h.pass _)))

theorem postRow {kind : BitVec 6} {p : Post} {abort : Bool} (h : s.Leads t) : s.Leads (t.postRow kind p abort) :=
  ite (answerCycle h) (ite (answerCycle (hostAccess h)) (hostAccess h))

/-! ### Resets and timers -/

theorem releaseReset (h : s.Leads t) : s.Leads t.releaseReset := by
  unfold State.releaseReset
  split
  · exact h
  · next held =>
    have released : s.Leads t.unheld.refreshFans.checkCooldown := checkCooldown (h.release held)
    exact settle (arrive (ite (cooldownExpiry released) released))

theorem wholeSecond (h : s.Leads t) : s.Leads t.wholeSecond :=
  ite h (ite (tickFans (h.pass _).tick) (h.pass _).tick)

theorem kickExpiry {f : FanId} (h : s.Leads t) : s.Leads (t.kickExpiry f) := by
  unfold State.kickExpiry
  split
  · exact h
  · exact drawFan (h.pass _)

theorem tachExpiry {f : FanId} (h : s.Leads t) : s.Leads (t.tachExpiry f) := by
  unfold State.tachExpiry
  split
  · exact h
  · exact tachSilence (h.pass _)

theorem tachEdge {f : FanId} {elapsed : Word} (h : s.Leads t) : s.Leads (t.tachEdge f elapsed) := by
  have passed : s.Leads (t.passToEdge f elapsed.toNat) := by
    unfold State.passToEdge
    split
    · exact h.pass _
    · exact ite (h.pass _) ((tachExpiry h).pass _)
  have sameDrive (x : Fan) (timer : Word) : (x.edge timer).drive = x.drive := by
    unfold Fan.edge
    dsimp only
    split
    · rfl
    · split <;> rfl
  exact ite (setFan passed (sameDrive _ _)) (h.pass _)

theorem cleanExpiry {f : FanId} (h : s.Leads t) : s.Leads (t.cleanExpiry f) := by
  unfold State.cleanExpiry
  split
  · exact h
  · exact setFan (h.pass _) rfl

theorem readingExpiry {c : ChannelId} {code : Int} (h : s.Leads t) : s.Leads (t.readingExpiry c code) :=
  ite h (takeReading (h.pass _))

theorem heartbeatExpiry (h : s.Leads t) : s.Leads t.heartbeatExpiry := by
  unfold State.heartbeatExpiry
  split
  · exact h
  · exact ite (hostLost (h.pass _)) h

theorem minimumExpiry (h : s.Leads t) : s.Leads t.minimumExpiry := ite (checkCooldown (setPower (h.pass _))) h

theorem elapsedExpiry (h : s.Leads t) : s.Leads t.elapsedExpiry :=
  ite (ite (cooldownExpiry (setPower (h.pass _))) (setPower (h.pass _))) h

theorem retirementTimer (h : s.Leads t) : s.Leads t.retirementTimer := by
  unfold State.retirementTimer
  split
  · exact h
  · exact ite (retireExpiry (h.pass _)) h

end
end State.Leads

/-! ### Commands -/

section
open State.Leads

/-- Every command is a run of small changes. -/
theorem exec_leads {s t : State} (i : Instr) (e : exec i s = .next t) : s.Leads t := by
  have period (a : AxisId) : s.Leads (s.motionPeriod a).settle := settle (motionPeriod refl)
  cases i with
  | powerOnReset pins => cases e; exact refl.powerOn pins
  | systemReset straps => cases e; exact refl.reset straps
  | resetRelease => cases e; exact releaseReset refl
  | hostRead addr => cases e; exact hostAccess refl
  | hostWrite addr data be => cases e; exact hostAccess refl
  | memoryAnswer => cases e; exact answerCycle refl
  | memoryTimeout => cases e; exact timeoutCycle refl
  | pairLowRead pair => cases e; exact hostAccess refl
  | acknowledge => cases e; exact hostAccess refl
  | endOfService data be => cases e; exact hostAccess refl
  | encoderEdge a l => cases e; exact settle (encoderLevels refl)
  | filterAccept a m => cases e; exact settle (acceptInputs (refl.pass _))
  | motionPeriod a => cases e; exact period a
  | stall a => cases e; exact ite (period a) refl
  | budgetTimeout a => cases e; exact ite (period a) refl
  | settleEnd a => cases e; exact ite (period a) refl
  | stoppingEnd a => cases e; exact ite (period a) refl
  | stopSlow a => cases e; exact ite (period a) refl
  | homeTimeout a => cases e; exact settle (searchExpiry refl)
  | interlockAsserted => cases e; exact settle (interlockEdge refl)
  | interlockReleased => cases e; exact settle (interlockEdge refl)
  | supplyLowAsserted => cases e; exact settle (supplyEdge refl)
  | supplyLowDeasserted => cases e; exact settle (supplyEdge refl)
  | fanTick => cases e; exact wholeSecond refl
  | kickEnd f => cases e; exact kickExpiry refl
  | tachEdge f elapsed => cases e; exact settle (tachEdge refl)
  | tachWindowExpiry f => cases e; exact settle (tachExpiry refl)
  | cleanTimerExpiry f => cases e; exact cleanExpiry refl
  | temperatureReading c code => cases e; exact settle (readingExpiry refl)
  | heartbeatTimeout => cases e; exact settle (heartbeatExpiry refl)
  | minimumMet => cases e; exact settle (minimumExpiry refl)
  | cooldownTimeout => cases e; exact settle (elapsedExpiry refl)
  | fsync => cases e; exact ite (settle (takeFsync refl)) refl
  | retirementTimeout => cases e; exact settle (retirementTimer refl)
  -- ABORT and the nineteen request kinds
  | _ => cases e; exact postRow refl

end

/-- What the small changes keep, and does not read the queue of commands, every step keeps. -/
theorem step_keeps_of_leads {P : State → Prop} (keeps : ∀ {s t : State}, s.Leads t → P s → P t)
    (waits : ∀ (s : State) (q : List Instr), P s → P (s.withPending q)) {s t : State} (h : P s) (e : step s = .next t) : P t := by
  unfold step at e
  split at e
  · cases e
    exact keeps (State.Leads.refl.pass 1000) h
  · next i rest _ => exact keeps (exec_leads i e) (waits s rest h)

end Sys2Proof.Machine
end

section
/-! SUPPORT for O54, O55, O58 and O59. What the small changes keep: the canonical memory list, the rising stack, the counts of
the memory path, the allotments of the present inputs, the consistent ring. -/

namespace Sys2Proof.Machine

/-! ### What a claim and an event leave alone -/

theorem ClaimKeeps.base_and_supply {s t : State} (k : ClaimKeeps s t) :
    (t.pending = s.pending ∧ t.clock = s.clock ∧ t.hold = s.hold ∧ t.mem = s.mem ∧ t.notice = s.notice)
      ∧ t.budget = s.budget ∧ t.fans = s.fans := by
  have inner := k.inner
  simp only [State.inner, Prod.mk.injEq] at inner
  obtain ⟨pending, _, clock, hold, _, mem, _, _, _, fans, _, budget, _, notice⟩ := inner
  exact ⟨⟨pending, clock, hold, mem, notice⟩, budget, fans⟩

theorem State.loseEvent_supply (s : State) : s.loseEvent.budget = s.budget ∧ s.loseEvent.fans = s.fans := by
  unfold State.loseEvent State.raiseNotice
  dsimp only
  split
  · exact ⟨rfl, rfl⟩
  · split <;> exact ⟨rfl, rfl⟩

/-- An event is no business of the supply budget unit and the fans. -/
theorem State.raiseCode_supply (s : State) (code : Half) (va vb : Word) :
    (s.raiseCode code va vb).budget = s.budget ∧ (s.raiseCode code va vb).fans = s.fans := by
  unfold State.raiseCode
  dsimp only
  split
  · exact ⟨rfl, rfl⟩
  · split
    · exact s.loseEvent_supply
    · split
      · split
        · exact State.loseEvent_supply _
        · exact ⟨rfl, rfl⟩
      · exact ⟨rfl, rfl⟩

theorem State.outer_iff (s t : State) :
    t.outer = s.outer ↔ t.pending = s.pending ∧ t.free = s.free ∧ t.clock = s.clock ∧ t.hold = s.hold ∧ t.pins = s.pins
      ∧ t.mem = s.mem ∧ t.path = s.path ∧ t.notice.stack = s.notice.stack := by
  simp [State.outer]

theorem State.base_iff (s t : State) :
    t.base = s.base ↔ t.pending = s.pending ∧ t.clock = s.clock ∧ t.hold = s.hold ∧ t.mem = s.mem ∧ t.path = s.path
      ∧ t.notice = s.notice ∧ t.events = s.events := by
  simp [State.base]

/-! ### The queue of commands, memory, the stack, the clock and the path -/

/-- The change at the release and the demands formed anew leave the queue, clock, memory, notices and counts alone. -/
theorem State.released_keeps (s : State) :
    s.unheld.refreshFans.pending = s.pending ∧ s.unheld.refreshFans.clock = s.clock ∧ s.unheld.refreshFans.mem = s.mem
      ∧ s.unheld.refreshFans.notice = s.notice ∧ s.unheld.refreshFans.path = { s.path with selPending := true }
      ∧ s.unheld.refreshFans.hold = .running ∧ s.unheld.refreshFans.events = { s.events with claimZero := true } := by
  have only := s.unheld.refreshFans_only
  obtain ⟨pending, _, clock, hold, _, mem, path, _⟩ := (State.outer_iff _ _).mp only.outer
  rw [pending, clock, hold, mem, path, only.notice, only.events]
  unfold State.unheld
  split <;> exact ⟨rfl, rfl, rfl, rfl, rfl, rfl, rfl⟩

theorem State.resetMem_canonical {s : State} (h : Memory.wf s.mem = true) : Memory.wf s.resetMem = true := by
  unfold State.resetMem
  split
  · split
    · exact Memory.wf_writeWord _ _ _ _ h
    · exact h
  · exact h

/-- What a passing of time leaves alone of what the blocks share. -/
theorem State.pass_shared (s : State) (us : Nat) :
    (s.pass us).pending = s.pending ∧ (s.pass us).hold = s.hold ∧ (s.pass us).mem = s.mem ∧ (s.pass us).notice = s.notice
      ∧ (s.pass us).events = s.events ∧ (s.pass us).budget = s.budget
      ∧ (s.pass us).path.buffer = s.path.buffer ∧ (s.pass us).path.streak = s.path.streak
      ∧ (s.pass us).path.refusals = s.path.refusals ∧ (s.pass us).fans.map Fan.drive = s.fans.map Fan.drive := by
  unfold State.pass
  split
  · simp
  · dsimp only
    split
    · simp
    · simp [PerFan.map, Fan.pass]

theorem State.assertReset_pending (s : State) (straps : Straps) : (s.assertReset straps).pending = s.pending := by
  unfold State.assertReset
  dsimp only
  split <;> rfl

theorem State.Leads.pending {s t : State} (h : s.Leads t) : t.pending = s.pending := by
  induction h with
  | refl => rfl
  | own _ e ih => exact ((State.base_iff _ _).mp (State.base_of_shared e)).1.trans ih
  | supply _ e ih => exact ((State.base_iff _ _).mp e).1.trans ih
  | notice _ _ ih => exact ih
  | event _ code va vb ih => exact ((State.outer_iff _ _).mp (State.raiseCode_outer _ code va vb)).1.trans ih
  | consume _ _ ih => exact ih
  | pass _ us ih => exact (State.pass_shared _ us).1.trans ih
  | tick _ ih => exact ih
  | path _ _ ih => exact ih
  | write _ _ _ _ ih => exact ih
  | claim _ e ih => exact (State.nextClaim_keeps _ _ e).base_and_supply.1.1.trans ih
  | powerOn _ _ ih => exact ih
  | reset _ straps ih => exact (State.assertReset_pending _ straps).trans ih
  | release _ _ ih => exact (State.released_keeps _).1.trans ih

theorem State.assertReset_mem (s : State) (straps : Straps) :
    (s.assertReset straps).mem = if s.hold ≠ .running then s.mem else s.resetMem := by
  unfold State.assertReset
  dsimp only
  split <;> rfl

theorem State.Leads.canonical {s t : State} (h : s.Leads t) (wf : Memory.wf s.mem = true) : Memory.wf t.mem = true := by
  induction h with
  | refl => exact wf
  | own _ e ih => exact ((State.base_iff _ _).mp (State.base_of_shared e)).2.2.2.1 ▸ ih
  | supply _ e ih =>
    obtain ⟨_, _, _, mem, _⟩ := (State.base_iff _ _).mp e
    exact mem ▸ ih
  | notice _ _ ih => exact ih
  | event _ code va vb ih => exact (State.raiseCode_mem _ code va vb).symm ▸ ih
  | consume _ _ ih => exact ih
  | pass _ us ih =>
    obtain ⟨_, _, mem, _⟩ := State.pass_shared _ us
    exact mem.symm ▸ ih
  | tick _ ih => exact ih
  | path _ _ ih => exact ih
  | write _ base w be ih => exact Memory.wf_writeWord _ base w be ih
  | claim _ e ih => exact (State.nextClaim_keeps _ _ e).mem.symm ▸ ih
  | powerOn _ _ ih => exact State.resetMem_canonical ih
  | reset _ straps ih =>
    rw [State.assertReset_mem]
    split
    · exact ih
    · exact State.resetMem_canonical ih
  | release _ _ ih =>
    obtain ⟨_, _, mem, _⟩ := State.released_keeps _
    exact mem.symm ▸ ih

theorem State.assertReset_notice (s : State) (straps : Straps) :
    (s.assertReset straps).notice = if s.hold ≠ .running then s.notice else Initial.notice := by
  unfold State.assertReset
  dsimp only
  split <;> rfl

theorem State.Leads.rises {s t : State} (h : s.Leads t) (rises : stackRises s.notice.stack = true) :
    stackRises t.notice.stack = true := by
  induction h with
  | refl => exact rises
  | own _ e ih =>
    obtain ⟨_, _, _, _, _, notice, _⟩ := (State.base_iff _ _).mp (State.base_of_shared e)
    exact notice.symm ▸ ih
  | supply _ e ih =>
    obtain ⟨_, _, _, _, _, notice, _⟩ := (State.base_iff _ _).mp e
    exact notice ▸ ih
  | notice _ keeps ih => exact keeps ih
  | event _ code va vb ih =>
    obtain ⟨_, _, _, _, _, _, _, stack⟩ := (State.outer_iff _ _).mp (State.raiseCode_outer _ code va vb)
    exact stack.symm ▸ ih
  | consume _ _ ih => exact ih
  | pass _ us ih =>
    obtain ⟨_, _, _, notice, _⟩ := State.pass_shared _ us
    exact notice.symm ▸ ih
  | tick _ ih => exact ih
  | path _ _ ih => exact ih
  | write _ _ _ _ ih => exact ih
  | claim _ e ih =>
    obtain ⟨_, _, _, _, notice⟩ := (State.nextClaim_keeps _ _ e).base_and_supply.1
    exact notice.symm ▸ ih
  | powerOn _ _ _ => rfl
  | reset _ straps ih =>
    rw [State.assertReset_notice]
    split
    · exact ih
    · rfl
  | release _ _ ih =>
    obtain ⟨_, _, _, notice, _⟩ := State.released_keeps _
    exact notice.symm ▸ ih

theorem State.pass_clockInv {s : State} (us : Nat) (h : s.ClockInv) : (s.pass us).ClockInv := by
  unfold State.pass
  split
  · exact h
  · dsimp only
    split
    · exact h
    · exact Nat.mod_lt _ (by decide)

theorem State.assertReset_clock (s : State) (straps : Straps) : (s.assertReset straps).clock = s.clock := by
  unfold State.assertReset
  dsimp only
  split <;> rfl

theorem State.ClockInv.of_clock {s t : State} (h : s.ClockInv) (e : t.clock = s.clock) : t.ClockInv := by
  unfold State.ClockInv
  rw [e]
  exact h

theorem State.Leads.clockInv {s t : State} (h : s.Leads t) (inv : s.ClockInv) : t.ClockInv := by
  induction h with
  | refl => exact inv
  | own _ e ih => exact ih.of_clock ((State.base_iff _ _).mp (State.base_of_shared e)).2.1
  | supply _ e ih => exact ih.of_clock ((State.base_iff _ _).mp e).2.1
  | notice _ _ ih => exact ih
  | event _ code va vb ih => exact ih.of_clock ((State.outer_iff _ _).mp (State.raiseCode_outer _ code va vb)).2.2.1
  | consume _ _ ih => exact ih
  | pass _ us ih => exact State.pass_clockInv us ih
  | tick _ ih => exact ih
  | path _ _ ih => exact ih
  | write _ _ _ _ ih => exact ih
  | claim _ e ih => exact ih.of_clock (State.nextClaim_keeps _ _ e).base_and_supply.1.2.1
  | powerOn _ _ _ => exact (by decide : 0 < 1000)
  | reset _ straps ih => exact ih.of_clock (State.assertReset_clock _ straps)
  | release _ _ ih => exact ih.of_clock (State.released_keeps _).2.1

/-! ### The counts of the memory path (R145, R148, R150) -/

theorem PathUnit.rest_counts {p q : PathUnit} (h : q.rest = p.rest) : q.streak = p.streak ∧ q.refusals = p.refusals := by
  have fields := PathUnit.mk.inj h
  simp only [true_and] at fields
  obtain ⟨_, _, _, streak, _, refusals, _⟩ := fields
  exact ⟨streak, refusals⟩

theorem PathUnit.InRange.of_counts {p q : PathUnit} (h : p.InRange) (buffer : q.buffer = p.buffer)
    (streak : q.streak = p.streak) (refusals : q.refusals = p.refusals) : q.InRange := by
  unfold PathUnit.InRange
  rw [buffer, streak, refusals]
  exact h

/-- A claim is served only while the buffer has room (R148). -/
theorem State.nextClaim_inRange {s t : State} (e : s.nextClaim = some t) (h : s.path.InRange) : t.path.InRange := by
  have keeps := s.nextClaim_keeps t e
  obtain ⟨streak, refusals⟩ := PathUnit.rest_counts keeps.rest
  refine ⟨?_, streak ▸ h.2.1, refusals ▸ h.2.2⟩
  rw [keeps.longer]
  exact s.nextClaim_room t e

theorem State.assertReset_inRange {s : State} (straps : Straps) (h : s.path.InRange) : (s.assertReset straps).path.InRange := by
  unfold State.assertReset
  dsimp only
  split
  · exact h
  · exact ⟨Nat.zero_le _, Nat.zero_le _, h.2.2⟩

theorem State.Leads.inRange {s t : State} (h : s.Leads t) (inv : s.path.InRange) : t.path.InRange := by
  induction h with
  | refl => exact inv
  | own _ e ih =>
    obtain ⟨_, _, _, _, path, _⟩ := (State.base_iff _ _).mp (State.base_of_shared e)
    exact path.symm ▸ ih
  | supply _ e ih =>
    obtain ⟨_, _, _, _, path, _⟩ := (State.base_iff _ _).mp e
    exact path ▸ ih
  | notice _ _ ih => exact ih
  | event _ code va vb ih =>
    obtain ⟨_, _, _, _, _, _, path, _⟩ := (State.outer_iff _ _).mp (State.raiseCode_outer _ code va vb)
    exact path.symm ▸ ih
  | consume _ _ ih => exact ih
  | pass _ us ih =>
    obtain ⟨_, _, _, _, _, _, buffer, streak, refusals, _⟩ := State.pass_shared _ us
    exact ih.of_counts buffer streak refusals
  | tick _ ih => exact ih
  | path _ range ih => exact range ih
  | write _ _ _ _ ih => exact ih
  | claim _ e ih => exact State.nextClaim_inRange e ih
  | powerOn _ _ _ => exact ⟨Nat.zero_le _, Nat.zero_le _, Nat.zero_le _⟩
  | reset _ straps ih => exact State.assertReset_inRange straps ih
  | release _ _ ih =>
    obtain ⟨_, _, _, _, path, _⟩ := State.released_keeps _
    rw [path]
    exact ih

/-! ### The allotments (R121, R122) -/

theorem State.totalDraw_congr {s t : State} (drive : t.fans.map Fan.drive = s.fans.map Fan.drive) :
    t.totalDraw = s.totalDraw := by
  simp only [PerFan.map, PerFan.mk.injEq] at drive
  obtain ⟨intake, exhaust, source⟩ := drive
  unfold State.totalDraw
  rw [intake, exhaust, source]

/-- The allotments depend on the supply budget unit's own record and on what the fans draw. -/
theorem State.AllotInv.of_same {s t : State} (h : s.AllotInv) (budget : t.budget = s.budget)
    (drive : t.fans.map Fan.drive = s.fans.map Fan.drive) : t.AllotInv := by
  unfold State.AllotInv State.allotNow
  rw [budget, State.totalDraw_congr drive]
  exact h

/-- A recomputation gives the allotments of the present inputs, whatever stood before. -/
theorem State.allotInv_rebudget (s : State) : s.rebudget.AllotInv := rfl

theorem State.Leads.allotInv {s t : State} (h : s.Leads t) (inv : s.AllotInv) : t.AllotInv := by
  induction h with
  | refl => exact inv
  | own _ e ih =>
    obtain ⟨_, budget, drive⟩ := by simpa only [State.shared, Prod.mk.injEq] using e
    exact ih.of_same budget drive
  | supply _ _ _ => exact State.allotInv_rebudget _
  | notice _ _ ih => exact ih
  | event _ code va vb ih =>
    obtain ⟨budget, fans⟩ := State.raiseCode_supply _ code va vb
    exact ih.of_same budget (by rw [fans])
  | consume _ _ ih => exact ih
  | pass _ us ih =>
    obtain ⟨_, _, _, _, _, budget, _, _, _, drive⟩ := State.pass_shared _ us
    exact ih.of_same budget drive
  | tick _ ih => exact ih
  | path _ _ ih => exact ih
  | write _ _ _ _ ih => exact ih
  | claim _ e ih =>
    obtain ⟨_, budget, fans⟩ := (State.nextClaim_keeps _ _ e).base_and_supply
    exact ih.of_same budget (by rw [fans])
  | powerOn _ _ _ => exact rfl
  | reset _ straps ih =>
    unfold State.assertReset
    dsimp only
    split
    · exact ih
    · exact rfl
  | release _ _ _ => exact State.allotInv_rebudget _

/-! ### The event ring (R175 to R179) -/

/-- How far P runs ahead of C: the queued P, and the outgoing records after it. -/
theorem State.RingInv.occupancy_eq {s : State} (h : s.RingInv) :
    s.events.occupancy = (s.events.q - s.events.c).toNat + s.events.out.length := by
  obtain ⟨_, p, room, _⟩ := h
  have small : s.events.out.length ≤ 32 := by
    have : Config.ringSize = 32 := rfl
    omega
  unfold EventWriter.occupancy
  have split : s.events.p - s.events.c = (s.events.q - s.events.c) + BitVec.ofNat 16 s.events.out.length := by
    rw [p]
    bv_omega
  have : Config.ringSize = 32 := rfl
  rw [split, BitVec.toNat_add, BitVec.toNat_ofNat]
  omega

theorem State.RingInv.occupancy_le {s : State} (h : s.RingInv) : s.events.occupancy ≤ 32 := by
  rw [h.occupancy_eq]
  exact h.2.2.1

/-- The invariant reads the event writer and the reset state. -/
theorem State.RingInv.of_same {s t : State} (h : s.RingInv) (events : t.events = s.events) (hold : t.hold = s.hold) :
    t.RingInv := by
  unfold State.RingInv
  rw [events, hold]
  exact h

/-- The flags and the lost count are no part of it while the part runs. -/
theorem State.RingInv.of_counts {s t : State} (h : s.RingInv) (run : t.hold = .running)
    (events : ∃ overrun lost, t.events = { s.events with overrun := overrun, lost := lost }) : t.RingInv := by
  obtain ⟨outgoing, p, room, zero, _, fed, idle⟩ := h
  obtain ⟨overrun, lost, events⟩ := events
  unfold State.RingInv
  rw [events]
  exact ⟨outgoing, p, room, zero, fun n => absurd run n, fed, idle⟩

/-- A record placed in a free slot is the last outgoing one (R175). -/
theorem State.RingInv.placeRecord {s : State} (h : s.RingInv) (run : s.hold = .running)
    (room : s.events.occupancy < Config.ringSize) (code : Half) (va vb : Word) : (s.placeRecord code va vb).RingInv := by
  rw [h.occupancy_eq] at room
  obtain ⟨outgoing, p, _, zero, _, fed, _⟩ := h
  refine ⟨?_, ?_, ?_, zero, fun n => absurd run n, fed, fun none => ?_⟩
  · simp only [State.placeRecord, List.map_append, List.map_cons, List.map_nil, List.length_append, List.length_cons,
      List.length_nil, List.range_succ, outgoing, p, Nat.zero_add]
    congr 2
    bv_omega
  · simp only [State.placeRecord, List.length_append, List.length_cons, List.length_nil, p]
    bv_omega
  · simp only [State.placeRecord, List.length_append, List.length_cons, List.length_nil]
    omega
  · simp [State.placeRecord] at none

theorem State.loseEvent_events (s : State) :
    s.loseEvent.events = { s.events with lost := satSucc s.events.lost, overrun := true } := by
  unfold State.loseEvent State.raiseNotice
  dsimp only
  split
  · rfl
  · split <;> rfl

theorem State.loseEvent_hold (s : State) : s.loseEvent.hold = s.hold :=
  ((State.outer_iff _ _).mp s.loseEvent_outer).2.2.2.1

theorem State.RingInv.loseEvent {s : State} (h : s.RingInv) (run : s.hold = .running) : s.loseEvent.RingInv :=
  h.of_counts (s.loseEvent_hold.trans run) ⟨_, _, s.loseEvent_events⟩

theorem State.RingInv.raiseCode {s : State} (h : s.RingInv) (code : Half) (va vb : Word) : (s.raiseCode code va vb).RingInv := by
  unfold State.raiseCode
  dsimp only
  split
  · exact h
  · next run =>
    have run := Classical.not_not.mp run
    split
    · exact h.loseEvent run
    · next room =>
      have placed := h.placeRecord run (Nat.lt_of_not_le room)
      split
      · have cleared := (placed (eventCode .overrun 0) (natWord s.events.lost) 0).of_counts
          (t := { s.placeRecord (eventCode .overrun 0) (natWord s.events.lost) 0 with
            events := { (s.placeRecord (eventCode .overrun 0) (natWord s.events.lost) 0).events with overrun := false, lost := 0 } })
          run ⟨_, _, rfl⟩
        split
        · exact cleared.loseEvent run
        · next room => exact cleared.placeRecord run (Nat.lt_of_not_le room) _ _ _
      · exact placed _ _ _

/-- C moves on within the queued P (R177). -/
theorem State.RingInv.consume {s : State} (h : s.RingInv) {c : Half}
    (within : (c - s.events.c).toNat ≤ (s.events.q - s.events.c).toNat) :
    State.RingInv { s with events := { s.events with c := c } } := by
  obtain ⟨outgoing, p, room, zero, held, fed, idle⟩ := h
  refine ⟨outgoing, p, ?_, zero, fun n => ?_, fed, idle⟩
  · refine Nat.le_trans (Nat.add_le_add_right ?_ _) room
    bv_omega
  · rw [held n] at within ⊢
    have : c = 0 := by
      simp only [Initial.events] at within
      bv_omega
    rw [this]
    rfl

/-- The writer's own claim: P = 0 after a reset, a word of the head record, or its P, which moves the queued P on (R176, R179). -/
theorem State.RingInv.eventClaim {s t : State} (h : s.RingInv) (e : s.eventClaim = some t) : t.RingInv := by
  obtain ⟨outgoing, p, room, zero, held, fed, idle⟩ := h
  unfold State.eventClaim at e
  dsimp only at e
  split at e
  · next claim =>
    cases e
    have q := zero claim
    refine ⟨by simpa [q] using outgoing, by simpa [q] using p, by simpa [q] using room, fun _ => rfl, fun n => ?_, fed, idle⟩
    rw [held n] at claim
    simp [Initial.events] at claim
  · next claim =>
    have running : s.events.out ≠ [] → s.hold = .running := fun some => by
      by_contra n
      rw [held n] at some
      exact some rfl
    split at e
    · cases e
    · next r rest out =>
      have run := running (by rw [out]; exact List.cons_ne_nil _ _)
      split at e
      · next few =>
        cases e
        refine ⟨outgoing, p, room, fun c => absurd c claim, fun n => absurd run n, few, fun none => ?_⟩
        simp [out] at none
      · cases e
        rw [out] at outgoing p room
        simp only [List.map_cons, List.length_cons, List.range_succ_eq_map, List.cons.injEq, List.map_map] at outgoing
        obtain ⟨head, tail⟩ := outgoing
        have head : r.pAfter = s.events.q + 1 := by rw [head]; bv_omega
        refine ⟨?_, ?_, ?_, fun c => absurd c claim, fun n => absurd run n, Nat.zero_le _, fun _ => rfl⟩
        · dsimp only
          rw [tail, head]
          refine List.map_congr_left fun i _ => ?_
          simp only [Function.comp]
          bv_omega
        · dsimp only
          rw [p, head, List.length_cons]
          bv_omega
        · dsimp only
          rw [head]
          rw [List.length_cons] at room
          have : (s.events.q + 1 - s.events.c).toNat ≤ (s.events.q - s.events.c).toNat + 1 := by bv_omega
          omega

theorem State.RingInv.claim {s t : State} (h : s.RingInv) (e : s.nextClaim = some t) : t.RingInv := by
  obtain ⟨_, _, hold, _⟩ := (s.nextClaim_keeps t e).base_and_supply.1
  rcases s.nextClaim_cases t e with slot | ⟨_, event | mesh⟩
  · exact h.of_same (s.slotClaim_ring t slot).events hold
  · exact h.eventClaim event
  · exact h.of_same (s.meshClaim_ring t mesh).events hold

theorem State.RingInv.of_initial {t : State} (events : t.events = Initial.events) : t.RingInv := by
  unfold State.RingInv
  rw [events]
  exact ⟨rfl, rfl, by decide, fun _ => rfl, fun _ => rfl, by decide, fun _ => rfl⟩

theorem State.Leads.ringInv {s t : State} (h : s.Leads t) (inv : s.RingInv) : t.RingInv := by
  induction h with
  | refl => exact inv
  | own _ e ih =>
    obtain ⟨_, _, hold, _, _, _, events⟩ := (State.base_iff _ _).mp (State.base_of_shared e)
    exact ih.of_same events hold
  | supply _ e ih =>
    obtain ⟨_, _, hold, _, _, _, events⟩ := (State.base_iff _ _).mp e
    exact ih.of_same events hold
  | notice _ _ ih => exact ih
  | event _ code va vb ih => exact ih.raiseCode code va vb
  | consume _ within ih => exact ih.consume within
  | pass _ us ih =>
    obtain ⟨_, hold, _, _, events, _⟩ := State.pass_shared _ us
    exact ih.of_same events hold
  | tick _ ih => exact ih
  | path _ _ ih => exact ih
  | write _ _ _ _ ih => exact ih
  | claim _ e ih => exact ih.claim e
  | powerOn _ _ _ => exact State.RingInv.of_initial rfl
  | reset _ straps ih =>
    unfold State.assertReset
    dsimp only
    split
    · exact ih
    · exact State.RingInv.of_initial rfl
  | release _ held ih =>
    obtain ⟨_, _, _, _, _, hold, events⟩ := State.released_keeps _
    unfold State.RingInv
    rw [hold, events, ih.2.2.2.2.1 held]
    exact ⟨rfl, rfl, by decide, fun _ => rfl, fun n => absurd rfl n, by decide, fun _ => rfl⟩

/-! ### Every step keeps them -/

/-- Settles O54, over the small changes: each write of a word keeps the list canonical. -/
theorem memoryStaysCanonical : Obligations.MemoryStaysCanonical := fun _ _ =>
  step_keeps_of_leads (P := fun s => Memory.wf s.mem = true) (fun h => h.canonical) (fun _ _ h => h)

/-- A rising stack lists priorities in strictly rising order. -/
theorem stackRises_isChain {l : List NoticeSource} (h : stackRises l = true) : l.IsChain (fun x y => x.prio < y.prio) := by
  induction l with
  | nil => exact .nil
  | cons x l ih =>
    cases l with
    | nil => exact .singleton _
    | cons y l =>
      obtain ⟨first, rest⟩ := Bool.and_eq_true_iff.mp h
      exact .cons_cons (of_decide_eq_true first) (ih rest)

theorem NoticeSource.prio_lt (x : NoticeSource) : x.prio < 8 := by cases x <;> decide

/-- Strictly rising priorities below eight: no source twice, so at most eight of them. -/
theorem stackRises_nodup {l : List NoticeSource} (h : stackRises l = true) : l.Nodup ∧ l.length ≤ 8 := by
  have sorted : l.Pairwise (fun x y => x.prio < y.prio) := (stackRises_isChain h).pairwise
  have once : (l.map NoticeSource.prio).Nodup :=
    (List.pairwise_map.mpr sorted).imp fun below => Nat.ne_of_lt below
  refine ⟨List.Nodup.of_map _ once, ?_⟩
  have inside : l.map NoticeSource.prio ⊆ List.range 8 := fun n hn => by
    obtain ⟨x, _, rfl⟩ := List.mem_map.mp hn
    exact List.mem_range.mpr x.prio_lt
  simpa using (once.subperm inside).length_le

/-- Settles O55: only an acknowledge pushes, and only what outranks the top (R171). -/
theorem stackKeepsRising : Obligations.StackKeepsRising :=
  ⟨fun _ _ => step_keeps_of_leads (P := fun s => stackRises s.notice.stack = true) (fun h => h.rises) (fun _ _ h => h),
    fun _ => stackRises_nodup⟩

/-- Settles O58: whatever changes an input of the allotments ends with a recomputation. -/
theorem allotmentsStayCurrent : Obligations.AllotmentsStayCurrent := fun _ _ =>
  step_keeps_of_leads (fun h => h.allotInv) (fun _ _ h => h)

/-- Settles O59, by the cases of the event writer: a record placed, its words claimed, the consumer index moved. -/
theorem ringStaysConsistent : Obligations.RingStaysConsistent :=
  ⟨fun _ _ => step_keeps_of_leads (fun h => h.ringInv) (fun _ _ h => h), fun _ => State.RingInv.occupancy_le⟩

end Sys2Proof.Machine
end

section
/-! SUPPORT for O56. When a state is still: nothing to claim and nothing to grant, said once; every command ends still, or
touches nothing that a claim or a grant waits for. -/

namespace Sys2Proof.Machine

/-! ### When nothing is left to do (log 10) -/

theorem Option.orElse_none_iff {α : Type} (o : Option α) (f : Unit → Option α) : o.orElse f = none ↔ o = none ∧ f () = none := by
  cases o <;> simp

/-- No claim: the buffer is full, or no producer has one (R148). -/
theorem State.nextClaim_none_iff (s : State) :
    s.nextClaim = none ↔
      Config.bufferSize ≤ s.path.buffer.length ∨ (s.slotClaim = none ∧ s.eventClaim = none ∧ s.meshClaim = none) := by
  unfold State.nextClaim
  split
  · next full => simp [full]
  · next room => simp [room]

/-- A host access that waits at an empty buffer is not held (R150, R152). -/
theorem State.hostClaims_of_empty {s : State} (buffer : s.path.buffer = []) : s.hostClaims = s.path.host := by
  have none (o : Nat) : s.youngest o = none := by simp [State.youngest, buffer]
  unfold State.hostClaims
  cases s.path.host with
  | none => rfl
  | some x =>
    cases x with
    | read addr => rfl
    | write addr data be =>
      cases o : s.offsetOf addr with
      | none => simp [o]
      | some o => simp [o, none]

/-- No grant: the port is taken, or no claimant waits for it (R150, R155). -/
theorem State.nextGrant_none_iff (s : State) :
    s.nextGrant = none ↔
      s.path.port ≠ none ∨ (s.path.selPending = false ∧ s.path.buffer = [] ∧ s.path.host = none) := by
  unfold State.nextGrant
  cases port : s.path.port with
  | some c => simp
  | none =>
    cases sel : s.path.selPending with
    | true => simp
    | false =>
      by_cases empty : s.path.buffer = []
      · rw [State.hostClaims_of_empty empty]
        cases s.path.host <;> simp [empty]
      · cases s.hostClaims with
        | none => simp [empty]
        | some x => by_cases few : s.path.streak < Config.streakLimit <;> simp [empty, few]

theorem State.nextAction_none_iff {s : State} (run : s.hold = .running) :
    s.nextAction = none ↔ s.nextClaim = none ∧ s.nextGrant = none := by
  unfold State.nextAction
  simp [run, Option.orElse_none_iff]

/-- The mesh generator's claim reads its state, its snapshot, its progress and whether the selector is to be queued again. -/
theorem State.meshClaim_none_of_same {s t : State} (st : t.mesh.st = s.mesh.st) (snapshot : t.mesh.snapshot = s.mesh.snapshot)
    (progress : t.mesh.progress = s.mesh.progress) (requeue : t.mesh.requeueSelector = s.mesh.requeueSelector)
    (h : s.meshClaim = none) : t.meshClaim = none := by
  unfold State.meshClaim at h ⊢
  rw [snapshot]
  cases sn : s.mesh.snapshot with
  | none => rfl
  | some sn' =>
    rw [sn] at h
    dsimp only at h ⊢
    rw [st, progress, requeue]
    cases state : s.mesh.st with
    | idle => rfl
    | waitRetire => rfl
    | building =>
      rw [state] at h
      dsimp only at h ⊢
      split
      · next more => simp [more] at h
      · next whole =>
        rw [if_neg whole] at h
        split
        · next drained => simp [drained] at h
        · rfl
    | flipPending =>
      rw [state] at h
      dsimp only at h ⊢
      split
      · next again => simp [again] at h
      · rfl

/-- What the claims and grants of two states wait for is the same. -/
structure State.WaitsAlike (s t : State) : Prop where
  hold : t.hold = s.hold
  port : t.path.port.isSome = s.path.port.isSome
  selPending : t.path.selPending = s.path.selPending
  buffer : t.path.buffer = s.path.buffer
  host : t.path.host = s.path.host
  slots : t.slots = s.slots
  events : t.events = s.events
  st : t.mesh.st = s.mesh.st
  snapshot : t.mesh.snapshot = s.mesh.snapshot
  progress : t.mesh.progress = s.mesh.progress
  requeue : t.mesh.requeueSelector = s.mesh.requeueSelector

theorem State.WaitsAlike.nextAction {s t : State} (same : s.WaitsAlike t) (run : s.hold = .running)
    (h : s.nextAction = none) : t.nextAction = none := by
  rw [State.nextAction_none_iff run, State.nextClaim_none_iff, State.nextGrant_none_iff] at h
  rw [State.nextAction_none_iff (same.hold.trans run), State.nextClaim_none_iff, State.nextGrant_none_iff, same.buffer, same.selPending,
    same.host]
  obtain ⟨claims, grants⟩ := h
  have events : s.eventClaim = none → t.eventClaim = none := by
    rw [State.eventClaim_none_iff, State.eventClaim_none_iff, same.events]
    exact id
  refine ⟨claims.imp id fun ⟨slot, event, mesh⟩ => ⟨State.slotClaim_none_congr s t same.slots slot, events event,
    State.meshClaim_none_of_same same.st same.snapshot same.progress same.requeue mesh⟩, grants.imp (fun taken => ?_) id⟩
  rw [← Option.isSome_iff_ne_none, same.port, Option.isSome_iff_ne_none]
  exact taken

theorem State.WaitsAlike.of_blocks {s t : State} (hold : t.hold = s.hold) (path : t.path = s.path) (slots : t.slots = s.slots)
    (events : t.events = s.events) (mesh : t.mesh = s.mesh) : s.WaitsAlike t :=
  ⟨hold, by rw [path], by rw [path], by rw [path], by rw [path], slots, events, by rw [mesh], by rw [mesh], by rw [mesh],
    by rw [mesh]⟩

namespace State.QuietInv

theorem of_settle (s : State) : s.settle.QuietInv := fun _ => by
  rw [s.settle_ends]
  rfl

theorem of_held {s : State} (h : s.hold ≠ .running) : s.QuietInv := fun run => absurd run h

section
variable {s : State}

theorem of_waitsAlike {t : State} (h : s.QuietInv) (same : s.WaitsAlike t) : t.QuietInv := fun run => by
  have run := same.hold.symm.trans run
  rw [same.nextAction run (Option.isNone_iff_eq_none.mp (h run))]
  rfl

theorem ite {c : Prop} [Decidable c] {t u : State} (ht : t.QuietInv) (hu : u.QuietInv) : (if c then t else u).QuietInv := by
  split <;> assumption

theorem pass {us : Nat} (h : s.QuietInv) : (s.pass us).QuietInv := by
  refine of_waitsAlike h ?_
  unfold State.pass
  split
  · exact .of_blocks rfl rfl rfl rfl rfl
  · dsimp only
    split
    · exact .of_blocks rfl rfl rfl rfl rfl
    · exact ⟨rfl, Option.isSome_map, rfl, rfl, rfl, rfl, rfl, rfl, rfl, rfl, rfl⟩

theorem of_fansOnly {t : State} (h : s.QuietInv) (only : FansOnly s t) : t.QuietInv := by
  obtain ⟨_, _, _, hold, _, _, path, _⟩ := (State.outer_iff _ _).mp only.outer
  exact of_waitsAlike h (.of_blocks hold path only.slots only.events only.mesh)

theorem drawFan {f : FanId} {x : Fan} (h : s.QuietInv) : (s.drawFan f x).QuietInv := of_fansOnly h (s.drawFan_only f x)

theorem hostAccess {x : HostAccess} (h : s.QuietInv) : (s.hostAccess x).QuietInv := by
  unfold State.hostAccess
  split
  · exact h
  · exact of_settle _

theorem answerCycle (h : s.QuietInv) : s.answerCycle.QuietInv := by
  unfold State.answerCycle
  split
  · exact h
  · exact of_settle _

theorem timeoutCycle (h : s.QuietInv) : s.timeoutCycle.QuietInv := by
  unfold State.timeoutCycle
  split
  · exact h
  · exact of_settle _

theorem postRow {kind : BitVec 6} {p : Post} {abort : Bool} (h : s.QuietInv) : (s.postRow kind p abort).QuietInv :=
  ite (answerCycle h) (ite (answerCycle (hostAccess h)) (hostAccess h))

theorem assertReset {straps : Straps} (h : s.QuietInv) : (s.assertReset straps).QuietInv := by
  unfold State.assertReset
  refine ite h (of_held ?_)
  exact fun run => nomatch run

theorem wholeSecond (h : s.QuietInv) : s.wholeSecond.QuietInv :=
  have ticked : State.QuietInv
      { s.passMs s.clock.fanTick with clock := { (s.passMs s.clock.fanTick).clock with fanTick := 1000 } } :=
    of_waitsAlike (pass h) (.of_blocks rfl rfl rfl rfl rfl)
  ite h (ite (of_fansOnly ticked (State.tickFans_only _)) ticked)

theorem kickExpiry {f : FanId} (h : s.QuietInv) : (s.kickExpiry f).QuietInv := by
  unfold State.kickExpiry
  split
  · exact h
  · exact drawFan (pass h)

theorem cleanExpiry {f : FanId} (h : s.QuietInv) : (s.cleanExpiry f).QuietInv := by
  unfold State.cleanExpiry
  split
  · exact h
  · exact of_waitsAlike (pass h) (.of_blocks rfl rfl rfl rfl rfl)

end
end State.QuietInv

section
open State.QuietInv

/-- Every command ends with claims and grants made, or changes nothing that they wait for. -/
theorem exec_keeps_quietInv {s t : State} (h : s.QuietInv) (i : Instr) (e : exec i s = .next t) : t.QuietInv := by
  cases i with
  | powerOnReset pins => cases e; exact of_held fun run => nomatch run
  | systemReset straps => cases e; exact assertReset h
  | resetRelease => cases e; exact ite h (of_settle _)
  | hostRead addr => cases e; exact hostAccess h
  | hostWrite addr data be => cases e; exact hostAccess h
  | memoryAnswer => cases e; exact answerCycle h
  | memoryTimeout => cases e; exact timeoutCycle h
  | pairLowRead pair => cases e; exact hostAccess h
  | acknowledge => cases e; exact hostAccess h
  | endOfService data be => cases e; exact hostAccess h
  | encoderEdge a l => cases e; exact of_settle _
  | filterAccept a m => cases e; exact of_settle _
  | motionPeriod a => cases e; exact of_settle _
  | stall a => cases e; exact ite (of_settle _) h
  | budgetTimeout a => cases e; exact ite (of_settle _) h
  | settleEnd a => cases e; exact ite (of_settle _) h
  | stoppingEnd a => cases e; exact ite (of_settle _) h
  | stopSlow a => cases e; exact ite (of_settle _) h
  | homeTimeout a => cases e; exact of_settle _
  | interlockAsserted => cases e; exact of_settle _
  | interlockReleased => cases e; exact of_settle _
  | supplyLowAsserted => cases e; exact of_settle _
  | supplyLowDeasserted => cases e; exact of_settle _
  | fanTick => cases e; exact wholeSecond h
  | kickEnd f => cases e; exact kickExpiry h
  | tachEdge f elapsed => cases e; exact of_settle _
  | tachWindowExpiry f => cases e; exact of_settle _
  | cleanTimerExpiry f => cases e; exact cleanExpiry h
  | temperatureReading c code => cases e; exact of_settle _
  | heartbeatTimeout => cases e; exact of_settle _
  | minimumMet => cases e; exact of_settle _
  | cooldownTimeout => cases e; exact of_settle _
  | fsync => cases e; exact ite (of_settle _) h
  | retirementTimeout => cases e; exact of_settle _
  -- ABORT and the nineteen request kinds
  | _ => cases e; exact postRow h

end

theorem step_keeps_quietInv {s t : State} (h : s.QuietInv) (e : step s = .next t) : t.QuietInv := by
  unfold step at e
  split at e
  · cases e
    exact h.pass
  · next i rest _ =>
    have waiting : (s.withPending rest).QuietInv := h.of_waitsAlike (.of_blocks rfl rfl rfl rfl rfl)
    exact exec_keeps_quietInv waiting i e

end Sys2Proof.Machine
end

section
/-! SUPPORT for O56. Slots and their owners (R156). While a command runs, a slot may be between two owners: held by the part and
named by none. The invariant is carried with the list of those slots: an owner that gives a slot up adds it, an owner that takes
it, or its completion, removes it. -/

namespace Sys2Proof.Machine

/-! ### Who names a slot -/

/-- The slot of the direct request that an axis runs. -/
def Axis.owner (x : Axis) : Option SlotId := x.move.bind Move.owner

/-- The owner of a slot under a holder names it (R156). -/
def State.NamesAs (s : State) (k : SlotId) : Holder → Prop
  | .axisQueue a => k ∈ (s.axis a).queue.map Queued.slot
  | .axisRunning a => (s.axis a).owner = some k
  | .stopWait a => k ∈ (s.axis a).stopWait
  | .placement => s.placement.ref = some k
  | .meshWait => k ∈ s.mesh.waiting.map Waiting.slot
  | .power => s.power.ref = some k
  | .completing => k ∈ s.slots.queue.map Completion.slot

/-- No list names a slot twice. -/
structure State.NamesOnce (s : State) : Prop where
  ended : (s.slots.queue.map Completion.slot).Nodup
  queued : ∀ a, ((s.axis a).queue.map Queued.slot).Nodup
  stopping : ∀ a, (s.axis a).stopWait.Nodup
  awaiting : (s.mesh.waiting.map Waiting.slot).Nodup

/-- The slot of a post on its way is the host's. -/
def State.PostsFree (s : State) : Prop :=
  ∀ addr data be superseded left o,
    s.path.port = some { kind := .hostWrite addr data be .post superseded, left := left } → s.offsetOf addr = some o →
    o < 0x80 → s.view (slotOfOffset o) = .host

/-- With no completion left the writer of completions is at its start (R165). -/
def State.WriterAtStart (s : State) : Prop := s.slots.queue = [] → s.slots.writer = Initial.progress

/-- Slots and owners agree, but for slots between two owners: held by the part, and named by none. -/
structure State.Loosened (s : State) (K : List SlotId) : Prop where
  held : ∀ k g, s.NamesAs k g → s.HeldBy k g
  once : s.NamesOnce
  posts : s.PostsFree
  atStart : s.WriterAtStart
  nodup : K.Nodup
  loose : ∀ k ∈ K, ∃ g, s.HeldBy k g ∧ ¬ s.NamesAs k g

theorem Axis.owner_eq_some (x : Axis) (k : SlotId) : x.owner = some k ↔ ∃ m, x.move = some m ∧ m.owner = some k := by
  simp [Axis.owner, Option.bind_eq_some_iff]

theorem State.SlotInv.loosened {s : State} (h : s.SlotInv) : s.Loosened [] where
  held := fun k g names => by
    cases g with
    | axisQueue a =>
      obtain ⟨q, inside, rfl⟩ := List.mem_map.mp names
      exact h.queued a q inside
    | axisRunning a =>
      obtain ⟨m, move, owner⟩ := (Axis.owner_eq_some _ _).mp names
      exact h.running a m k move owner
    | stopWait a => exact h.stopping a k names
    | placement => exact h.placed k names
    | meshWait =>
      obtain ⟨w, inside, rfl⟩ := List.mem_map.mp names
      exact h.awaiting w inside
    | power => exact h.cooling k names
    | completing =>
      obtain ⟨c, inside, rfl⟩ := List.mem_map.mp names
      exact h.ended c inside
  once := ⟨h.endedOnce, h.queuedOnce, h.stoppingOnce, h.awaitingOnce⟩
  posts := h.posting
  atStart := h.atStart
  nodup := .nil
  loose := fun _ none => nomatch none

namespace State.Loosened

section
variable {s t : State} {K : List SlotId} {k : SlotId}

theorem slotInv (h : s.Loosened K) : s.SlotInv where
  ended := fun c inside => h.held c.slot .completing (List.mem_map_of_mem inside)
  endedOnce := h.once.ended
  queued := fun a q inside => h.held q.slot (.axisQueue a) (List.mem_map_of_mem inside)
  queuedOnce := h.once.queued
  running := fun a m k move owner => h.held k (.axisRunning a) ((Axis.owner_eq_some _ _).mpr ⟨m, move, owner⟩)
  stopping := fun a k inside => h.held k (.stopWait a) inside
  stoppingOnce := h.once.stopping
  placed := fun k ref => h.held k .placement ref
  awaiting := fun w inside => h.held w.slot .meshWait (List.mem_map_of_mem inside)
  awaitingOnce := h.once.awaiting
  cooling := fun k ref => h.held k .power ref
  posting := h.posts
  atStart := h.atStart

/-- A slot between two owners is named by none. -/
theorem not_named (h : s.Loosened K) (inside : k ∈ K) (g : Holder) : ¬ s.NamesAs k g := fun names => by
  obtain ⟨g', held, free⟩ := h.loose k inside
  exact free ((h.held k g names).unique held ▸ names)

theorem not_mem_of_names (h : s.Loosened K) {g : Holder} (names : s.NamesAs k g) : k ∉ K := fun inside =>
  h.not_named inside g names

theorem forget {L : List SlotId} (h : s.Loosened (L ++ K)) : s.Loosened K :=
  { h with
    nodup := (List.nodup_append.mp h.nodup).2.1
    loose := fun k inside => h.loose k (List.mem_append_right _ inside) }

theorem forget_cons (h : s.Loosened (k :: K)) : s.Loosened K := forget (L := [k]) h

/-- Owners give up slots: what they name still, they named before. -/
theorem give (h : s.Loosened K) {L : List SlotId} (views : ∀ j, t.view j = s.view j)
    (names : ∀ j g, t.NamesAs j g → s.NamesAs j g) (once : t.NamesOnce) (path : t.path = s.path) (atStart : t.WriterAtStart)
    (nodup : L.Nodup) (given : ∀ k ∈ L, k ∉ K ∧ ∃ g, s.HeldBy k g ∧ ¬ t.NamesAs k g) : t.Loosened (L ++ K) where
  held := fun j g named => (h.held j g (names j g named)).of_view (views j)
  once := once
  posts := fun addr data be superseded left o port offset slot => by
    rw [views]
    rw [path] at port
    rw [State.offsetOf, path] at offset
    exact h.posts addr data be superseded left o port offset slot
  atStart := atStart
  nodup := List.nodup_append.mpr ⟨nodup, h.nodup, fun k inL j inK e => (given k inL).1 (e ▸ inK)⟩
  loose := fun k inside => by
    rcases List.mem_append.mp inside with inL | inK
    · obtain ⟨_, g, held, free⟩ := given k inL
      exact ⟨g, held.of_view (views k), free⟩
    · obtain ⟨g, held, free⟩ := h.loose k inK
      exact ⟨g, held.of_view (views k), fun named => free (names k g named)⟩

/-- An owner takes a slot that was between two owners. -/
theorem take (h : s.Loosened (k :: K)) {g : Holder} (self : t.HeldBy k g) (views : ∀ j, j ≠ k → t.view j = s.view j)
    (names : ∀ j f, t.NamesAs j f → s.NamesAs j f ∨ (j = k ∧ f = g)) (once : t.NamesOnce) (path : t.path = s.path)
    (atStart : t.WriterAtStart) : t.Loosened K where
  held := fun j f named => by
    rcases names j f named with before | ⟨rfl, rfl⟩
    · have other : j ≠ k := fun e => h.not_named (List.mem_cons_self ..) f (e ▸ before)
      exact (h.held j f before).of_view (views j other)
    · exact self
  once := once
  posts := fun addr data be superseded left o port offset slot => by
    rw [path] at port
    rw [State.offsetOf, path] at offset
    have host := h.posts addr data be superseded left o port offset slot
    have other : slotOfOffset o ≠ k := fun e => by
      obtain ⟨f, held, _⟩ := h.loose k (List.mem_cons_self ..)
      exact held.notHost (e ▸ host)
    exact (views _ other).trans host
  atStart := atStart
  nodup := (List.nodup_cons.mp h.nodup).2
  loose := fun j inside => by
    have other : j ≠ k := fun e => (List.nodup_cons.mp h.nodup).1 (e ▸ inside)
    obtain ⟨f, held, free⟩ := h.loose j (List.mem_cons_of_mem _ inside)
    refine ⟨f, held.of_view (views j other), fun named => ?_⟩
    rcases names j f named with before | ⟨e, _⟩
    · exact free before
    · exact other e

theorem ite {c : Prop} [Decidable c] {u v : State} (hu : u.Loosened K) (hv : v.Loosened K) : (if c then u else v).Loosened K := by
  split <;> assumption

end
end State.Loosened

/-! ### What leaves slots and owners alone -/

/-- What of an axis names slots. -/
def Axis.owns (x : Axis) := (x.queue.map Queued.slot, x.owner, x.stopWait)

/-- Everything that slots and owners are read from. -/
def State.owners (s : State) :=
  (s.slots.views, s.slots.queue, s.slots.writer, s.axes.map Axis.owns, s.placement.ref, s.mesh.waiting, s.power.ref, s.path)

theorem State.axis_owns {s t : State} (h : t.axes.map Axis.owns = s.axes.map Axis.owns) (a : AxisId) :
    (t.axis a).owns = (s.axis a).owns := by
  simp only [PerAxis.map, PerAxis.mk.injEq] at h
  cases a with
  | h => exact h.1
  | v => exact h.2

theorem State.setAxis_owns {s : State} {a : AxisId} {x : Axis} (h : x.owns = (s.axis a).owns) :
    (s.setAxis a x).axes.map Axis.owns = s.axes.map Axis.owns := by
  cases a <;> simp only [State.setAxis, State.axis, PerAxis.set, PerAxis.get, PerAxis.map] at * <;> rw [h]

theorem State.setAxis_owners {s : State} {a : AxisId} {x : Axis} (h : x.owns = (s.axis a).owns) :
    (s.setAxis a x).owners = s.owners := by
  unfold State.owners
  rw [State.setAxis_owns h]
  rfl

theorem Axis.driveAt_owns (x : Axis) (positive lift : Bool) (c : Class) : (x.driveAt positive lift c).owns = x.owns := by
  unfold Axis.driveAt
  split <;> rfl

theorem Axis.takeAllotment_owns (x : Axis) (c : Class) : (x.takeAllotment c).owns = x.owns := by
  unfold Axis.takeAllotment
  split
  · exact x.driveAt_owns _ _ _
  · rfl

theorem Axis.toStopping_owns (x : Axis) (r : Result) : (x.toStopping r).owns = x.owns := by
  unfold Axis.owns Axis.owner Axis.toStopping
  cases x.move <;> rfl

theorem State.rebudget_owners (s : State) : s.rebudget.owners = s.owners := by
  simp [State.owners, State.rebudget, PerAxis.map, Axis.takeAllotment_owns]

theorem Axis.SameButDrive.owns {x y : Axis} (h : x.SameButDrive y) : y.owns = x.owns := by
  have same := congrArg Axis.owns h
  exact same

theorem FansOnly.owners {s t : State} (only : FansOnly s t) : t.owners = s.owners := by
  obtain ⟨_, _, _, _, _, _, path, _⟩ := (State.outer_iff _ _).mp only.outer
  simp [State.owners, PerAxis.map, only.slots, only.placement, only.mesh, only.power, path, only.axes.1.owns, only.axes.2.owns]

theorem State.raiseNotice_owners (s : State) (n : NoticeSource) : (s.raiseNotice n).owners = s.owners := by
  unfold State.raiseNotice
  split <;> rfl

theorem State.loseEvent_owners (s : State) : s.loseEvent.owners = s.owners := by
  unfold State.loseEvent
  dsimp only
  split
  · rfl
  · exact State.raiseNotice_owners _ _

theorem State.raiseCode_owners (s : State) (code : Half) (va vb : Word) : (s.raiseCode code va vb).owners = s.owners := by
  unfold State.raiseCode
  dsimp only
  split
  · rfl
  · split
    · exact s.loseEvent_owners
    · split
      · split
        · exact State.loseEvent_owners _
        · rfl
      · rfl

/-! ### One rule per change of slots and owners -/

namespace State.Loosened

section
variable {s t : State} {K : List SlotId} {k : SlotId}

theorem names_of_owners (e : t.owners = s.owners) (j : SlotId) (g : Holder) : t.NamesAs j g ↔ s.NamesAs j g := by
  simp only [State.owners, Prod.mk.injEq] at e
  obtain ⟨_, queue, _, axes, ref, waiting, power, _⟩ := e
  have queues (a : AxisId) := (Prod.mk.inj (State.axis_owns axes a)).1
  have moves (a : AxisId) := (Prod.mk.inj (Prod.mk.inj (State.axis_owns axes a)).2).1
  have stops (a : AxisId) := (Prod.mk.inj (Prod.mk.inj (State.axis_owns axes a)).2).2
  cases g <;> simp only [State.NamesAs, queues, moves, stops, ref, waiting, power, queue]

theorem once_of_owners (once : s.NamesOnce) (e : t.owners = s.owners) : t.NamesOnce := by
  simp only [State.owners, Prod.mk.injEq] at e
  obtain ⟨_, queue, _, axes, _, waiting, _, _⟩ := e
  have owns (a : AxisId) := Prod.mk.inj (State.axis_owns axes a)
  exact ⟨queue ▸ once.ended, fun a => (owns a).1 ▸ once.queued a,
    fun a => (Prod.mk.inj (owns a).2).2 ▸ once.stopping a, waiting ▸ once.awaiting⟩

/-- A change that touches neither slots nor owners. -/
theorem same (h : s.Loosened K) (e : t.owners = s.owners) : t.Loosened K := by
  have fields := e
  simp only [State.owners, Prod.mk.injEq] at fields
  obtain ⟨views, queue, writer, _, _, _, _, path⟩ := fields
  refine give (L := []) h (fun j => by unfold State.view; rw [views]) (fun j g => (names_of_owners e j g).mp)
    (once_of_owners h.once e) path ?_ .nil (fun _ none => nomatch none)
  unfold State.WriterAtStart
  rw [queue, writer]
  exact h.atStart

theorem setAxis {a : AxisId} {x : Axis} (h : s.Loosened K) (owns : x.owns = (s.axis a).owns) : (s.setAxis a x).Loosened K :=
  h.same (State.setAxis_owners owns)

theorem rebudget (h : s.Loosened K) : s.rebudget.Loosened K := h.same s.rebudget_owners

theorem raiseNotice {n : NoticeSource} (h : s.Loosened K) : (s.raiseNotice n).Loosened K := h.same (s.raiseNotice_owners n)

theorem raiseCode {code : Half} {va vb : Word} (h : s.Loosened K) : (s.raiseCode code va vb).Loosened K :=
  h.same (s.raiseCode_owners code va vb)

theorem raiseEvent {e : EventKind} {subject : Nat} {va vb : Word} (h : s.Loosened K) :
    (s.raiseEvent e subject va vb).Loosened K :=
  raiseCode h

theorem of_fansOnly (h : s.Loosened K) (only : FansOnly s t) : t.Loosened K := h.same only.owners

/-- What an axis names after a change of its record, the rest being as before. -/
theorem names_setAxis {a : AxisId} {x : Axis} {j : SlotId} {g : Holder} (named : (s.setAxis a x).NamesAs j g) :
    (g = .axisQueue a ∧ j ∈ x.queue.map Queued.slot) ∨ (g = .axisRunning a ∧ x.owner = some j)
      ∨ (g = .stopWait a ∧ j ∈ x.stopWait)
      ∨ ((∀ f, g = f → f ≠ .axisQueue a ∧ f ≠ .axisRunning a ∧ f ≠ .stopWait a) ∧ s.NamesAs j g) := by
  have other {b : AxisId} (ne : b ≠ a) : (s.setAxis a x).axis b = s.axis b := s.axis_setAxis_other a b x ne
  cases g with
  | axisQueue b =>
    by_cases e : b = a
    · subst e
      simp only [State.NamesAs, State.axis_setAxis_self] at named
      exact .inl ⟨rfl, named⟩
    · simp only [State.NamesAs, other e] at named
      exact .inr (.inr (.inr ⟨by simp [e], named⟩))
  | axisRunning b =>
    by_cases e : b = a
    · subst e
      simp only [State.NamesAs, State.axis_setAxis_self] at named
      exact .inr (.inl ⟨rfl, named⟩)
    · simp only [State.NamesAs, other e] at named
      exact .inr (.inr (.inr ⟨by simp [e], named⟩))
  | stopWait b =>
    by_cases e : b = a
    · subst e
      simp only [State.NamesAs, State.axis_setAxis_self] at named
      exact .inr (.inr (.inl ⟨rfl, named⟩))
    · simp only [State.NamesAs, other e] at named
      exact .inr (.inr (.inr ⟨by simp [e], named⟩))
  | placement => exact .inr (.inr (.inr ⟨by simp, named⟩))
  | meshWait => exact .inr (.inr (.inr ⟨by simp, named⟩))
  | power => exact .inr (.inr (.inr ⟨by simp, named⟩))
  | completing => exact .inr (.inr (.inr ⟨by simp, named⟩))

theorem once_setAxis {a : AxisId} {x : Axis} (once : s.NamesOnce) (queued : (x.queue.map Queued.slot).Nodup)
    (stopping : x.stopWait.Nodup) : (s.setAxis a x).NamesOnce := by
  refine ⟨once.ended, fun b => ?_, fun b => ?_, once.awaiting⟩
  all_goals
    by_cases e : b = a
    · subst e
      rw [State.axis_setAxis_self]
      assumption
    · rw [s.axis_setAxis_other a b x e]
      first
        | exact once.queued b
        | exact once.stopping b

/-- An axis gives up slots. -/
theorem giveAxis (h : s.Loosened K) {L : List SlotId} {a : AxisId} {x : Axis} (queue : x.queue.Sublist (s.axis a).queue)
    (stops : x.stopWait.Sublist (s.axis a).stopWait) (owner : ∀ j, x.owner = some j → (s.axis a).owner = some j)
    (nodup : L.Nodup) (given : ∀ k ∈ L, k ∉ K ∧ ∃ g, s.HeldBy k g ∧ ¬ (s.setAxis a x).NamesAs k g) :
    (s.setAxis a x).Loosened (L ++ K) := by
  refine give h (fun _ => rfl) (fun j g named => ?_) (once_setAxis h.once ?_ ?_) rfl h.atStart nodup given
  · rcases names_setAxis named with ⟨rfl, inside⟩ | ⟨rfl, runs⟩ | ⟨rfl, inside⟩ | ⟨_, before⟩
    · exact (queue.map Queued.slot).subset inside
    · exact owner j runs
    · exact stops.subset inside
    · exact before
  · exact (queue.map Queued.slot).nodup (h.once.queued a)
  · exact stops.nodup (h.once.stopping a)

/-- An axis drops its move's owner. -/
theorem setAxis_free {a : AxisId} {x : Axis} (h : s.Loosened K) (queue : x.queue = (s.axis a).queue)
    (stops : x.stopWait = (s.axis a).stopWait) (free : x.owner = none) :
    (s.setAxis a x).Loosened ((s.axis a).owner.toList ++ K) := by
  refine giveAxis h (queue ▸ .refl _) (stops ▸ .refl _) (fun j some => nomatch free.symm.trans some) ?_ (fun k inside => ?_)
  · cases (s.axis a).owner <;> simp
  · have owner : s.NamesAs k (.axisRunning a) := Option.mem_toList.mp inside
    refine ⟨h.not_mem_of_names owner, _, h.held _ _ owner, fun named => ?_⟩
    rcases names_setAxis named with ⟨no, _⟩ | ⟨_, runs⟩ | ⟨no, _⟩ | ⟨no, _⟩
    · cases no
    · exact nomatch free.symm.trans runs
    · cases no
    · exact (no _ rfl).2.1 rfl

/-! ### Completions (R165) -/

theorem heldBy_setHolder (h : s.Loosened (k :: K)) (g : Holder) : (s.setHolder k g).HeldBy k g := by
  obtain ⟨f, ⟨kind, tag, taken, view⟩, _⟩ := h.loose k (List.mem_cons_self ..)
  exact ⟨kind, tag, taken, State.view_setHolder_self g view⟩

theorem setHolder_rest (s : State) (k : SlotId) (g : Holder) :
    (s.setHolder k g).axes = s.axes ∧ (s.setHolder k g).placement = s.placement ∧ (s.setHolder k g).mesh = s.mesh
      ∧ (s.setHolder k g).power = s.power ∧ (s.setHolder k g).path = s.path ∧ (s.setHolder k g).slots.queue = s.slots.queue
      ∧ (s.setHolder k g).slots.writer = s.slots.writer := by
  unfold State.setHolder
  split <;> exact ⟨rfl, rfl, rfl, rfl, rfl, rfl, rfl⟩

theorem names_setHolder (g : Holder) (j : SlotId) (f : Holder) : (s.setHolder k g).NamesAs j f ↔ s.NamesAs j f := by
  obtain ⟨axes, placement, mesh, power, _, queue, _⟩ := setHolder_rest s k g
  cases f <;> simp only [State.NamesAs, State.axis, axes, placement, mesh, power, queue]

theorem once_setHolder (once : s.NamesOnce) (g : Holder) : (s.setHolder k g).NamesOnce := by
  obtain ⟨axes, _, mesh, _, _, queue, _⟩ := setHolder_rest s k g
  exact ⟨queue ▸ once.ended, fun a => by rw [State.axis, axes]; exact once.queued a,
    fun a => by rw [State.axis, axes]; exact once.stopping a, mesh ▸ once.awaiting⟩

/-- An owner that already names a slot takes it: the slot's view gets the holder. -/
theorem takeHolder (h : s.Loosened (k :: K)) {g : Holder} (slots : t.slots = s.slots) (path : t.path = s.path)
    (names : ∀ j f, t.NamesAs j f → s.NamesAs j f ∨ (j = k ∧ f = g)) (once : t.NamesOnce) : (t.setHolder k g).Loosened K := by
  obtain ⟨_, _, _, _, path', queue, writer⟩ := setHolder_rest t k g
  have view (j : SlotId) : t.view j = s.view j := State.view_congr slots j
  refine take h ?_ (fun j other => (t.view_setHolder_other k j g other).trans (view j))
    (fun j f named => names j f ((names_setHolder g j f).mp named)) (once_setHolder once g) (path'.trans path) ?_
  · obtain ⟨f, ⟨kind, tag, taken, before⟩, _⟩ := h.loose k (List.mem_cons_self ..)
    exact ⟨kind, tag, taken, State.view_setHolder_self g ((view k).trans before)⟩
  · unfold State.WriterAtStart
    rw [queue, writer, slots]
    exact h.atStart

theorem complete (h : s.Loosened (k :: K)) {r : Result} {body : List Word} : (s.complete k r body).Loosened K := by
  obtain ⟨_, _, _, _, path, queue, _⟩ := setHolder_rest s k .completing
  have free := h.not_named (List.mem_cons_self ..) .completing
  have queued : (s.complete k r body).slots.queue = s.slots.queue ++ [{ slot := k, result := r, body := body }] := by
    unfold State.complete
    dsimp only
    rw [queue]
  have once := once_setHolder (k := k) h.once .completing
  refine take (g := .completing) h ?_ (fun j other => s.view_complete_other k j r body other) (fun j f named => ?_) ?_ path
    (fun empty => ?_)
  · obtain ⟨f, held, _⟩ := h.loose k (List.mem_cons_self ..)
    exact State.heldBy_complete_self r body held
  · cases f with
    | completing =>
      simp only [State.NamesAs, queued, List.map_append, List.mem_append, List.map_cons, List.map_nil, List.mem_singleton] at named
      exact named.imp id fun e => ⟨e, rfl⟩
    | axisQueue a => exact .inl ((names_setHolder .completing j _).mp named)
    | axisRunning a => exact .inl ((names_setHolder .completing j _).mp named)
    | stopWait a => exact .inl ((names_setHolder .completing j _).mp named)
    | placement => exact .inl ((names_setHolder .completing j _).mp named)
    | meshWait => exact .inl ((names_setHolder .completing j _).mp named)
    | power => exact .inl ((names_setHolder .completing j _).mp named)
  · refine ⟨?_, once.queued, once.stopping, once.awaiting⟩
    rw [queued, List.map_append]
    refine List.nodup_append.mpr ⟨h.once.ended, List.nodup_singleton _, fun j inside i last e => free ?_⟩
    rw [List.map_cons, List.map_nil, List.mem_singleton] at last
    rw [e, last] at inside
    exact inside
  · rw [queued] at empty
    simp at empty

theorem completeRef {ref : Option SlotId} (h : s.Loosened (ref.toList ++ K)) {r : Result} {body : List Word} :
    (s.completeRef ref r body).Loosened K := by
  cases ref with
  | none => exact h
  | some k => exact complete h

/-- Requests of a list that end one after another. -/
theorem foldl_complete {α : Type} {l : List α} {slot : α → SlotId} {r : Result} {body : State → List Word}
    (h : s.Loosened (l.map slot ++ K)) : (l.foldl (fun u x => u.complete (slot x) r (body u)) s).Loosened K := by
  induction l generalizing s with
  | nil => exact h
  | cons x l ih => exact ih (complete h)

/-- A completion reads and changes nothing of the placement unit and the power sequencer. -/
theorem completeRef_update (s : State) (ref : Option SlotId) (r : Result) (body : List Word) (p : Placement) (q : Power) :
    { s.completeRef ref r body with placement := p, power := q }
      = State.completeRef { s with placement := p, power := q } ref r body := by
  cases ref with
  | none => rfl
  | some k =>
    have view : State.view { s with placement := p, power := q } k = s.view k := rfl
    simp only [State.completeRef, State.complete, State.setHolder, view]
    cases s.view k <;> rfl

theorem completeRef_rest (s : State) (ref : Option SlotId) (r : Result) (body : List Word) :
    (s.completeRef ref r body).placement = s.placement ∧ (s.completeRef ref r body).power = s.power
      ∧ (s.completeRef ref r body).axes = s.axes ∧ (s.completeRef ref r body).mesh = s.mesh := by
  cases ref with
  | none => exact ⟨rfl, rfl, rfl, rfl⟩
  | some k =>
    obtain ⟨axes, placement, mesh, power, _⟩ := setHolder_rest s k .completing
    exact ⟨placement, power, axes, mesh⟩

/-- The placement unit gives up its reference. -/
theorem dropPlacement {p : Placement} (h : s.Loosened K) (ref : p.ref = none) :
    State.Loosened { s with placement := p } (s.placement.ref.toList ++ K) := by
  refine give h (fun _ => rfl) (fun j g named => ?_) ⟨h.once.ended, h.once.queued, h.once.stopping, h.once.awaiting⟩ rfl h.atStart
    ?_ (fun k inside => ?_)
  · cases g with
    | placement => exact nomatch ref.symm.trans named
    | axisQueue a => exact named
    | axisRunning a => exact named
    | stopWait a => exact named
    | meshWait => exact named
    | power => exact named
    | completing => exact named
  · cases s.placement.ref <;> simp
  · have placed : s.NamesAs k .placement := Option.mem_toList.mp inside
    exact ⟨h.not_mem_of_names placed, _, h.held _ _ placed, fun named => nomatch ref.symm.trans named⟩

/-- The power sequencer gives up its reference. -/
theorem dropPower {p : Power} (h : s.Loosened K) (ref : p.ref = none) :
    State.Loosened { s with power := p } (s.power.ref.toList ++ K) := by
  refine give h (fun _ => rfl) (fun j g named => ?_) ⟨h.once.ended, h.once.queued, h.once.stopping, h.once.awaiting⟩ rfl h.atStart
    ?_ (fun k inside => ?_)
  · cases g with
    | power => exact nomatch ref.symm.trans named
    | axisQueue a => exact named
    | axisRunning a => exact named
    | stopWait a => exact named
    | meshWait => exact named
    | placement => exact named
    | completing => exact named
  · cases s.power.ref <;> simp
  · have cooling : s.NamesAs k .power := Option.mem_toList.mp inside
    exact ⟨h.not_mem_of_names cooling, _, h.held _ _ cooling, fun named => nomatch ref.symm.trans named⟩

/-- The placement's request ends, and with it the reference (R9, R10, R12). -/
theorem endPlacement {p : Placement} (h : s.Loosened K) (ref : p.ref = none) {r : Result} {body : List Word} :
    State.Loosened { s.completeRef s.placement.ref r body with placement := p } K := by
  have commuted := completeRef_update s s.placement.ref r body p s.power
  rw [show ({ s.completeRef s.placement.ref r body with placement := p } : State)
      = { s.completeRef s.placement.ref r body with placement := p, power := s.power } by
    rw [← (completeRef_rest s s.placement.ref r body).2.1], commuted]
  exact completeRef (dropPlacement h ref)

/-- The POWER_DOWN ends, and with it the reference (R133, R135). -/
theorem endPower {p : Power} (h : s.Loosened K) (ref : p.ref = none) {r : Result} {body : List Word} :
    State.Loosened { s.completeRef s.power.ref r body with power := p } K := by
  have commuted := completeRef_update s s.power.ref r body s.placement p
  rw [show ({ s.completeRef s.power.ref r body with power := p } : State)
      = { s.completeRef s.power.ref r body with placement := s.placement, power := p } by
    rw [← (completeRef_rest s s.power.ref r body).1], commuted]
  exact completeRef (dropPower h ref)

end
end State.Loosened

end Sys2Proof.Machine
end

section
/-! SUPPORT for O56. The blocks keep slots and owners agreed (R156): each function said once, in the order of the model's files. A
function that is handed a slot finds it between two owners and leaves it with one. -/

namespace Sys2Proof.Machine

namespace State.Loosened

section
variable {s t : State} {K : List SlotId} {k : SlotId}

/-! ### Records that name no slot -/

theorem setChannel {c : ChannelId} {x : Channel} (h : s.Loosened K) : (s.setChannel c x).Loosened K := h.same rfl

theorem setFan {f : FanId} {x : Fan} (h : s.Loosened K) : (s.setFan f x).Loosened K := h.same rfl

theorem setThermal {m : Thermal} (h : s.Loosened K) : State.Loosened { s with thermal := m } K := h.same rfl

theorem setNotice {n : Notice} (h : s.Loosened K) : State.Loosened { s with notice := n } K := h.same rfl

theorem setMesh {m : Mesh} (h : s.Loosened K) (waiting : m.waiting = s.mesh.waiting) : State.Loosened { s with mesh := m } K :=
  h.same (by simp only [State.owners, waiting])

theorem setPlacement {p : Placement} (h : s.Loosened K) (ref : p.ref = s.placement.ref) :
    State.Loosened { s with placement := p } K :=
  h.same (by simp only [State.owners, ref])

theorem setPower {p : Power} (h : s.Loosened K) (ref : p.ref = s.power.ref) : State.Loosened { s with power := p } K :=
  h.same (by simp only [State.owners, ref])

/-! ### Budget and encoder -/

theorem setDesire {a : AxisId} {c : Class} (h : s.Loosened K) : (s.setDesire a c).Loosened K := h.same (State.rebudget_owners _)

theorem joinOrder {a : AxisId} {c : Class} (h : s.Loosened K) : (s.joinOrder a c).Loosened K := h.same (State.rebudget_owners _)

theorem leaveOrder {a : AxisId} (h : s.Loosened K) : (s.leaveOrder a).Loosened K := h.same (State.rebudget_owners _)

theorem supplyEdge {low : Bool} (h : s.Loosened K) : (s.supplyEdge low).Loosened K :=
  have edge : State.Loosened { s with pins := { s.pins with supplyLow := low } } K := h.same rfl
  ite h (ite edge (raiseEvent (edge.same (State.rebudget_owners _))))

theorem enterStopping {a : AxisId} {r : Result} (h : s.Loosened K) : (s.enterStopping a r).Loosened K :=
  setDesire (setAxis h (Axis.toStopping_owns _ _))

theorem stopCause {a : AxisId} {c : ResCode} (h : s.Loosened K) : (s.stopCause a c).Loosened K := ite (enterStopping h) h

theorem stopBoth {c : ResCode} (h : s.Loosened K) : (s.stopBoth c).Loosened K := stopCause (stopCause h)

/-- A move's owner stays while its other fields change. -/
theorem setMove {a : AxisId} {x : Axis} {m n : Move} (h : s.Loosened K) (before : (s.axis a).move = some m)
    (queue : x.queue = (s.axis a).queue) (stops : x.stopWait = (s.axis a).stopWait) (move : x.move = some n)
    (owner : n.owner = m.owner) : (s.setAxis a x).Loosened K := by
  refine setAxis h ?_
  unfold Axis.owns Axis.owner
  rw [queue, stops, move, before, Option.bind_some, Option.bind_some, owner]

theorem addNoise {a : AxisId} (h : s.Loosened K) : (s.addNoise a).Loosened K := by
  unfold State.addNoise
  dsimp only
  split
  · exact h
  · next m move => exact ite h (ite (raiseEvent (setMove h move rfl rfl rfl rfl)) (setMove h move rfl rfl rfl rfl))

theorem rejectEdge {a : AxisId} (h : s.Loosened K) : (s.rejectEdge a).Loosened K := addNoise (setAxis h rfl)

theorem phaseError {a : AxisId} (h : s.Loosened K) : (s.phaseError a).Loosened K := addNoise (setAxis h rfl)

theorem setCounter {a : AxisId} {w : Word} (h : s.Loosened K) : (s.setCounter a w).Loosened K := setAxis h rfl

theorem homeFound {a : AxisId} (h : s.Loosened K) : (s.homeFound a).Loosened K := enterStopping (setAxis (setCounter h) rfl)

theorem homeFail {a : AxisId} (h : s.Loosened K) : (s.homeFail a).Loosened K := by
  refine enterStopping (setAxis h ?_)
  unfold Axis.owns Axis.owner
  cases (s.axis a).move <;> rfl

theorem slipCheck {a : AxisId} (h : s.Loosened K) : (s.slipCheck a).Loosened K :=
  ite h (enterStopping (raiseEvent (setAxis h rfl)))

theorem indexEvent {a : AxisId} (h : s.Loosened K) : (s.indexEvent a).Loosened K := by
  unfold State.indexEvent
  refine ite h ?_
  split
  · exact homeFound h
  · exact ite (slipCheck h) h
  · exact ite (slipCheck h) h
  · exact h
  · exact h
  · exact h

theorem spanCheck {a : AxisId} (h : s.Loosened K) : (s.spanCheck a).Loosened K := ite (homeFail h) h

theorem decoderUpdate {a : AxisId} {l : EncLevels} (h : s.Loosened K) : (s.decoderUpdate a l).Loosened K := by
  unfold State.decoderUpdate
  dsimp only
  have counted {c d : Prop} [Decidable c] [Decidable d] {enc : Encoder} {w : Word} :
      (if c then (s.setAxis a { s.axis a with enc := enc }).phaseError a
        else if d then s.setAxis a { s.axis a with enc := enc }
        else (s.setAxis a { s.axis a with enc := enc }).setCounter a w).Loosened K :=
    ite (phaseError (setAxis h rfl)) (ite (setAxis h rfl) (setCounter (setAxis h rfl)))
  exact ite (ite (indexEvent counted) counted) (spanCheck (ite (indexEvent counted) counted))

theorem rejectEdges {a : AxisId} {n : Nat} (h : s.Loosened K) : (s.rejectEdges a n).Loosened K := by
  induction n generalizing s with
  | zero => exact h
  | succ n ih => exact ih (rejectEdge h)

theorem encoderLevels {a : AxisId} {l : EncLevels} (h : s.Loosened K) : (s.encoderLevels a l).Loosened K :=
  ite (setAxis h rfl) (ite (decoderUpdate (rejectEdges (setAxis h rfl))) (rejectEdges (setAxis h rfl)))

theorem acceptInputs {a : AxisId} {m : EncLevels} (h : s.Loosened K) : (s.acceptInputs a m).Loosened K :=
  ite h (decoderUpdate (setAxis h rfl))

/-! ### Mesh -/

theorem meshRun (h : s.Loosened K) : s.meshRun.Loosened K := ite (ite (setMesh h rfl) (setMesh h rfl)) h

theorem markDirty (h : s.Loosened K) : s.markDirty.Loosened K := meshRun (setMesh h rfl)

theorem takeFsync (h : s.Loosened K) : s.takeFsync.Loosened K := meshRun (setMesh h rfl)

theorem retireExpiry (h : s.Loosened K) : s.retireExpiry.Loosened K := meshRun (ite (setMesh h rfl) (raiseEvent (setMesh h rfl)))

theorem joinWaiting {needed : Half} (h : s.Loosened (k :: K)) : (s.joinWaiting k needed).Loosened K := by
  have free := h.not_named (List.mem_cons_self ..) .meshWait
  refine takeHolder h rfl rfl (fun j f named => ?_) ⟨h.once.ended, h.once.queued, h.once.stopping, ?_⟩
  · cases f with
    | meshWait =>
      simp only [State.NamesAs, List.map_append, List.mem_append, List.map_cons, List.map_nil, List.mem_singleton] at named
      exact named.imp id fun e => ⟨e, rfl⟩
    | axisQueue a => exact .inl named
    | axisRunning a => exact .inl named
    | stopWait a => exact .inl named
    | placement => exact .inl named
    | power => exact .inl named
    | completing => exact .inl named
  · rw [List.map_append, List.map_cons, List.map_nil]
    refine List.nodup_append.mpr ⟨h.once.awaiting, List.nodup_singleton _, fun j inside i last e => free ?_⟩
    rw [List.mem_singleton] at last
    rw [e, last] at inside
    exact inside

/-- Waiting requests leave the list. -/
theorem giveWaiting {m : Mesh} {p : Waiting → Bool} (h : s.Loosened K) (waiting : m.waiting = s.mesh.waiting.filter p) :
    State.Loosened { s with mesh := m } ((s.mesh.waiting.filter (fun w => !p w)).map Waiting.slot ++ K) := by
  refine give h (fun _ => rfl) (fun j g named => ?_) ⟨h.once.ended, h.once.queued, h.once.stopping, ?_⟩ rfl h.atStart ?_
    (fun j inside => ?_)
  · cases g with
    | meshWait =>
      simp only [State.NamesAs, waiting] at named
      exact (List.filter_sublist.map _).subset named
    | axisQueue a => exact named
    | axisRunning a => exact named
    | stopWait a => exact named
    | placement => exact named
    | power => exact named
    | completing => exact named
  · rw [waiting]
    exact (List.filter_sublist.map _).nodup h.once.awaiting
  · exact (List.filter_sublist.map _).nodup h.once.awaiting
  · have named : s.NamesAs j .meshWait := (List.filter_sublist.map _).subset inside
    refine ⟨h.not_mem_of_names named, _, h.held _ _ named, fun left => ?_⟩
    obtain ⟨w, gone, rfl⟩ := List.mem_map.mp inside
    simp only [State.NamesAs, waiting] at left
    obtain ⟨v, stays, e⟩ := List.mem_map.mp left
    have same := List.inj_on_of_nodup_map h.once.awaiting (List.mem_of_mem_filter stays) (List.mem_of_mem_filter gone) e
    have kept := (List.mem_filter.mp stays).2
    have dropped := (List.mem_filter.mp gone).2
    simp [same ▸ kept] at dropped

theorem endReached {g : Half} {l : List Waiting} (h : s.Loosened ((l.filter (fun w => reaches g w.needed)).map Waiting.slot ++ K)) :
    (s.endReached g l).Loosened K := by
  induction l generalizing s with
  | nil => exact h
  | cons w l ih =>
    unfold State.endReached
    by_cases reached : reaches g w.needed = true
    · rw [if_pos reached]
      rw [List.filter_cons_of_pos (by exact reached)] at h
      exact ih (complete h)
    · rw [if_neg reached]
      rw [List.filter_cons_of_neg (by exact reached)] at h
      exact ih h

theorem takeCornerRecord {c : Corners} (h : s.Loosened (k :: K)) : (s.takeCornerRecord k c).Loosened K :=
  ite (markDirty (joinWaiting (setMesh h rfl))) (complete h)

theorem selectorAnswer {w : Option Word} (h : s.Loosened K) : (s.selectorAnswer w).Loosened K := by
  refine meshRun (setMesh h ?_)
  cases w.bind readSelector with
  | none => rfl
  | some found =>
    obtain ⟨bank, g⟩ := found
    cases bank <;> rfl

/-! ### Fans and thermal monitor -/

theorem drawFan {f : FanId} {x : Fan} (h : s.Loosened K) : (s.drawFan f x).Loosened K := of_fansOnly h (s.drawFan_only f x)

theorem refreshFans (h : s.Loosened K) : s.refreshFans.Loosened K := of_fansOnly h s.refreshFans_only

theorem tickFans (h : s.Loosened K) : s.tickFans.Loosened K := of_fansOnly h s.tickFans_only

theorem takeFanFloor {body : List Word} (h : s.Loosened (k :: K)) : (s.takeFanFloor k body).Loosened K :=
  complete (refreshFans (setFan h))

theorem updateOverall {subject : Nat} (h : s.Loosened K) : (s.updateOverall subject).Loosened K :=
  have told : ∀ m, State.Loosened (State.refreshFans (State.raiseEvent
      { s with thermal := { s.thermal with overall := s.overallNow } } .thermalLevel subject (natWord s.overallNow.rank) m)) K :=
    fun _ => refreshFans (raiseEvent (setThermal h))
  ite h (ite (raiseNotice (stopBoth (setThermal (told _)))) (told _))

theorem fanStall {f : FanId} (h : s.Loosened K) : (s.fanStall f).Loosened K :=
  ite (raiseEvent (drawFan h)) (updateOverall (raiseNotice (raiseEvent (raiseEvent (drawFan h)))))

theorem tachSilence {f : FanId} (h : s.Loosened K) : (s.tachSilence f).Loosened K :=
  have silent : (s.setFan f (s.fan f).silence).Loosened K := setFan h
  ite (fanStall silent) silent

theorem takeFanReport {body : List Word} (h : s.Loosened (k :: K)) : (s.takeFanReport k body).Loosened K :=
  complete (ite h (ite (updateOverall (drawFan h)) (setFan h)))

theorem channelReading {c : ChannelId} {code : Int} (h : s.Loosened K) : (s.channelReading c code).Loosened K := by
  unfold State.channelReading
  dsimp only
  have read {x : Channel} : (s.setChannel c x).Loosened K := setChannel h
  refine updateOverall (refreshFans ?_)
  split
  · exact same (ite (raiseEvent read) read) rfl
  · exact ite (raiseEvent read) read

theorem takeThresholds {body : List Word} (h : s.Loosened (k :: K)) : (s.takeThresholds k body).Loosened K :=
  complete (setChannel h)

theorem takeThermalResume (h : s.Loosened (k :: K)) : (s.takeThermalResume k).Loosened K :=
  ite (complete h) (ite (complete h) (complete (setThermal h)))

theorem takeFanCurve {body : List Word} (h : s.Loosened (k :: K)) : (s.takeFanCurve k body).Loosened K :=
  complete (ite (refreshFans (setFan (setThermal h))) (setThermal h))

theorem heartbeatWrite (h : s.Loosened K) : s.heartbeatWrite.Loosened K := by
  unfold State.heartbeatWrite
  dsimp only
  split
  · exact ite (setThermal h) (setThermal h)
  · exact setThermal h
  · exact refreshFans (raiseEvent (setThermal h))

theorem hostLost (h : s.Loosened K) : s.hostLost.Loosened K := stopBoth (refreshFans (raiseEvent (setThermal h)))

/-! ### Power sequencer -/

theorem enterStandby (h : s.Loosened K) : s.enterStandby.Loosened K :=
  raiseNotice (refreshFans (setThermal (setThermal (setPower h rfl))))

theorem recool (h : s.Loosened K) : s.recool.Loosened K := by
  have started : State.Loosened { s with power := recoolPower } K := forget (dropPower h rfl)
  exact raiseNotice (refreshFans (setThermal started))

theorem endCooldown {r : Result} (h : s.Loosened K) : (s.endCooldown r).Loosened K := by
  unfold State.endCooldown
  dsimp only
  have recooled : State.Loosened { s.completeRef s.power.ref r s.coolBody with power := recoolPower } K := endPower h rfl
  exact ite (raiseNotice (refreshFans (setThermal recooled))) (enterStandby (endPower h rfl))

theorem checkCooldown (h : s.Loosened K) : s.checkCooldown.Loosened K := ite (endCooldown h) h

theorem setPark {a : AxisId} {p : Park} (h : s.Loosened K) : (s.setPark a p).Loosened K := setPower h rfl

theorem parkReport {a : AxisId} {r : Result} (h : s.Loosened K) : (s.parkReport a r).Loosened K :=
  ite (checkCooldown (setPark h)) h

theorem settlePark {a : AxisId} {c : ResCode} (h : s.Loosened K) : (s.settlePark a c).Loosened K := by
  unfold State.settlePark
  dsimp only
  have dropped : (s.setAxis a { s.axis a with pendingPark := false }).Loosened K := setAxis h rfl
  exact ite (setPark (ite (stopCause dropped) dropped)) h

theorem cooldownExpiry (h : s.Loosened K) : s.cooldownExpiry.Loosened K := endCooldown (settlePark (settlePark h))

theorem takePowerUp (h : s.Loosened (k :: K)) : (s.takePowerUp k).Loosened K := by
  unfold State.takePowerUp
  split
  · exact complete h
  · have running : State.Loosened { s with power := { s.power with mode := .run } } (k :: K) := setPower h rfl
    exact complete (refreshFans (setThermal running))
  · have settled : ((s.settlePark .h .cancelled).settlePark .v .cancelled).Loosened (k :: K) := settlePark (settlePark h)
    dsimp only
    exact complete (refreshFans (endPower settled rfl))

theorem takeReading {c : ChannelId} {code : Int} (h : s.Loosened K) : (s.takeReading c code).Loosened K :=
  have read : (if c = .source then (s.channelReading c code).checkCooldown else s.channelReading c code).Loosened K :=
    ite (checkCooldown (channelReading h)) (channelReading h)
  ite (ite (setChannel h) h) (ite (recool read) read)

/-! ### Placement -/

/-- A move that no slot owns starts. -/
theorem startMove {a : AxisId} {kind : MoveKind} {target : Int} {limit : Class} (h : s.Loosened K) :
    (s.startMove a kind none target limit).Loosened K :=
  joinOrder (forget (setAxis_free h rfl rfl rfl))

theorem detach (h : s.Loosened K) : s.detach.Loosened K := ite (forget (dropPlacement h rfl)) h

/-- An axis runs the request that it has just been given. -/
theorem runs {a : AxisId} {x : Axis} (h : s.Loosened (k :: K)) (queue : x.queue = (s.axis a).queue)
    (stops : x.stopWait = (s.axis a).stopWait) (owner : x.owner = some k) :
    ((s.setHolder k (.axisRunning a)).setAxis a x).Loosened K := by
  have commute : (s.setHolder k (.axisRunning a)).setAxis a x = (s.setAxis a x).setHolder k (.axisRunning a) := by
    unfold State.setHolder
    rw [show (s.setAxis a x).view k = s.view k from rfl]
    split <;> rfl
  rw [commute]
  refine takeHolder h rfl rfl (fun j f named => ?_) (once_setAxis h.once (queue ▸ h.once.queued a) (stops ▸ h.once.stopping a))
  rcases names_setAxis named with ⟨rfl, inside⟩ | ⟨rfl, runs⟩ | ⟨rfl, inside⟩ | ⟨_, before⟩
  · rw [queue] at inside
    exact .inl inside
  · exact .inr ⟨Option.some.inj (runs.symm.trans owner), rfl⟩
  · rw [stops] at inside
    exact .inl inside
  · exact .inl before

theorem axis_setHolder (s : State) (k : SlotId) (g : Holder) (a : AxisId) : (s.setHolder k g).axis a = s.axis a := by
  rw [State.axis, (setHolder_rest s k g).1]
  rfl

theorem startHome {a : AxisId} (h : s.Loosened (k :: K)) : ((s.setHolder k (.axisRunning a)).startHome a k).Loosened K := by
  unfold State.startHome
  dsimp only
  have started {x : Axis} (queue : x.queue = ((s.setHolder k (.axisRunning a)).axis a).queue)
      (stops : x.stopWait = ((s.setHolder k (.axisRunning a)).axis a).stopWait) (owner : x.owner = some k) :
      (((s.setHolder k (.axisRunning a)).setAxis a x).joinOrder a .creep).detach.Loosened K := by
    rw [axis_setHolder] at queue stops
    exact detach (joinOrder (runs h queue stops owner))
  exact ite (indexEvent (started rfl rfl rfl)) (started rfl rfl rfl)

theorem startDirectMove {a : AxisId} {target : Int} {limit : Class} (h : s.Loosened (k :: K)) :
    (s.startDirectMove a k target limit).Loosened K := by
  unfold State.startDirectMove State.startMove
  dsimp only
  refine detach (joinOrder (runs h ?_ ?_ rfl))
  · rw [← axis_setHolder s k (.axisRunning a)]
  · rw [← axis_setHolder s k (.axisRunning a)]

theorem startDirect {a : AxisId} {r : DirectReq} (h : s.Loosened (k :: K)) : (s.startDirect a k r).Loosened K := by
  cases r with
  | home => exact startHome h
  | moveTo target limit => exact startDirectMove h
  | moveBy delta limit => exact startDirectMove h

theorem applyPlacement (h : s.Loosened K) : s.applyPlacement.Loosened K := by
  have applied {m : Mesh} {p : Placement} (waiting : m.waiting = s.mesh.waiting) (ref : p.ref = s.placement.ref) :
      State.Loosened { s with mesh := m, placement := p } K :=
    h.same (by simp only [State.owners, waiting, ref])
  exact markDirty (applied rfl rfl)

theorem maybeApply (h : s.Loosened K) : s.maybeApply.Loosened K := ite (applyPlacement h) h

theorem setProgress {a : AxisId} {b : Bool} (h : s.Loosened K) : (s.setProgress a b).Loosened K := setPlacement h rfl

theorem placeAxis {a : AxisId} (h : s.Loosened K) : (s.placeAxis a).Loosened K := by
  unfold State.placeAxis
  dsimp only
  have retargets (target : Int) : ((s.axis a).retarget target).owns = (s.axis a).owns := by
    unfold Axis.owns Axis.owner Axis.retarget
    cases (s.axis a).move <;> rfl
  exact ite (setProgress (setAxis h (retargets _))) (ite (ite (setProgress h) (startMove (setProgress h))) (setProgress h))

/-- The placement unit takes a slot as its reference. -/
theorem refers {p : Placement} (h : s.Loosened (k :: K)) (ref : p.ref = some k) :
    (State.setHolder { s with placement := p } k .placement).Loosened K := by
  refine takeHolder h rfl rfl (fun j f named => ?_) ⟨h.once.ended, h.once.queued, h.once.stopping, h.once.awaiting⟩
  cases f with
  | placement => exact .inr ⟨(Option.some.inj (ref.symm.trans named)).symm, rfl⟩
  | axisQueue a => exact .inl named
  | axisRunning a => exact .inl named
  | stopWait a => exact .inl named
  | meshWait => exact .inl named
  | power => exact .inl named
  | completing => exact .inl named

theorem takeSplit {o : Orientation} {p : Split} (h : s.Loosened (k :: K)) : (s.takeSplit o p k).Loosened K := refers h rfl

theorem startPlace {x y : Int} {p : Split} (h : s.Loosened (k :: K)) : (s.startPlace k x y p).Loosened K := by
  unfold State.startPlace
  refine maybeApply (placeAxis (placeAxis ?_))
  split
  · exact refers (s := { s.completeRef s.placement.ref (endedWith .superseded) s.positions with
      placement := { s.placement with ref := none } }) (endPlacement h rfl) rfl
  · exact refers (s := s) h rfl

theorem takePlace {body : List Word} (h : s.Loosened (k :: K)) : (s.takePlace k body).Loosened K := by
  unfold State.takePlace
  dsimp only
  split
  · exact complete h
  · refine ite (complete h) (ite (complete h) ?_)
    split
    · exact complete h
    · exact ite (startPlace h) (complete h)

theorem setOrientation {o : Orientation} (h : s.Loosened K) : (s.setOrientation o).Loosened K :=
  refreshFans (setPlacement h rfl)

theorem orientOnly {o : Orientation} (h : s.Loosened (k :: K)) : (s.orientOnly k o).Loosened K :=
  markDirty (joinWaiting (setOrientation h))

theorem orientRerun {o : Orientation} (h : s.Loosened (k :: K)) : (s.orientRerun k o).Loosened K := by
  unfold State.orientRerun
  split
  · exact complete h
  · refine ite (complete h) ?_
    split
    · exact complete h
    · exact ite (maybeApply (markDirty (placeAxis (placeAxis (takeSplit (setOrientation h)))))) (complete h)

theorem takeOrient {body : List Word} (h : s.Loosened (k :: K)) : (s.takeOrient k body).Loosened K := by
  unfold State.takeOrient
  refine ite (complete h) ?_
  split
  · exact complete h
  · exact complete h
  · exact orientOnly h
  · exact orientOnly h
  · exact orientRerun h

theorem endFailed (h : s.Loosened K) : s.endFailed.Loosened K := ite (endPlacement h rfl) h

theorem stopPlacementMove {a : AxisId} (h : s.Loosened K) : (s.stopPlacementMove a).Loosened K := ite (stopCause h) h

theorem failPlacement {c : ResCode} (h : s.Loosened K) : (s.failPlacement c).Loosened K :=
  stopPlacementMove (stopPlacementMove (setPlacement h rfl))

theorem placementReport {a : AxisId} {r : Result} (h : s.Loosened K) : (s.placementReport a r).Loosened K :=
  endFailed (ite (maybeApply (ite (setPlacement (setProgress h) rfl) (setProgress h))) (ite (failPlacement h) h))

theorem placementFlip {g : Half} (h : s.Loosened K) : (s.placementFlip g).Loosened K := ite (endPlacement h rfl) h

theorem failApplying {c : ResCode} (h : s.Loosened K) : (s.failApplying c).Loosened K := endPlacement h rfl

theorem placementAbort (h : s.Loosened K) : s.placementAbort.Loosened K := by
  unfold State.placementAbort
  split
  · exact endFailed (failPlacement h)
  · exact failApplying h
  · exact h
  · exact h
  · exact h

/-- A flip ends the waiting requests that its generation reaches (R76). -/
theorem flip (h : s.Loosened K) : s.flip.Loosened K := by
  unfold State.flip
  split
  · exact h
  · next sn _ =>
    have flipped {m : Mesh} (waiting : m.waiting = s.mesh.waiting.filter (fun w => !reaches sn.gen w.needed)) :
        State.Loosened (State.endReached { s with mesh := m } sn.gen s.mesh.waiting) K :=
      endReached (by simpa using giveWaiting h waiting)
    dsimp only
    refine meshRun (same (raiseNotice (placementFlip ?_)) rfl)
    cases sn.bank <;> cases decide (s.mesh.mark _ = BankMark.selected) <;> exact flipped rfl

/-! ### Moves -/

theorem handOver {a : AxisId} {m : Move} {r : Result} (h : s.Loosened (m.owner.toList ++ K)) : (s.handOver a m r).Loosened K := by
  unfold State.handOver
  split
  · exact completeRef h
  · exact completeRef h
  · exact placementReport (forget h)
  · exact parkReport (forget h)

theorem leaveMove {a : AxisId} {st : AxisState} {r : Result} (h : s.Loosened K) : (s.leaveMove a st r).Loosened K := by
  unfold State.leaveMove
  dsimp only
  have left : ((s.setAxis a ((s.axis a).atRest st)).leaveOrder a).Loosened ((s.axis a).owner.toList ++ K) :=
    leaveOrder (setAxis_free h rfl rfl rfl)
  split
  · exact forget left
  · next m move =>
    have owner : (s.axis a).owner = m.owner := by rw [Axis.owner, move, Option.bind_some]
    exact handOver (owner ▸ left)

theorem present {a : AxisId} {r : DirectReq} (h : s.Loosened (k :: K)) : (s.present a k r).Loosened K := by
  unfold State.present
  split
  · exact complete h
  · exact startDirect h

/-- The head of an axis queue leaves it. -/
theorem popQueue {a : AxisId} {q : Queued} {rest : List Queued} (h : s.Loosened K) (queue : (s.axis a).queue = q :: rest) :
    (s.setAxis a { s.axis a with queue := rest }).Loosened (q.slot :: K) := by
  have once := h.once.queued a
  rw [queue, List.map_cons, List.nodup_cons] at once
  refine giveAxis (L := [q.slot]) h (by rw [queue]; exact List.sublist_cons_self _ _) (.refl _) (fun _ => id)
    (List.nodup_singleton _) (fun k inside => ?_)
  rw [List.mem_singleton.mp inside]
  have named : s.NamesAs q.slot (.axisQueue a) := by
    simp only [State.NamesAs, queue, List.map_cons]
    exact List.mem_cons_self ..
  refine ⟨h.not_mem_of_names named, _, h.held _ _ named, fun left => ?_⟩
  simp only [State.NamesAs, State.axis_setAxis_self] at left
  exact once.1 left

theorem presentQueue {a : AxisId} {l : List Queued} (h : s.Loosened K) (queue : (s.axis a).queue = l) :
    (s.presentQueue a l).Loosened K := by
  induction l generalizing s with
  | nil => exact h
  | cons q l ih =>
    unfold State.presentQueue
    dsimp only
    have popped := popQueue h queue
    split
    · refine ih (complete popped) ?_
      rw [State.axis, State.complete, (setHolder_rest _ q.slot .completing).1]
      exact congrArg Axis.queue (s.axis_setAxis_self a _)
    · exact startDirect popped

theorem presentPark {a : AxisId} (h : s.Loosened K) : (s.presentPark a).Loosened K := by
  unfold State.presentPark
  dsimp only
  split
  · exact parkReport (setAxis h rfl)
  · exact startMove (setAxis h rfl)

theorem askPark {a : AxisId} (h : s.Loosened K) : (s.askPark a).Loosened K :=
  have asked : (s.setAxis a { s.axis a with pendingPark := true }).Loosened K := setAxis h rfl
  ite (presentPark asked) asked

/-- An axis gives up every AXIS_STOP that waits on it. -/
theorem dropStops {a : AxisId} (h : s.Loosened K) :
    (s.setAxis a { s.axis a with stopWait := [] }).Loosened ((s.axis a).stopWait ++ K) := by
  refine giveAxis h (.refl _) (List.nil_sublist _) (fun _ => id) (h.once.stopping a) (fun k inside => ?_)
  have named : s.NamesAs k (.stopWait a) := inside
  refine ⟨h.not_mem_of_names named, _, h.held _ _ named, fun left => ?_⟩
  simp only [State.NamesAs, State.axis_setAxis_self] at left
  cases left

theorem endStops {a : AxisId} (h : s.Loosened K) : (s.endStops a).Loosened K :=
  foldl_complete (slot := id) (by simpa using dropStops h)

/-- An axis gives up every request on its queue. -/
theorem dropQueue {a : AxisId} (h : s.Loosened K) :
    (s.setAxis a { s.axis a with queue := [] }).Loosened ((s.axis a).queue.map Queued.slot ++ K) := by
  refine giveAxis h (List.nil_sublist _) (.refl _) (fun _ => id) (h.once.queued a) (fun k inside => ?_)
  have named : s.NamesAs k (.axisQueue a) := inside
  refine ⟨h.not_mem_of_names named, _, h.held _ _ named, fun left => ?_⟩
  simp only [State.NamesAs, State.axis_setAxis_self] at left
  cases left

theorem abortQueue {a : AxisId} (h : s.Loosened K) : (s.abortQueue a).Loosened K := foldl_complete (dropQueue h)

theorem presentIdle {a : AxisId} (h : s.Loosened K) : (s.presentIdle a).Loosened K :=
  have parked : (if (s.axis a).pendingPark then s.presentPark a else s).Loosened K := ite (presentPark h) h
  ite (presentQueue parked rfl) parked

theorem enterIdle {a : AxisId} {r : Result} (h : s.Loosened K) : (s.enterIdle a r).Loosened K :=
  presentIdle (endStops (leaveMove h))

theorem stallEnd {a : AxisId} (h : s.Loosened K) : (s.stallEnd a).Loosened K :=
  abortQueue (raiseNotice (raiseEvent (leaveMove (setAxis h rfl))))

/-! ### The motion period -/

/-- The axis runs a move with this owner. -/
def RunsFor (s : State) (a : AxisId) (m : Move) : Prop := (s.axis a).owner = m.owner

theorem runsFor_of_move {a : AxisId} {m : Move} (move : (s.axis a).move = some m) : RunsFor s a m := by
  rw [RunsFor, Axis.owner, move, Option.bind_some]

theorem runsFor_setDesire {a b : AxisId} {c : Class} {m : Move} (runs : RunsFor s a m) : RunsFor (s.setDesire b c) a m := by
  have owners : (s.setDesire b c).owners = s.owners := State.rebudget_owners _
  simp only [State.owners, Prod.mk.injEq] at owners
  obtain ⟨_, _, _, axes, _⟩ := owners
  exact (Prod.mk.inj (Prod.mk.inj (State.axis_owns axes a)).2).1.trans runs

/-- The move's record changes, its owner stays. -/
theorem keepMove {a : AxisId} {x : Axis} {m n : Move} (h : s.Loosened K) (runs : RunsFor s a m)
    (queue : x.queue = (s.axis a).queue) (stops : x.stopWait = (s.axis a).stopWait) (move : x.move = some n)
    (owner : n.owner = m.owner) : (s.setAxis a x).Loosened K := by
  refine setAxis h ?_
  unfold Axis.owns
  rw [queue, stops, runs, ← owner, Axis.owner, move, Option.bind_some]

theorem holdPeriod {a : AxisId} {m : Move} (h : s.Loosened K) (runs : RunsFor s a m) : (s.holdPeriod a m).Loosened K := by
  unfold State.holdPeriod
  dsimp only
  exact ite (enterStopping (keepMove h runs rfl rfl rfl rfl)) (keepMove h runs rfl rfl rfl rfl)

theorem drivenPeriod {a : AxisId} {m : Move} {desire grant : Class} {positive : Bool} (h : s.Loosened K) (runs : RunsFor s a m) :
    (s.drivenPeriod a m desire grant positive).Loosened K := by
  unfold State.drivenPeriod
  dsimp only
  have owns := Prod.mk.inj ((s.axis a).driveAt_owns positive (liftSet a s.placement.orientation positive) grant)
  have driven {n : Move} (owner : n.owner = m.owner) : (s.setAxis a
      { (s.axis a).driveAt positive (liftSet a s.placement.orientation positive) grant with move := some n }).Loosened K := by
    refine setAxis h (Prod.ext owns.1 (Prod.ext ?_ (Prod.mk.inj owns.2).2))
    exact owner.trans runs.symm
  exact ite (stallEnd (driven rfl)) (driven rfl)

theorem drivePeriod {a : AxisId} {m : Move} {desire : Class} {positive : Bool} (h : s.Loosened K) (runs : RunsFor s a m) :
    (s.drivePeriod a m desire positive).Loosened K :=
  ite (holdPeriod (setDesire h) (runsFor_setDesire runs)) (drivenPeriod (setDesire h) (runsFor_setDesire runs))

theorem movingPeriod {a : AxisId} {m : Move} (h : s.Loosened K) (runs : RunsFor s a m) : (s.movingPeriod a m).Loosened K := by
  unfold State.movingPeriod
  dsimp only
  exact ite (setDesire (keepMove h runs rfl rfl rfl rfl)) (drivePeriod h runs)

theorem settlingPeriod {a : AxisId} {m : Move} (h : s.Loosened K) (runs : RunsFor s a m) : (s.settlingPeriod a m).Loosened K := by
  unfold State.settlingPeriod State.settleJudge
  dsimp only
  exact ite (keepMove h runs rfl rfl rfl rfl)
    (ite (enterIdle h) (ite (keepMove h runs rfl rfl rfl rfl) (enterIdle h)))

theorem stoppingPeriod {a : AxisId} {m : Move} (h : s.Loosened K) (runs : RunsFor s a m) : (s.stoppingPeriod a m).Loosened K := by
  unfold State.stoppingPeriod
  dsimp only
  exact ite (enterIdle h) (ite (enterIdle (raiseEvent h)) (keepMove h runs rfl rfl rfl rfl))

theorem periodWork {a : AxisId} (h : s.Loosened K) : (s.periodWork a).Loosened K := by
  unfold State.periodWork
  split
  · exact h
  · next m move =>
    have runs := runsFor_of_move move
    split
    · exact drivePeriod h runs
    · exact movingPeriod h runs
    · exact settlingPeriod h runs
    · exact stoppingPeriod h runs
    · exact h
    · exact h

theorem interlockEdge {asserted : Bool} (h : s.Loosened K) : (s.interlockEdge asserted).Loosened K :=
  have edge : State.Loosened { s with pins := { s.pins with interlock := asserted } } K := h.same rfl
  ite h (ite edge (ite (raiseEvent (stopBoth edge)) (raiseEvent edge)))

/-! ### Requests of the axes and the power sequencer -/

theorem takeDirect {a : AxisId} {r : DirectReq} (h : s.Loosened (k :: K)) : (s.takeDirect k a r).Loosened K := by
  refine ite (complete h) (ite (present h) ?_)
  have free := h.not_named (List.mem_cons_self ..) (.axisQueue a)
  refine takeHolder h rfl rfl (fun j f named => ?_) (once_setAxis h.once ?_ (h.once.stopping a))
  · rcases names_setAxis named with ⟨rfl, inside⟩ | ⟨rfl, runs⟩ | ⟨rfl, inside⟩ | ⟨_, before⟩
    · rw [List.map_append, List.mem_append, List.map_cons, List.map_nil, List.mem_singleton] at inside
      exact inside.imp id fun e => ⟨e, rfl⟩
    · exact .inl runs
    · exact .inl inside
    · exact .inl before
  · rw [List.map_append, List.map_cons, List.map_nil]
    refine List.nodup_append.mpr ⟨h.once.queued a, List.nodup_singleton _, fun j inside i last e => free ?_⟩
    rw [List.mem_singleton] at last
    rw [e, last] at inside
    exact inside

theorem dropPark {a : AxisId} (h : s.Loosened K) : (s.dropPark a).Loosened K := ite (parkReport (setAxis h rfl)) h

/-- An AXIS_STOP begins to wait on an axis. -/
theorem waitStop {a : AxisId} (h : s.Loosened (k :: K)) :
    ((s.setAxis a { s.axis a with stopWait := (s.axis a).stopWait ++ [k] }).setHolder k (.stopWait a)).Loosened K := by
  have free := h.not_named (List.mem_cons_self ..) (.stopWait a)
  refine takeHolder h rfl rfl (fun j f named => ?_) (once_setAxis h.once (h.once.queued a) ?_)
  · rcases names_setAxis named with ⟨rfl, inside⟩ | ⟨rfl, runs⟩ | ⟨rfl, inside⟩ | ⟨_, before⟩
    · exact .inl inside
    · exact .inl runs
    · rw [List.mem_append, List.mem_singleton] at inside
      exact inside.imp id fun e => ⟨e, rfl⟩
    · exact .inl before
  · refine List.nodup_append.mpr ⟨h.once.stopping a, List.nodup_singleton _, fun j inside i last e => free ?_⟩
    rw [List.mem_singleton] at last
    rw [e, last] at inside
    exact inside

theorem takeStop {body : List Word} (h : s.Loosened (k :: K)) : (s.takeStop k body).Loosened K :=
  have stopped (a : AxisId) : (((s.abortQueue a).dropPark a).stopCause a .stopped).Loosened (k :: K) :=
    stopCause (dropPark (abortQueue h))
  ite (complete (stopped _)) (waitStop (stopped _))

theorem takeReport {body : List Word} (h : s.Loosened (k :: K)) : (s.takeReport k body).Loosened K := by
  unfold State.takeReport
  dsimp only
  exact ite (complete h) (ite (presentIdle (setAxis (setAxis (complete h) rfl) rfl)) (setAxis (complete h) rfl))

theorem applySetup {a : AxisId} {c : AxisCfg} (h : s.Loosened K) : (s.applySetup a c).Loosened K := by
  have configured (homed : Bool) : (s.setAxis a { s.axis a with cfg := c, homed := homed }).Loosened K := setAxis h rfl
  exact ite (detach (configured _)) (configured _)

theorem takeSetup {body : List Word} (h : s.Loosened (k :: K)) : (s.takeSetup k body).Loosened K :=
  ite (complete h) (ite (complete h) (complete (applySetup h)))

theorem axisPowerDown {a : AxisId} (h : s.Loosened K) : (s.axisPowerDown a).Loosened K := stopCause (abortQueue h)

/-- The power sequencer takes a slot as its reference. -/
theorem cools {p : Power} (h : s.Loosened (k :: K)) (ref : p.ref = some k) :
    (State.setHolder { s with power := p } k .power).Loosened K := by
  refine takeHolder h rfl rfl (fun j f named => ?_) ⟨h.once.ended, h.once.queued, h.once.stopping, h.once.awaiting⟩
  cases f with
  | power => exact .inr ⟨(Option.some.inj (ref.symm.trans named)).symm, rfl⟩
  | axisQueue a => exact .inl named
  | axisRunning a => exact .inl named
  | stopWait a => exact .inl named
  | meshWait => exact .inl named
  | placement => exact .inl named
  | completing => exact .inl named

theorem beginCooldown {park : Bool} (h : s.Loosened (k :: K)) : (s.beginCooldown k park).Loosened K := by
  unfold State.beginCooldown
  dsimp only
  have stopped {p : Power} (ref : p.ref = some k) :
      (((State.setHolder { s with power := p } k .power).axisPowerDown .h).axisPowerDown .v).Loosened K :=
    axisPowerDown (axisPowerDown (cools h ref))
  exact ite (askPark (askPark (refreshFans (ite (failApplying (stopped rfl)) (stopped rfl)))))
    (refreshFans (ite (failApplying (stopped rfl)) (stopped rfl)))

theorem takePowerDown {body : List Word} (h : s.Loosened (k :: K)) : (s.takePowerDown k body).Loosened K := by
  unfold State.takePowerDown
  split
  · exact beginCooldown h
  · exact complete h
  · exact complete h

/-! ### Slot unit -/

theorem route {kind : Kind} {body : List Word} (h : s.Loosened (k :: K)) : (s.route k kind body).Loosened K := by
  cases kind with
  | nop => exact complete h
  | axisHome => exact takeDirect h
  | axisMoveTo => exact takeDirect h
  | axisMoveBy => exact takeDirect h
  | axisStop => exact takeStop h
  | axisReport => exact takeReport h
  | axisSetup => exact takeSetup h
  | place => exact takePlace h
  | keystone => exact takeCornerRecord h
  | corners => exact takeCornerRecord h
  | orient => exact takeOrient h
  | fanCurve => exact takeFanCurve h
  | thresholds => exact takeThresholds h
  | fanFloor => exact takeFanFloor h
  | fanReport => exact takeFanReport h
  | thermalResume => exact takeThermalResume h
  | powerDown => exact takePowerDown h
  | powerUp => exact takePowerUp h
  | noticeSetup => exact complete (setNotice h)

/-- A slot of the host, with no post on its way, becomes the part's (R160). -/
theorem post {kind : BitVec 6} {tag : BitVec 8} (h : s.Loosened []) (host : s.view k = .host) (port : s.path.port = none) :
    (s.setView k (.part kind tag false .completing)).Loosened [k] where
  held := fun j g named => by
    have before : s.NamesAs j g := by cases g <;> exact named
    have held := h.held j g before
    exact State.heldBy_setView_other (fun e => held.notHost (e ▸ host)) held
  once := ⟨h.once.ended, h.once.queued, h.once.stopping, h.once.awaiting⟩
  posts := fun _ _ _ _ _ _ posted => nomatch port.symm.trans posted
  atStart := h.atStart
  nodup := List.nodup_singleton _
  loose := fun j inside => by
    rw [List.mem_singleton.mp inside]
    exact ⟨.completing, s.heldBy_setView_self k kind tag false .completing, fun named => (h.held k .completing named).notHost host⟩

theorem takePost (h : s.Loosened []) (host : s.view k = .host) (port : s.path.port = none) : (s.takePost k).Loosened [] := by
  unfold State.takePost State.checkAndRoute
  dsimp only
  split
  · exact complete (post h host port)
  · split
    · exact complete (post h host port)
    · exact route (post h host port)

/-- A request is taken off a list for its abort. -/
theorem abortQueued {a : AxisId} (h : s.Loosened []) (held : s.HeldBy k (.axisQueue a)) : (s.abortQueued k a).Loosened [] := by
  unfold State.abortQueued
  have given : (s.setAxis a { s.axis a with queue := (s.axis a).queue.filter (fun q => decide (q.slot ≠ k)) }).Loosened [k] := by
    refine giveAxis (L := [k]) h List.filter_sublist (.refl _) (fun _ => id) (List.nodup_singleton _) (fun j inside => ?_)
    rw [List.mem_singleton.mp inside]
    refine ⟨List.not_mem_nil, _, held, fun left => ?_⟩
    simp only [State.NamesAs, State.axis_setAxis_self] at left
    obtain ⟨q, stays, e⟩ := List.mem_map.mp left
    exact of_decide_eq_true (List.mem_filter.mp stays).2 e
  exact complete given

theorem abortStop {a : AxisId} (h : s.Loosened []) (held : s.HeldBy k (.stopWait a)) : (s.abortStop k a).Loosened [] := by
  unfold State.abortStop
  have given : (s.setAxis a { s.axis a with stopWait := (s.axis a).stopWait.filter (fun q => decide (q ≠ k)) }).Loosened [k] := by
    refine giveAxis (L := [k]) h (.refl _) List.filter_sublist (fun _ => id) (List.nodup_singleton _) (fun j inside => ?_)
    rw [List.mem_singleton.mp inside]
    refine ⟨List.not_mem_nil, _, held, fun left => ?_⟩
    simp only [State.NamesAs, State.axis_setAxis_self] at left
    exact of_decide_eq_true (List.mem_filter.mp left).2 rfl
  exact complete given

theorem abortWaiting (h : s.Loosened []) (held : s.HeldBy k .meshWait) : (s.abortWaiting k).Loosened [] := by
  unfold State.abortWaiting
  have given : State.Loosened
      { s with mesh := { s.mesh with waiting := s.mesh.waiting.filter (fun w => decide (w.slot ≠ k)) } } [k] := by
    refine give (L := [k]) h (fun _ => rfl) (fun j g named => ?_) ⟨h.once.ended, h.once.queued, h.once.stopping, ?_⟩ rfl
      h.atStart (List.nodup_singleton _) (fun j inside => ?_)
    · cases g with
      | meshWait => exact (List.filter_sublist.map _).subset named
      | axisQueue a => exact named
      | axisRunning a => exact named
      | stopWait a => exact named
      | placement => exact named
      | power => exact named
      | completing => exact named
    · exact (List.filter_sublist.map _).nodup h.once.awaiting
    · rw [List.mem_singleton.mp inside]
      refine ⟨List.not_mem_nil, _, held, fun left => ?_⟩
      obtain ⟨w, stays, e⟩ := List.mem_map.mp left
      exact of_decide_eq_true (List.mem_filter.mp stays).2 e
  exact complete given

theorem abortHolder {g : Holder} (h : s.Loosened []) (held : s.HeldBy k g) : (s.abortHolder k g).Loosened [] := by
  cases g with
  | axisQueue a => exact abortQueued h held
  | axisRunning a => exact stopCause h
  | stopWait a => exact abortStop h held
  | placement => exact placementAbort h
  | meshWait => exact abortWaiting h held
  | power => exact h
  | completing => exact h

/-- The abort of a request is noted in the view, under the same holder (R163). -/
theorem noteAbort {kind : BitVec 6} {tag : BitVec 8} {taken : Bool} {g : Holder} (h : s.Loosened [])
    (view : s.view k = .part kind tag taken g) : (s.setView k (.part kind tag true g)).Loosened [] where
  held := fun j f named => by
    have held := h.held j f (by cases f <;> exact named)
    by_cases e : j = k
    · subst e
      have same : f = g := held.unique ⟨kind, tag, taken, view⟩
      exact same ▸ s.heldBy_setView_self j kind tag true g
    · exact State.heldBy_setView_other e held
  once := ⟨h.once.ended, h.once.queued, h.once.stopping, h.once.awaiting⟩
  posts := fun addr data be superseded left o port offset slot => by
    have host := h.posts addr data be superseded left o port offset slot
    have other : slotOfOffset o ≠ k := fun e => nomatch (e ▸ host).symm.trans view
    exact (s.view_setView_other k _ _ other).trans host
  atStart := h.atStart
  nodup := .nil
  loose := fun _ none => nomatch none

theorem takeAbort (h : s.Loosened []) : (s.takeAbort k).Loosened [] := by
  unfold State.takeAbort
  split
  · exact h
  · next kind tag taken g view =>
    exact ite h (abortHolder (noteAbort h view) (s.heldBy_setView_self k kind tag true g))

end
end State.Loosened

end Sys2Proof.Machine
end

section
/-! SUPPORT for O56. The memory path, the resets and the timers keep slots and owners agreed (R156): a post is granted for a slot
of the host only (R158), and a header that is queued gives the slot back (R165). Then O56. -/

namespace Sys2Proof.Machine

namespace State.Loosened

section
variable {s t : State} {K : List SlotId} {k : SlotId}

/-! ### Changes of the memory path -/

/-- A change that keeps the views and names no slot anew; posts on their way are looked at apart. -/
theorem keep (h : s.Loosened K) (views : ∀ j, t.view j = s.view j) (names : ∀ j g, t.NamesAs j g → s.NamesAs j g)
    (once : t.NamesOnce) (posts : t.PostsFree) (atStart : t.WriterAtStart) : t.Loosened K where
  held := fun j g named => (h.held j g (names j g named)).of_view (views j)
  once := once
  posts := posts
  atStart := atStart
  nodup := h.nodup
  loose := fun j inside => by
    obtain ⟨g, held, free⟩ := h.loose j inside
    exact ⟨g, held.of_view (views j), fun named => free (names j g named)⟩

theorem names_congr (queue : t.slots.queue = s.slots.queue) (axes : t.axes = s.axes) (placement : t.placement = s.placement)
    (waiting : t.mesh.waiting = s.mesh.waiting) (power : t.power = s.power) (j : SlotId) (g : Holder) :
    t.NamesAs j g ↔ s.NamesAs j g := by
  cases g <;> simp only [State.NamesAs, State.axis, queue, axes, placement, waiting, power]

theorem once_congr (once : s.NamesOnce) (queue : t.slots.queue = s.slots.queue) (axes : t.axes = s.axes)
    (waiting : t.mesh.waiting = s.mesh.waiting) : t.NamesOnce :=
  ⟨queue ▸ once.ended, fun a => by rw [State.axis, axes]; exact once.queued a,
    fun a => by rw [State.axis, axes]; exact once.stopping a, waiting ▸ once.awaiting⟩

/-- A post on the port of `t` was one on the port of `s`. -/
def PostsFrom (s t : State) : Prop :=
  ∀ addr data be superseded left, t.path.port = some { kind := .hostWrite addr data be .post superseded, left := left } →
    ∃ superseded' left', s.path.port = some { kind := .hostWrite addr data be .post superseded', left := left' }

theorem PostsFrom.postsFree (from_ : PostsFrom s t) (h : s.PostsFree) (region : t.path.region = s.path.region)
    (views : ∀ j, s.view j = .host → t.view j = .host) : t.PostsFree := fun addr data be superseded left o port offset slot => by
  obtain ⟨superseded', left', before⟩ := from_ addr data be superseded left port
  rw [State.offsetOf, region] at offset
  exact views _ (h addr data be superseded' left' o before offset slot)

theorem postsFrom_of_port (port : t.path.port = s.path.port ∨ t.path.port = none) : PostsFrom s t :=
  fun addr data be superseded left posted => by
    rcases port with same | free
    · exact ⟨superseded, left, same ▸ posted⟩
    · exact nomatch free.symm.trans posted

theorem setPath {p : PathUnit} (h : s.Loosened K) (region : p.region = s.path.region)
    (port : p.port = s.path.port ∨ p.port = none) : State.Loosened { s with path := p } K :=
  keep h (fun _ => rfl) (fun j g => (names_congr rfl rfl rfl rfl rfl j g).mp) (once_congr h.once rfl rfl rfl)
    (PostsFrom.postsFree (postsFrom_of_port port) h.posts region (fun _ => id)) h.atStart

theorem answerRead {w : Word} (h : s.Loosened K) : (s.answerRead w).Loosened K := setPath h rfl (.inl rfl)

theorem answerWrite (h : s.Loosened K) : s.answerWrite.Loosened K := setPath h rfl (.inl rfl)

theorem freePort (h : s.Loosened K) : s.freePort.Loosened K := setPath h rfl (.inr rfl)

theorem setMemPath {p : PathUnit} {m : List Host.Cell} (h : s.Loosened K) (region : p.region = s.path.region)
    (port : p.port = s.path.port ∨ p.port = none) : State.Loosened { s with mem := m, path := p } K := by
  have moved : State.Loosened { s with path := p } K := setPath h region port
  exact moved.same rfl

/-- A cycle begins that is no post. -/
theorem beginCycle {c : CycleKind} (h : s.Loosened K) (plain : ∀ addr data be superseded, c ≠ .hostWrite addr data be .post superseded) :
    (s.beginCycle c).Loosened K :=
  keep h (fun _ => rfl) (fun j g => (names_congr rfl rfl rfl rfl rfl j g).mp) (once_congr h.once rfl rfl rfl)
    (fun addr data be superseded _ _ port => absurd (Cycle.mk.inj (Option.some.inj port)).1 (plain addr data be superseded)) h.atStart

/-- A host write that is granted is a post only to a slot of the host (R158). -/
theorem beginWrite {addr data : Word} {be : BitVec 4} {o : Nat} {act : SlotAct} (h : s.Loosened K) (offset : s.offsetOf addr = some o)
    (granted : s.classifyWrite o data be = some act) : (s.beginCycle (.hostWrite addr data be act false)).Loosened K := by
  refine keep h (fun _ => rfl) (fun j g => (names_congr rfl rfl rfl rfl rfl j g).mp) (once_congr h.once rfl rfl rfl) ?_ h.atStart
  intro addr' data' be' superseded left o' port offset' slot
  obtain ⟨rfl, rfl, rfl, rfl, -⟩ := CycleKind.hostWrite.inj (Cycle.mk.inj (Option.some.inj port)).1
  have same : o' = o := Option.some.inj (offset'.symm.trans offset)
  subst same
  rw [State.classifyWrite, if_pos slot, State.slotClass] at granted
  split at granted
  · next host => exact host
  · split at granted <;> cases granted

theorem pass {us : Nat} (h : s.Loosened K) : (s.pass us).Loosened K := by
  unfold State.pass
  split
  · exact h
  · dsimp only
    split
    · exact h.same rfl
    · have ref (ms : Nat) : (s.power.pass ms).ref = s.power.ref := by
        unfold Power.pass
        split <;> rfl
      have axis (ms : Nat) (a : AxisId) : ((s.axes.map (Axis.pass us ms)).get a).owns = (s.axis a).owns := by
        cases a <;> rfl
      have owns (ms : Nat) (a : AxisId) := Prod.mk.inj (axis ms a)
      refine keep h (fun _ => rfl) (fun j g named => ?_) ⟨h.once.ended, fun a => (owns _ a).1 ▸ h.once.queued a,
        fun a => (Prod.mk.inj (owns _ a).2).2 ▸ h.once.stopping a, h.once.awaiting⟩
        (PostsFrom.postsFree (s := s) (fun addr data be superseded left port => ?_) h.posts rfl (fun _ => id)) h.atStart
      · cases g with
        | axisQueue a => exact (congrArg (j ∈ ·) (owns _ a).1).mp named
        | axisRunning a => exact (congrArg (· = some j) (Prod.mk.inj (owns _ a).2).1).mp named
        | stopWait a => exact (congrArg (j ∈ ·) (Prod.mk.inj (owns _ a).2).2).mp named
        | placement => exact named
        | meshWait => exact named
        | power => exact (ref _).symm.trans named
        | completing => exact named
      · obtain ⟨c, before, passed⟩ := Option.map_eq_some_iff.mp port
        obtain ⟨kind, _⟩ := Cycle.mk.inj passed
        exact ⟨superseded, c.left, by rw [before, ← kind]⟩

/-! ### Claims -/

theorem supersede_posts (s : State) (o : Nat) : PostsFrom s (s.supersede o) := by
  unfold State.supersede
  split
  · next addr data be act sup left port =>
    split
    · intro addr' data' be' superseded left' posted
      obtain ⟨kind, rfl⟩ := Cycle.mk.inj (Option.some.inj posted)
      obtain ⟨rfl, rfl, rfl, rfl, -⟩ := CycleKind.hostWrite.inj kind
      exact ⟨_, _, port⟩
    · exact postsFrom_of_port (.inl rfl)
  · exact postsFrom_of_port (.inl rfl)

theorem supersede_region (s : State) (o : Nat) : (s.supersede o).path.region = s.path.region := by
  unfold State.supersede
  split
  · split <;> rfl
  · rfl

/-- A part write to a slot word leaves the views and the owners alone. -/
theorem queueSlotWord_keeps (s : State) (k : SlotId) (w : Nat) (d : Word) (p : Producer) :
    (s.queueSlotWord k w d p).slots.views = s.slots.views ∧ (s.queueSlotWord k w d p).slots.queue = s.slots.queue
      ∧ (s.queueSlotWord k w d p).axes = s.axes ∧ (s.queueSlotWord k w d p).placement = s.placement
      ∧ (s.queueSlotWord k w d p).mesh = s.mesh ∧ (s.queueSlotWord k w d p).power = s.power
      ∧ (s.queueSlotWord k w d p).path.region = s.path.region ∧ PostsFrom s (s.queueSlotWord k w d p) := by
  have inner := (s.queueSlotWord_keeps k w d p).inner
  simp only [State.inner, Prod.mk.injEq] at inner
  obtain ⟨_, _, _, _, _, _, axes, placement, _, _, _, _, power, _⟩ := inner
  have slots := s.queueSlotWord_slots k w d p
  exact ⟨by rw [slots]; rfl, by rw [slots]; rfl, axes, placement, by simp [State.queueSlotWord], power,
    supersede_region _ _, supersede_posts _ _⟩

/-- The words of the head completion are queued (R165). -/
theorem claimBody {c : Completion} {rest : List Completion} {w : Nat} {d : Word} {p : Producer} {progress : Progress}
    (h : s.Loosened []) (queue : s.slots.queue = c :: rest) : ((s.queueSlotWord c.slot w d p).setWriter progress).Loosened [] := by
  obtain ⟨views, queue', axes, placement, mesh, power, region, posts⟩ := queueSlotWord_keeps s c.slot w d p
  have view (j : SlotId) : ((s.queueSlotWord c.slot w d p).setWriter progress).view j = s.view j := by
    unfold State.view State.setWriter
    dsimp only
    rw [views]
  refine keep h view (fun j g => (names_congr queue' axes placement (congrArg Mesh.waiting mesh) power j g).mp)
    (once_congr h.once queue' axes (congrArg Mesh.waiting mesh))
    (PostsFrom.postsFree posts h.posts region (fun j host => (view j).trans host)) (fun empty => ?_)
  rw [show ((s.queueSlotWord c.slot w d p).setWriter progress).slots.queue = s.slots.queue from queue', queue] at empty
  cases empty

/-- The head completion leaves the queue and its slot is the host's again: what `State.queueHeader` does after the claim. -/
def handBack (u : State) (k : SlotId) (rest : List Completion) : State :=
  { u.setView k .host with slots := { (u.setView k .host).slots with queue := rest, writer := Initial.progress } }

theorem queueHeader_eq (s : State) (c : Completion) (rest : List Completion) (kind : BitVec 6) (tag : BitVec 8) :
    s.queueHeader c rest kind tag =
      handBack (s.queueSlotWord c.slot 0 (completionHeader kind tag c.body.length c.result) .slotHeader) c.slot rest := rfl

/-- Who names a slot after the slot is handed back did so before, and it is another slot (R156). -/
theorem handBack_names {u : State} {c : Completion} {rest : List Completion} (h : s.Loosened []) (queue : s.slots.queue = c :: rest)
    (axes : u.axes = s.axes) (placement : u.placement = s.placement) (mesh : u.mesh = s.mesh) (power : u.power = s.power)
    (j : SlotId) (g : Holder) (named : (handBack u c.slot rest).NamesAs j g) : s.NamesAs j g ∧ j ≠ c.slot := by
  have once := h.once.ended
  rw [queue, List.map_cons, List.nodup_cons] at once
  have ended : s.NamesAs c.slot .completing := by
    simp only [State.NamesAs, queue, List.map_cons]
    exact List.mem_cons_self ..
  have was : s.NamesAs j g := by
    cases g with
    | completing =>
      simp only [State.NamesAs, queue, List.map_cons]
      exact List.mem_cons_of_mem _ named
    | axisQueue a => simpa only [State.NamesAs, State.axis, axes] using (show u.NamesAs j (.axisQueue a) from named)
    | axisRunning a => simpa only [State.NamesAs, State.axis, axes] using (show u.NamesAs j (.axisRunning a) from named)
    | stopWait a => simpa only [State.NamesAs, State.axis, axes] using (show u.NamesAs j (.stopWait a) from named)
    | placement => simpa only [State.NamesAs, placement] using (show u.NamesAs j .placement from named)
    | meshWait => simpa only [State.NamesAs, mesh] using (show u.NamesAs j .meshWait from named)
    | power => simpa only [State.NamesAs, power] using (show u.NamesAs j .power from named)
  refine ⟨was, fun same => ?_⟩
  subst same
  have completing : g = .completing := (h.held _ g was).unique (h.held _ _ ended)
  subst completing
  exact once.1 named

/-- The header of the head completion is queued, and the slot is the host's again (R165). -/
theorem claimHeader {c : Completion} {rest : List Completion} {kind : BitVec 6} {tag : BitVec 8} (h : s.Loosened [])
    (queue : s.slots.queue = c :: rest) : (s.queueHeader c rest kind tag).Loosened [] := by
  obtain ⟨views, _, axes, placement, mesh, power, region, posts⟩ :=
    queueSlotWord_keeps s c.slot 0 (completionHeader kind tag c.body.length c.result) .slotHeader
  rw [queueHeader_eq]
  generalize s.queueSlotWord c.slot 0 (completionHeader kind tag c.body.length c.result) .slotHeader = u
    at views axes placement mesh power region posts ⊢
  have once := h.once.ended
  rw [queue, List.map_cons, List.nodup_cons] at once
  have before (j : SlotId) : u.view j = s.view j := by rw [State.view, State.view, views]
  have other (j : SlotId) (e : j ≠ c.slot) : (handBack u c.slot rest).view j = s.view j :=
    (u.view_setView_other c.slot j .host e).trans (before j)
  refine ⟨fun j g named => ?_, ⟨once.2, fun a => ?_, fun a => ?_, ?_⟩, ?_, fun _ => rfl, .nil, fun _ none => nomatch none⟩
  · obtain ⟨was, apart⟩ := handBack_names h queue axes placement mesh power j g named
    exact (h.held j g was).of_view (other j apart)
  · exact (congrArg (fun x => ((x.get a).queue.map Queued.slot).Nodup) axes).mpr (h.once.queued a)
  · exact (congrArg (fun x => (x.get a).stopWait.Nodup) axes).mpr (h.once.stopping a)
  · exact (congrArg (fun x => (x.waiting.map Waiting.slot).Nodup) mesh).mpr h.once.awaiting
  · refine PostsFrom.postsFree posts h.posts region (fun j host => ?_)
    by_cases e : j = c.slot
    · subst e
      exact u.view_setView_self _ _
    · exact (other j e).trans host

theorem slotClaim (h : s.Loosened []) (e : s.slotClaim = some t) : t.Loosened [] := by
  unfold State.slotClaim at e
  split at e
  · cases e
  · next c rest queue =>
    dsimp only at e
    split at e
    · cases e
      exact claimBody h queue
    · split at e
      · split at e
        · cases e
          exact claimHeader h queue
        · cases e
      · cases e

/-- The claims of the other producers change the buffer and the producer's own record. -/
theorem eventClaim (h : s.Loosened K) (e : s.eventClaim = some t) : t.Loosened K := by
  unfold State.eventClaim at e
  dsimp only at e
  have queued {o : Nat} {d : Word} {p : Producer} {ev : EventWriter} :
      State.Loosened { s.queueEntry o d p with events := ev } K := by
    have entered : (s.queueEntry o d p).Loosened K := setPath h rfl (.inl rfl)
    exact entered.same rfl
  split at e
  · cases e
    exact queued
  · split at e
    · cases e
    · split at e
      · cases e
        exact queued
      · cases e
        exact queued

theorem meshClaim (h : s.Loosened K) (e : s.meshClaim = some t) : t.Loosened K := by
  unfold State.meshClaim at e
  have queued {o : Nat} {d : Word} {p : Producer} {m : Mesh} (waiting : m.waiting = s.mesh.waiting) :
      State.Loosened { s.queueEntry o d p with mesh := m } K := by
    have entered : (s.queueEntry o d p).Loosened K := setPath h rfl (.inl rfl)
    exact setMesh entered waiting
  split at e
  · cases e
  · dsimp only at e
    split at e
    · split at e
      · cases e
        exact queued rfl
      · split at e
        · cases e
          exact queued rfl
        · cases e
    · split at e
      · cases e
        exact queued rfl
      · cases e
    · cases e
    · cases e

theorem nextClaim (h : s.Loosened []) (e : s.nextClaim = some t) : t.Loosened [] := by
  rcases s.nextClaim_cases t e with slot | ⟨_, event | mesh⟩
  · exact slotClaim h slot
  · exact eventClaim h event
  · exact meshClaim h mesh

/-! ### Grants and host accesses -/

theorem consumerWrite {data : Word} {be : BitVec 4} (h : s.Loosened K) : (s.consumerWrite data be).Loosened K :=
  ite (h.same rfl) (raiseCode h)

theorem endService {data : Word} {be : BitVec 4} (h : s.Loosened K) : (s.endService data be).Loosened K := by
  unfold State.endService
  split
  · exact raiseEvent h
  · exact setNotice h

theorem liveRead {offset : Nat} (h : s.Loosened K) : (s.liveRead offset).2.Loosened K := by
  unfold State.liveRead
  split
  · exact setNotice h
  · split
    · exact setPath h rfl (.inl rfl)
    · split <;> exact h

theorem refuseWrite {offset : Nat} {data : Word} {be : BitVec 4} (h : s.Loosened K) : (s.refuseWrite offset data be).Loosened K :=
  raiseCode (setPath (answerWrite h) rfl (.inl rfl))

theorem tellWrite {offset : Nat} {data : Word} {be : BitVec 4} (h : s.Loosened K) : (s.tellWrite offset data be).Loosened K :=
  ite (consumerWrite h) (ite (heartbeatWrite h) h)

theorem grantHost {x : HostAccess} (h : s.Loosened K) : (s.grantHost x).Loosened K := by
  cases x with
  | read addr =>
    simp only [State.grantHost]
    split
    · exact answerRead h
    · exact beginCycle h (fun _ _ _ _ => nofun)
  | write addr data be =>
    simp only [State.grantHost]
    split
    · exact beginCycle h (fun _ _ _ _ => nofun)
    · next o offset =>
      split
      · exact refuseWrite h
      · next act granted => exact tellWrite (beginWrite h offset granted)

theorem nextGrant (h : s.Loosened K) (e : s.nextGrant = some t) : t.Loosened K := by
  unfold State.nextGrant at e
  have counted {n : Nat} : State.Loosened { s with path := { s.path with streak := n } } K := setPath h rfl (.inl rfl)
  have plain (c : CycleKind) (h : c = .drain ∨ c = .selector) (addr data : Word) (be : BitVec 4) (superseded : Bool) :
      c ≠ .hostWrite addr data be .post superseded := by
    rcases h with rfl | rfl <;> nofun
  split at e
  · cases e
  · dsimp only at e
    split at e
    · cases e
      exact beginCycle (setPath h rfl (.inl rfl)) (plain _ (.inr rfl))
    · split at e
      · split at e
        · cases e
        · cases e
          exact beginCycle counted (plain _ (.inl rfl))
      · split at e
        · cases e
          exact grantHost counted
        · split at e
          · cases e
            exact grantHost counted
          · cases e
            exact beginCycle counted (plain _ (.inl rfl))

theorem settle (h : s.Loosened []) : s.settle.Loosened [] := by
  refine s.settle_induct (P := fun u => u.Loosened []) (fun u v hu e => ?_) h
  rcases u.nextAction_cases v e with claim | ⟨_, grant⟩
  · exact nextClaim hu claim
  · exact nextGrant hu grant

theorem arrive (h : s.Loosened K) : s.arrive.Loosened K := by
  unfold State.arrive
  refine ite h ?_
  split
  · exact h
  · split
    · exact h
    · refine ite (answerRead (liveRead h)) ?_
      split
      · exact answerRead h
      · exact h
  · split
    · exact h
    · exact ite (ite (answerWrite (endService h)) (refuseWrite h)) h

theorem hostAccess {x : HostAccess} (h : s.Loosened []) : (s.hostAccess x).Loosened [] := by
  unfold State.hostAccess
  split
  · exact h
  · exact settle (arrive (setPath h rfl (.inl rfl)))

/-! ### Ends of memory cycles -/

theorem bodyReport {drained : Bool} (h : s.Loosened K) : (s.bodyReport drained).Loosened K := by
  unfold State.bodyReport
  dsimp only
  split
  · exact h
  · next c rest queue =>
    have counted (w : Progress) : (s.setWriter w).Loosened K :=
      keep h (fun _ => rfl) (fun j g => (names_congr rfl rfl rfl rfl rfl j g).mp) (once_congr h.once rfl rfl rfl) h.posts
        (fun empty => nomatch queue.symm.trans empty)
    exact ite (counted _) (counted _)

theorem report {p : Producer} {drained : Bool} (h : s.Loosened K) : (s.report p drained).Loosened K := by
  cases p with
  | slotBody => exact bodyReport h
  | slotHeader => exact ite (raiseNotice h) h
  | eventWriter mark => exact ite (raiseNotice h) h
  | meshWord => exact setMesh h rfl
  | meshSelector => exact ite (flip h) (setMesh h rfl)

theorem freedEntry (h : s.Loosened []) : s.freedEntry.Loosened [] := by
  unfold State.freedEntry
  cases e : s.nextClaim with
  | none => exact h
  | some u => exact nextClaim h e

theorem leaveHead {drained : Bool} (h : s.Loosened []) : (s.leaveHead drained).Loosened [] := by
  unfold State.leaveHead
  split
  · exact h
  · exact report (freedEntry (setMemPath h rfl (.inl rfl)))

theorem slotWriteEnd {offset : Nat} {data : Word} {be : BitVec 4} {act : SlotAct} {superseded : Bool} (h : s.Loosened [])
    (port : s.path.port = none) (host : act = .post → s.view (slotOfOffset offset) = .host) :
    (s.slotWriteEnd offset data be act superseded).Loosened [] := by
  have written (w : Word) :
      (if superseded then s else s.setShadow (slotOfOffset offset) (wordOfOffset offset) w).Loosened [] := ite h (h.same rfl)
  cases act with
  | plain => exact written _
  | post =>
    refine takePost (written _) ?_ ?_
    · cases superseded <;> exact host rfl
    · cases superseded <;> exact port
  | abort => exact takeAbort (written _)

/-- A host write whose cycle has ended: a post finds the slot still the host's (R158). -/
theorem endHostWrite {addr data : Word} {be : BitVec 4} {act : SlotAct} {superseded : Bool} {left : Nat} (h : s.Loosened [])
    (cycle : s.path.port = some { kind := .hostWrite addr data be act superseded, left := left })
    (freed : t.Loosened []) (views : t.slots.views = s.slots.views) (region : t.path.region = s.path.region)
    (free : t.path.port = none) : (t.endHostWrite addr data be act superseded).Loosened [] := by
  unfold State.endHostWrite
  split
  · exact freed
  · next o offset =>
    split
    · next slot =>
      refine slotWriteEnd freed free (fun posted => ?_)
      rw [State.offsetOf, region] at offset
      rw [State.view, views]
      exact h.posts addr data be superseded left o (posted ▸ cycle) offset slot
    · exact freed

theorem answerCycle (h : s.Loosened []) : s.answerCycle.Loosened [] := by
  unfold State.answerCycle
  split
  · exact h
  · next c cycle =>
    obtain ⟨kind, left⟩ := c
    refine settle ?_
    cases kind with
    | hostRead addr => exact answerRead (freePort h)
    | hostWrite addr data be act superseded =>
      have written : State.Loosened (State.answerWrite { s.freePort with mem := Memory.writeWord s.mem (wordBase addr) data be }) [] :=
        setMemPath (s := s) (p := { s.path with port := none, host := none, reply := some .writeDone }) h rfl (.inr rfl)
      exact endHostWrite h cycle written rfl rfl rfl
    | drain => exact leaveHead (freePort h)
    | selector => exact selectorAnswer (freePort h)
    | orphan => exact freePort h

theorem timeoutCycle (h : s.Loosened []) : s.timeoutCycle.Loosened [] := by
  unfold State.timeoutCycle
  split
  · exact h
  · next c cycle =>
    obtain ⟨kind, left⟩ := c
    refine settle ?_
    have passed : (s.pass left).Loosened [] := pass h
    cases kind with
    | hostRead addr => exact raiseCode (answerRead (freePort passed))
    | hostWrite addr data be act superseded =>
      obtain ⟨left', cycle'⟩ : ∃ left',
          (s.pass left).path.port = some { kind := .hostWrite addr data be act superseded, left := left' } := by
        unfold State.pass
        split
        · exact ⟨left, cycle⟩
        · dsimp only
          split
          · exact ⟨left, cycle⟩
          · exact ⟨_, by rw [cycle]; rfl⟩
      exact raiseCode (endHostWrite passed cycle' (answerWrite (freePort passed)) rfl rfl rfl)
    | drain => exact raiseCode (leaveHead (freePort passed))
    | selector => exact raiseCode (selectorAnswer (freePort passed))
    | orphan => exact freePort passed

theorem postRow {kind : BitVec 6} {p : Post} {abort : Bool} (h : s.Loosened []) : (s.postRow kind p abort).Loosened [] :=
  ite (answerCycle h) (ite (answerCycle (hostAccess h)) (hostAccess h))

/-! ### Resets -/

/-- Where nobody names a slot and no post is on its way, slots and owners agree. -/
theorem of_reset (slots : t.slots = Initial.slots) (queue : ∀ a, (t.axis a).queue = []) (owner : ∀ a, (t.axis a).owner = none)
    (stops : ∀ a, (t.axis a).stopWait = []) (ref : t.placement.ref = none) (waiting : t.mesh.waiting = [])
    (power : t.power.ref = none)
    (port : ∀ c, t.path.port = some c → c.kind = .orphan) : t.Loosened [] where
  held := fun k g named => by
    cases g with
    | axisQueue a => simp [State.NamesAs, queue] at named
    | axisRunning a => simp [State.NamesAs, owner] at named
    | stopWait a => simp [State.NamesAs, stops] at named
    | placement => simp [State.NamesAs, ref] at named
    | meshWait => simp [State.NamesAs, waiting] at named
    | power => simp [State.NamesAs, power] at named
    | completing => simp [State.NamesAs, slots, Initial.slots] at named
  once := ⟨by rw [slots]; exact .nil, fun a => by rw [queue]; exact .nil, fun a => by rw [stops]; exact .nil,
    by rw [waiting]; exact .nil⟩
  posts := fun _ _ _ _ _ _ posted => nomatch port _ posted
  atStart := fun _ => by rw [slots]; rfl
  nodup := .nil
  loose := fun _ none => nomatch none

theorem powerOn {pins : PinLevels} : (s.powerOn pins).Loosened [] := by
  refine of_reset rfl (fun a => ?_) (fun a => ?_) (fun a => ?_) rfl rfl rfl (fun _ none => nomatch none) <;> cases a <;> rfl

theorem assertReset {straps : Straps} (h : s.Loosened []) : (s.assertReset straps).Loosened [] := by
  unfold State.assertReset
  refine ite h ?_
  refine of_reset rfl (fun a => ?_) (fun a => ?_) (fun a => ?_) rfl rfl rfl (fun c port => ?_)
  · cases a <;> rfl
  · cases a <;> rfl
  · cases a <;> rfl
  · obtain ⟨_, _, rfl⟩ := Option.map_eq_some_iff.mp port
    rfl

theorem releaseReset (h : s.Loosened []) : s.releaseReset.Loosened [] := by
  have taken : (if s.hold = .powerOn then { s with axes := s.axes.map Axis.takeLevels } else s).Loosened [] :=
    ite (h.same rfl) h
  have running {u : State} {b : Budget} {p : PathUnit} {e : EventWriter} (hu : u.Loosened []) (region : p.region = u.path.region)
      (port : p.port = u.path.port) : State.Loosened { u with hold := .running, budget := b, path := p, events := e } [] :=
    same (setPath hu region (.inl port)) rfl
  have checked : ∀ u : State, u.Loosened [] → u.checkTimeout.Loosened [] := fun _ hu => ite (cooldownExpiry hu) hu
  exact ite h (settle (arrive (checked _ (checkCooldown (refreshFans (running taken rfl rfl))))))

/-! ### Periods and timers -/

theorem motionPeriod {a : AxisId} (h : s.Loosened K) : (s.motionPeriod a).Loosened K :=
  ite h (setAxis (periodWork (pass h)) rfl)

theorem searchExpiry {a : AxisId} (h : s.Loosened K) : (s.searchExpiry a).Loosened K := by
  unfold State.searchExpiry
  split
  · exact h
  · exact ite (homeFail (pass h)) h

theorem setClock {c : Clock} (h : s.Loosened K) : State.Loosened { s with clock := c } K := h.same rfl

theorem wholeSecond (h : s.Loosened K) : s.wholeSecond.Loosened K :=
  ite h (ite (tickFans (setClock (pass h))) (setClock (pass h)))

theorem kickExpiry {f : FanId} (h : s.Loosened K) : (s.kickExpiry f).Loosened K := by
  unfold State.kickExpiry
  split
  · exact h
  · exact drawFan (pass h)

theorem tachExpiry {f : FanId} (h : s.Loosened K) : (s.tachExpiry f).Loosened K := by
  unfold State.tachExpiry
  split
  · exact h
  · exact tachSilence (pass h)

theorem tachEdge {f : FanId} {elapsed : Word} (h : s.Loosened K) : (s.tachEdge f elapsed).Loosened K := by
  have passed : (s.passToEdge f elapsed.toNat).Loosened K := by
    unfold State.passToEdge
    split
    · exact pass h
    · exact ite (pass h) (pass (tachExpiry h))
  exact ite (setFan passed) (pass h)

theorem cleanExpiry {f : FanId} (h : s.Loosened K) : (s.cleanExpiry f).Loosened K := by
  unfold State.cleanExpiry
  split
  · exact h
  · exact setFan (pass h)

theorem readingExpiry {c : ChannelId} {code : Int} (h : s.Loosened K) : (s.readingExpiry c code).Loosened K :=
  ite h (takeReading (pass h))

theorem heartbeatExpiry (h : s.Loosened K) : s.heartbeatExpiry.Loosened K := by
  unfold State.heartbeatExpiry
  split
  · exact h
  · exact ite (hostLost (pass h)) h

theorem minimumExpiry (h : s.Loosened K) : s.minimumExpiry.Loosened K := ite (checkCooldown (setPower (pass h) rfl)) h

theorem elapsedExpiry (h : s.Loosened K) : s.elapsedExpiry.Loosened K :=
  ite (ite (cooldownExpiry (setPower (pass h) rfl)) (setPower (pass h) rfl)) h

theorem retirementTimer (h : s.Loosened K) : s.retirementTimer.Loosened K := by
  unfold State.retirementTimer
  split
  · exact h
  · exact ite (retireExpiry (pass h)) h

end
end State.Loosened

/-! ### Commands and steps -/

section
open State.Loosened

/-- Every command leaves slots and owners agreed. -/
theorem exec_keeps_loosened {s t : State} (h : s.Loosened []) (i : Instr) (e : exec i s = .next t) : t.Loosened [] := by
  have period (a : AxisId) : (s.motionPeriod a).settle.Loosened [] := settle (motionPeriod h)
  cases i with
  | powerOnReset pins => cases e; exact powerOn
  | systemReset straps => cases e; exact assertReset h
  | resetRelease => cases e; exact releaseReset h
  | hostRead addr => cases e; exact hostAccess h
  | hostWrite addr data be => cases e; exact hostAccess h
  | memoryAnswer => cases e; exact answerCycle h
  | memoryTimeout => cases e; exact timeoutCycle h
  | pairLowRead pair => cases e; exact hostAccess h
  | acknowledge => cases e; exact hostAccess h
  | endOfService data be => cases e; exact hostAccess h
  | encoderEdge a l => cases e; exact settle (encoderLevels h)
  | filterAccept a m => cases e; exact settle (acceptInputs (pass h))
  | motionPeriod a => cases e; exact period a
  | stall a => cases e; exact ite (period a) h
  | budgetTimeout a => cases e; exact ite (period a) h
  | settleEnd a => cases e; exact ite (period a) h
  | stoppingEnd a => cases e; exact ite (period a) h
  | stopSlow a => cases e; exact ite (period a) h
  | homeTimeout a => cases e; exact settle (searchExpiry h)
  | interlockAsserted => cases e; exact settle (interlockEdge h)
  | interlockReleased => cases e; exact settle (interlockEdge h)
  | supplyLowAsserted => cases e; exact settle (supplyEdge h)
  | supplyLowDeasserted => cases e; exact settle (supplyEdge h)
  | fanTick => cases e; exact wholeSecond h
  | kickEnd f => cases e; exact kickExpiry h
  | tachEdge f elapsed => cases e; exact settle (tachEdge h)
  | tachWindowExpiry f => cases e; exact settle (tachExpiry h)
  | cleanTimerExpiry f => cases e; exact cleanExpiry h
  | temperatureReading c code => cases e; exact settle (readingExpiry h)
  | heartbeatTimeout => cases e; exact settle (heartbeatExpiry h)
  | minimumMet => cases e; exact settle (minimumExpiry h)
  | cooldownTimeout => cases e; exact settle (elapsedExpiry h)
  | fsync => cases e; exact ite (settle (takeFsync h)) h
  | retirementTimeout => cases e; exact settle (retirementTimer h)
  -- ABORT and the nineteen request kinds
  | _ => cases e; exact postRow h

theorem step_keeps_slotInv {s t : State} (h : s.SlotInv) (e : step s = .next t) : t.SlotInv := by
  unfold step at e
  split at e
  · cases e
    exact (pass h.loosened).slotInv
  · next i rest _ => exact (exec_keeps_loosened (s := s.withPending rest) (h.loosened.same rfl) i e).slotInv

end

/-- Settles O56, by the small changes, by what a settled state waits for, and by the owners of every slot. -/
theorem pathStaysQuietAndInRange : Obligations.PathStaysQuietAndInRange :=
  ⟨fun _ _ => step_keeps_of_leads (P := fun s => s.path.InRange) (fun h => h.inRange) (fun _ _ h => h),
    fun _ _ => step_keeps_quietInv, fun _ _ => step_keeps_slotInv⟩

end Sys2Proof.Machine
end

section
/-! SUPPORT for O1, O2, O28 and O60. What a step, a command and the passing of time do; the node values of the mesh; the
invariants at reset. -/

namespace Sys2Proof.Machine

/-- Settles O1, from the two cases of a step. -/
theorem stepRunsFrontCommand : Obligations.StepRunsFrontCommand := fun c rest s waiting => by
  unfold step
  rw [waiting]

/-! ### Every command answers a next state (O2) -/

/-- No command of the part faults or is refused. -/
theorem exec_completes (c : Instr) (s : State) : ∃ t, exec c s = .next t := by
  cases c <;> exact ⟨_, rfl⟩

theorem countDown_zero (t : Option Nat) : countDown 0 t = t := by cases t <;> rfl

theorem State.pass_zero (s : State) : s.pass 0 = s := if_pos rfl

theorem PathUnit.map_pass_zero (p : PathUnit) : { p with port := p.port.map (Cycle.pass 0) } = p := by
  obtain ⟨_, _, port, _, _, _, _, _, _, _⟩ := p
  cases port <;> rfl

/-- The state that time leaves behind (R146), where power-on reset does not hold the part. -/
def State.moved (us : Nat) (s : State) : State :=
  let ms := (s.clock.usInMs + us) / 1000
  { s with
    clock :=
      { uptime := s.clock.uptime + natWord ms
        usInMs := (s.clock.usInMs + us) % 1000
        usTimer := s.clock.usTimer + natWord us
        fanTick := fanTickAfter s.clock.fanTick ms }
    path := { s.path with port := s.path.port.map (Cycle.pass us) }
    axes := s.axes.map (Axis.pass us ms)
    fans := s.fans.map (Fan.pass us ms)
    thermal :=
      { s.thermal with
        channels := s.thermal.channels.map (Channel.pass ms)
        hbTimer := countDown ms s.thermal.hbTimer }
    mesh := { s.mesh with retireTimer := countDown ms s.mesh.retireTimer }
    power := s.power.pass ms }

theorem EncInput.pass_zero (x : EncInput) : x.pass 0 = x := by rw [EncInput.pass, countDown_zero]

theorem Axis.pass_zero (x : Axis) : x.pass 0 0 = x := by
  simp only [Axis.pass, EncInput.pass_zero, countDown_zero, Nat.sub_zero]

theorem Fan.pass_zero (f : Fan) : f.pass 0 0 = f := by
  simp only [Fan.pass, countDown_zero, Nat.add_zero, Option.map_id']

theorem Channel.pass_zero (c : Channel) : c.pass 0 = c := rfl

theorem Power.pass_mode (p : Power) (ms : Nat) :
    (p.pass ms).mode = p.mode ∧ (p.pass ms).park = p.park ∧ (p.pass ms).ref = p.ref ∧ (p.pass ms).kind = p.kind
      ∧ (p.pass ms).minMet = p.minMet := by
  unfold Power.pass
  split <;> exact ⟨rfl, rfl, rfl, rfl, rfl⟩

theorem State.pass_eq_moved {s : State} (us : Nat) (some_ : us ≠ 0) (h : s.hold ≠ .powerOn) : s.pass us = s.moved us := by
  rw [State.pass, if_neg some_]
  exact if_neg h

/-- Settles O2: every command answers a next state, and its small changes keep the queue and the clock's invariant. -/
theorem everyStepCompletes : Obligations.EveryStepCompletes := by
  refine ⟨fun c s => ?_, fun s empty => ?_, fun s t => ?_, fun s us inv hold => ?_⟩
  · obtain ⟨t, e⟩ := exec_completes c s
    exact ⟨t, e, (exec_leads c e).pending⟩
  · unfold step
    rw [empty]
  · exact step_keeps_of_leads (P := State.ClockInv) (fun h => h.clockInv) (fun _ _ h => h)
  · by_cases zero : us = 0
    · subst zero
      rw [State.pass_zero, Nat.add_zero, Nat.div_eq_of_lt inv, PathUnit.map_pass_zero]
      simp
    · rw [State.pass_eq_moved us zero hold]
      obtain ⟨mode, park, ref, -, -⟩ := s.power.pass_mode ((s.clock.usInMs + us) / 1000)
      refine ⟨rfl, rfl, rfl, rfl, rfl, rfl, rfl, rfl, rfl, rfl, rfl, rfl, rfl, rfl, fun a => ?_, fun f => ?_, rfl, rfl, rfl, mode,
        park, ref⟩
      · cases a <;> exact ⟨rfl, rfl, rfl, rfl⟩
      · cases f <;> exact ⟨rfl, rfl, rfl, rfl, rfl⟩

/-! ### Node values of the mesh (O28) -/

/-- A third of a multiple of three is exact. -/
theorem third_mul_three (n : Int) : third (3 * n) = n := by
  unfold third
  dsimp only
  split <;> omega

theorem third_neg (n : Int) : third (-n) = -third n := by
  unfold third
  dsimp only
  rw [Int.natAbs_neg]
  split <;> split <;> omega

/-- Settles O28, by the definition of a third and the corner weights. -/
theorem meshNodes : Obligations.MeshNodes := by
  refine ⟨fun n => ⟨?_, ?_, third_neg n⟩, fun p c r _ _ => ⟨rfl, rfl⟩, fun p => ?_, fun p c r floor => ?_,
    fun p c r ceiling hc hr => ?_⟩
  · unfold third
    dsimp only
    split <;> omega
  · unfold third
    dsimp only
    split <;> omega
  · have corner (x t : Int) (sum : Int) (e : sum = 3 * (16 * x)) : third sum + 16 * t = 16 * (x + t) := by
      rw [e, third_mul_three, Int.mul_add]
    refine ⟨?_, ?_, ?_, ?_, ?_, ?_, ?_, ?_⟩ <;> refine corner _ _ _ ?_ <;> simp only [cornerSum] <;> push_cast <;> ring
  · rw [panelNode, floor]
  · simp only [panelX, panelY, panelNode, ceiling]
    omega

/-! ### The invariants at reset (O60) -/

/-- The levels on the pins at power-on that lead to the state right after reset: all low. -/
def lowPins : PinLevels :=
  { straps := { region := 0, orient := .floor }
    supplyLow := false
    interlock := false
    encH := { a := false, b := false, i := false }
    encV := { a := false, b := false, i := false } }

theorem releaseReset_powerOn_low : (State.reset.powerOn lowPins).releaseReset = State.reset := by decide +kernel

/-- Settles O60: the state right after reset is the release of a power-on reset, which leaves slots and owners agreed; the rest is
evaluation. -/
theorem invariantsHoldAtReset : Obligations.InvariantsHoldAtReset := by
  have released : exec .resetRelease (State.reset.powerOn lowPins) = .next State.reset :=
    congrArg Host.Outcome.next releaseReset_powerOn_low
  refine ⟨by decide, by decide, ?path, fun _ => by decide, ?standby, ?allot, ?ring, ?clock, ?slots, released⟩
  case path => unfold State.PathInv; decide
  case standby =>
    intro standby
    cases standby
  case allot => unfold State.AllotInv; decide +kernel
  case ring => unfold State.RingInv; decide +kernel
  case clock => unfold State.ClockInv; decide
  case slots => exact (exec_keeps_loosened State.Loosened.powerOn .resetRelease released).slotInv

end Sys2Proof.Machine
end

section
/-! SUPPORT for O3 and O4: what the two resets give (R16, R36, R60, R78, R96, R102, R111, R116, R125, R137, R154, R167, R174). -/

namespace Sys2Proof.Machine

/-! ### Memory and slots at a reset -/

/-- Without a drain on the port a reset leaves memory alone (R154). -/
theorem State.resetMem_eq {s : State} (idle : ∀ c, s.path.port = some c → c.kind ≠ .drain) : s.resetMem = s.mem := by
  unfold State.resetMem
  split
  · next left _ _ drains _ => exact absurd rfl (idle _ drains)
  · rfl

/-- A reset changes memory at most in the word of the entry that may be draining (R154). -/
theorem State.resetMem_outside {s : State} {e : Entry} {rest : List Entry} {a : Nat} (buffer : s.path.buffer = e :: rest)
    (outside : a < wordBase (s.addrOf e.offset) ∨ wordBase (s.addrOf e.offset) + 4 ≤ a) :
    Memory.get s.resetMem a = Memory.get s.mem a := by
  unfold State.resetMem
  split
  · next head tail _ found =>
    obtain ⟨rfl, -⟩ := List.cons.inj (found.symm.trans buffer)
    split
    · exact Memory.get_writeWord_outside _ _ _ _ _ outside
    · rfl
  · rfl

/-- At either reset every slot is the host's and its shadow is cleared (R167). -/
theorem State.slots_cleared {t : State} (slots : t.slots = Initial.slots) (k : SlotId) :
    t.view k = .host ∧ ∀ w, t.shadowWord k w = 0 := by
  constructor
  · rw [State.view, slots]
    exact Vector.getElem_replicate _
  · intro w
    rw [State.shadowWord, slots]
    simp [Initial.slots]

/-- The answer that a reset gives a host access that waits (R154). -/
theorem reply_of_host {x : HostAccess} {h : Option HostAccess} (waits : h = some x) (r : Option Reply) :
    (h.map HostAccess.abandoned).or r = some x.abandoned := by
  subst waits
  rfl

/-! ### Power-on reset (O3) -/

/-- Settles O3, block by block; the axes, fans and channels each by the cases of their names. -/
theorem powerOnReset : Obligations.PowerOnReset := by
  intro s pins
  refine ⟨s.powerOn pins, rfl, rfl, rfl, rfl, ?_⟩
  -- the memory path
  refine ⟨rfl, rfl, rfl, rfl, rfl, rfl, rfl, fun k => by cases k <;> rfl, rfl,
    fun addr waits => congrArg (Option.map HostAccess.abandoned) waits,
    fun addr data be waits => congrArg (Option.map HostAccess.abandoned) waits, ?_⟩
  -- the slots and the axes
  refine ⟨State.slots_cleared rfl, rfl, fun a => by cases a <;> and_intros <;> rfl, rfl, rfl, rfl, rfl, ?_⟩
  -- the placement, the mesh and the fans
  refine ⟨rfl, rfl, rfl, rfl, rfl, rfl, rfl, rfl, rfl, rfl, rfl, rfl, rfl, rfl, fun f => by cases f <;> rfl, ?_⟩
  -- the thermal monitor, the budget and the power sequencer
  refine ⟨fun c => by cases c <;> and_intros <;> rfl, ⟨rfl, rfl, rfl, rfl⟩, ⟨rfl, rfl⟩, rfl, rfl, rfl, rfl, rfl, rfl, rfl, rfl,
    rfl, ?_⟩
  -- the notices, the event writer and memory
  exact ⟨rfl, rfl, rfl, rfl, rfl, rfl, rfl, rfl, rfl, State.resetMem_eq, fun e rest a => State.resetMem_outside⟩

/-! ### System reset (O4) -/

/-- The state under a system reset, before the overall level is formed anew (R116). -/
def State.underReset (s : State) (straps : Straps) : State :=
  { pending := s.pending
    free := s.resetFree
    clock := s.clock
    hold := .system
    pins := { s.pins with straps := straps }
    mem := s.resetMem
    path := s.path.systemReset straps.region
    slots := Initial.slots
    axes := s.axes.map Axis.systemReset
    placement := s.placement.systemReset straps.orient
    mesh := s.mesh.systemReset
    fans := s.fans.map (Fan.systemReset s.standby)
    thermal := s.thermal.systemReset
    budget := s.budget.systemReset
    power := s.power.systemReset
    notice := Initial.notice
    events := Initial.events }

/-- RESET that is asserted while the part runs. -/
theorem State.assertReset_eq {s : State} (straps : Straps) (running : s.hold = .running) :
    s.assertReset straps =
      { s.underReset straps with
        thermal := { (s.underReset straps).thermal with overall := (s.underReset straps).overallNow } } := by
  unfold State.assertReset
  exact if_neg (not_not_intro running)

/-- The status of the placement at a system reset (R16). -/
theorem Placement.systemReset_status (p : Placement) (o : Orientation) :
    (p.status = .moving ∨ p.status = .applying → (p.systemReset o).status = .detached)
      ∧ (p.status = .settled → (p.systemReset o).status = if o = p.orientation then .settled else .detached)
      ∧ (p.status = .detached ∨ p.status = .failed → (p.systemReset o).status = p.status) := by
  refine ⟨fun h => ?_, fun h => ?_, fun h => ?_⟩
  · rcases h with h | h <;> simp [Placement.systemReset, h]
  · simp [Placement.systemReset, h]
  · rcases h with h | h <;> simp [Placement.systemReset, h]

/-- A fan at a system reset (R96): one that is FAILED stays so, and runs at full duty but for STANDBY. -/
theorem State.systemReset_fan (s : State) (f : Fan) : Fan.systemReset s.standby f =
    { f with
      st := if f.st = .failed then .failed else .off
      demand := 0
      commanded := 0
      drive := if f.st = .failed ∧ s.power.mode ≠ .standby then 100 else 0
      floor := 0
      curve := 0
      retries := if f.st = .failed then 4 else 0
      rpm := 0
      capValid := false
      kickTimer := none
      tachWindow := none
      cleanTimer := none } := by
  by_cases h : s.power.mode = .standby <;> simp [Fan.systemReset, State.standby, h]

/-- Settles O4, block by block. -/
theorem systemReset : Obligations.SystemReset := by
  intro s straps
  refine ⟨fun held => congrArg Host.Outcome.next (if_pos held), fun running => ⟨s.assertReset straps, rfl, ?_⟩⟩
  rw [State.assertReset_eq straps running]
  obtain ⟨moves, settled, rests⟩ := s.placement.systemReset_status straps.orient
  -- the memory path and the slots
  refine ⟨rfl, rfl, rfl, rfl, rfl, rfl, rfl, rfl, fun k => by cases k <;> rfl, rfl, rfl, fun addr waits => reply_of_host waits _,
    fun addr data be waits => reply_of_host waits _, State.slots_cleared rfl, rfl, ?_⟩
  -- the axes, the placement and the mesh
  refine ⟨fun a => by cases a <;> rfl, rfl, moves, settled, rests, rfl, rfl, rfl, rfl, rfl, rfl, rfl, rfl, rfl, rfl, rfl, rfl, rfl,
    ?_⟩
  -- the fans and the thermal monitor
  refine ⟨fun f => ?_, rfl, rfl, rfl, rfl, fun c => by cases c <;> rfl, ⟨rfl, rfl, rfl, rfl⟩, ⟨rfl, rfl⟩, ?_⟩
  · cases f <;> exact s.systemReset_fan _
  -- the rest
  exact ⟨rfl, rfl, rfl, rfl, rfl, rfl, rfl, rfl, rfl, rfl, rfl, State.resetMem_eq⟩

end Sys2Proof.Machine
end

section
/-! SUPPORT for O6, O8 and O10. Settling step by step, and what the port does with a host access that it takes out of a quiet or a
ready state (R142 to R146, R150 to R152). -/

namespace Sys2Proof.Machine

/-! ### Settling step by step -/

theorem State.settleFor_add (s : State) (n m : Nat) : s.settleFor (n + m) = (s.settleFor n).settleFor m := by
  induction n generalizing s with
  | zero => rw [Nat.zero_add]; rfl
  | succ n ih =>
    rw [Nat.add_right_comm, State.settleFor, State.settleFor]
    cases e : s.nextAction with
    | none => exact (s.settleFor_still m e).symm
    | some t => exact ih t

theorem State.actionsLeft_le (s : State) : s.actionsLeft ≤ 18 := by
  unfold State.actionsLeft
  have : Config.bufferSize = 16 := rfl
  split
  · omega
  · split <;> omega

/-- Settling begins with the first claim or grant. -/
theorem State.settle_of_nextAction {s t : State} (e : s.nextAction = some t) : s.settle = t.settle := by
  have first : s.settle = t.settleFor 23 := by
    show s.settleFor 24 = _
    rw [State.settleFor, e]
  have more : t.settle = (t.settleFor 23).settleFor 1 := t.settleFor_add 23 1
  rw [first, more, State.settleFor_still _ 1 (t.settleFor_ends 23 (Nat.le_trans t.actionsLeft_le (by decide)))]

/-! ### A host access out of a ready state -/

theorem State.Ready.noClaim {s x : State} (h : s.Ready) (buffer : x.path.buffer = []) (slots : x.slots = s.slots)
    (events : x.events = s.events) (mesh : x.mesh = s.mesh) : x.nextClaim = none := by
  have same := s.nextClaim_isNone_congr x (by rw [buffer, h.buffer]) slots events mesh
  rw [h.toQuiet.noAction.1] at same
  exact Option.isNone_iff_eq_none.mp same

/-- A state with its port taken or its bus free that wants no claim is settled. -/
theorem State.Ready.settle_busy {s x : State} (h : s.Ready) (busy : x.path.port ≠ none) (buffer : x.path.buffer = [])
    (slots : x.slots = s.slots) (events : x.events = s.events) (mesh : x.mesh = s.mesh) (hold : x.hold = s.hold) :
    x.settle = x :=
  x.settle_still ((State.nextAction_none_iff (hold.trans h.running)).mpr
    ⟨h.noClaim buffer slots events mesh, x.nextGrant_none_iff.mpr (.inl busy)⟩)

/-- The state in which the arbiter grants a host access that has found the buffer empty (R150). -/
def State.granting (s : State) (x : HostAccess) : State := { s with path := { s.path with host := some x, streak := 0 } }

/-- Out of a ready state the access that has come is granted at once (R150). -/
theorem State.Ready.settle_presented {s : State} (h : s.Ready) (x : HostAccess) :
    (s.presented x).settle = ((s.granting x).grantHost x).settle := by
  refine State.settle_of_nextAction ?_
  have waits : (s.presented x).hostClaims = some x := State.hostClaims_of_empty h.buffer
  have noClaim : (s.presented x).nextClaim = none := h.noClaim h.buffer rfl rfl rfl
  have port : (s.presented x).path.port = none := h.port
  have selector : (s.presented x).path.selPending = false := h.selPending
  have buffer : (s.presented x).path.buffer = [] := h.buffer
  unfold State.nextAction State.nextGrant
  rw [noClaim, port, selector, waits, buffer]
  simp [State.presented, State.granting, h.running]

theorem State.youngest_of_empty {s : State} (buffer : s.path.buffer = []) (o : Nat) : s.youngest o = none := by
  simp [State.youngest, buffer]

/-- An access that is not live and finds no entry of its own waits for the arbiter. -/
theorem State.arrive_read_waits {s : State} {addr : Word} (none_ : ∀ o, s.offsetOf addr = some o → isLive o = false ∧ s.youngest o = none) :
    (s.presented (.read addr)).arrive = s.presented (.read addr) := by
  unfold State.arrive
  split
  · rfl
  · show (match State.offsetOf (s.presented (.read addr)) addr with | none => _ | some o => _) = _
    cases e : s.offsetOf addr with
    | none =>
      rw [show (s.presented (.read addr)).offsetOf addr = none from e]
    | some o =>
      obtain ⟨plain, noEntry⟩ := none_ o e
      rw [show (s.presented (.read addr)).offsetOf addr = some o from e]
      dsimp only
      rw [plain, show (s.presented (.read addr)).youngest o = none from noEntry]
      rfl

theorem State.arrive_write_waits {s : State} {addr data : Word} {be : BitVec 4}
    (plain : ∀ o, s.offsetOf addr = some o → isLive o = false) :
    (s.presented (.write addr data be)).arrive = s.presented (.write addr data be) := by
  unfold State.arrive
  split
  · rfl
  · show (match State.offsetOf (s.presented (.write addr data be)) addr with | none => _ | some o => _) = _
    cases e : s.offsetOf addr with
    | none =>
      rw [show (s.presented (.write addr data be)).offsetOf addr = none from e]
    | some o =>
      rw [show (s.presented (.write addr data be)).offsetOf addr = some o from e]
      dsimp only
      rw [plain o e]
      rfl

/-! ### The acknowledge (O8) -/

/-- Of a list that rises in priority, the search finds the first source that qualifies. -/
theorem find_of_first {p : NoticeSource → Bool} {x : NoticeSource} {l : List NoticeSource}
    (rises : l.Pairwise (fun y z => y.prio < z.prio)) (mem : x ∈ l) (here : p x = true)
    (before : ∀ y, y.prio < x.prio → p y = false) : l.find? p = some x := by
  induction l with
  | nil => cases mem
  | cons y ys ih =>
    obtain ⟨first, rest⟩ := List.pairwise_cons.mp rises
    rcases List.mem_cons.mp mem with rfl | later
    · exact List.find?_cons_of_pos here
    · rw [List.find?_cons_of_neg (by rw [before y (first x later)]; decide)]
      exact ih rest later

theorem Notice.best_of_first {n : Notice} {x : NoticeSource} (here : n.Qualified x)
    (before : ∀ y, y.prio < x.prio → ¬ n.Qualified y) : n.best = some x :=
  find_of_first (by decide) x.mem_allSources ((n.qualifies_iff x).mpr here)
    (fun y lower => Bool.eq_false_iff.mpr fun q => before y lower ((n.qualifies_iff y).mp q))

theorem Notice.best_of_none {n : Notice} (none_ : ∀ x, ¬ n.Qualified x) : n.best = none :=
  List.find?_eq_none.mpr fun x _ q => none_ x ((n.qualifies_iff x).mp q)

/-- A read of the vector word is the acknowledge (R171). -/
theorem State.hostAccess_acknowledge {s : State} (h : s.Quiet) (host : s.path.host = none) :
    s.hostAccess (.read (s.addrOf 0x200))
      = { s with
          path := { s.path with reply := some (.readData s.notice.acknowledge.1) }
          notice := s.notice.acknowledge.2 } := by
  rw [State.hostAccess_presented host, State.arrive_liveRead h.running (by decide) (by decide)]
  exact h.settle_reply host s.notice.acknowledge.2 _

/-- Settles O8: an acknowledge selects what the search through the sources finds. -/
theorem acknowledge : Obligations.Acknowledge := by
  intro s h host
  have access := State.hostAccess_acknowledge h host
  refine ⟨fun x here before => congrArg Host.Outcome.next ?_, fun none_ => congrArg Host.Outcome.next ?_, s.notice.line_iff⟩
  · rw [access, Notice.acknowledge, Notice.best_of_first here before]
    rfl
  · rw [access, Notice.acknowledge, Notice.best_of_none none_]
    rfl

/-! ### Reads of memory (O6) -/

/-- The search from the young end of the buffer finds the entry after which none has the offset (R151). -/
theorem State.youngest_eq {s : State} {o : Nat} {before after : List Entry} {e : Entry}
    (buffer : s.path.buffer = before ++ e :: after) (here : e.offset = o) (none_ : ∀ x ∈ after, x.offset ≠ o) :
    s.youngest o = some e.data := by
  have young : after.reverse.find? (fun x => x.offset == o) = none :=
    List.find?_eq_none.mpr fun x m => by simpa using none_ x (List.mem_reverse.mp m)
  simp [State.youngest, buffer, List.find?_append, young, here]

/-- A read that finds its entry in the buffer is answered as it arrives (R151). -/
theorem State.arrive_read_entry {s : State} (run : s.hold = .running) {addr : Word} {o : Nat} {w : Word}
    (offset : s.offsetOf addr = some o) (plain : isLive o = false) (found : s.youngest o = some w) :
    (s.presented (.read addr)).arrive = (s.presented (.read addr)).answerRead w := by
  unfold State.arrive
  rw [if_neg (by simp [State.presented, run])]
  show (match State.offsetOf (s.presented (.read addr)) addr with | none => _ | some o => _) = _
  rw [show (s.presented (.read addr)).offsetOf addr = some o from offset]
  dsimp only
  rw [plain, show (s.presented (.read addr)).youngest o = some w from found]
  rfl

theorem State.grantHost_read {s : State} {addr : Word} (buffer : s.path.buffer = []) :
    s.grantHost (.read addr) = s.beginCycle (.hostRead addr) := by
  simp only [State.grantHost]
  cases e : s.offsetOf addr with
  | none => rfl
  | some o => simp [State.youngest_of_empty buffer]

/-- Settles O6: a read is granted at once, or answered from the buffer as it arrives. -/
theorem hostReads : Obligations.HostReads := by
  refine ⟨fun s addr h plain => congrArg Host.Outcome.next ?_,
    fun s addr o before after e h host offset plain buffer here none_ => congrArg Host.Outcome.next ?_⟩
  · rw [State.hostAccess_presented h.host,
      State.arrive_read_waits (fun o offset => ⟨plain o offset, State.youngest_of_empty h.buffer o⟩), h.settle_presented,
      State.grantHost_read (s := s.granting _) h.buffer]
    exact h.settle_busy (Option.some_ne_none _) h.buffer rfl rfl rfl rfl
  · rw [State.hostAccess_presented host, State.arrive_read_entry h.running offset plain (State.youngest_eq buffer here none_)]
    exact h.settle_reply host s.notice _

/-! ### Writes to memory (O10) -/

/-- A write that is granted: outside the region, or as it is classified (R144, R158). -/
theorem State.grantHost_write {s : State} {addr data : Word} {be : BitVec 4} {act : SlotAct}
    (granted : (s.offsetOf addr = none ∧ act = .plain)
      ∨ ∃ o, s.offsetOf addr = some o ∧ o ≠ 0x101 ∧ o ≠ 0x102 ∧ s.classifyWrite o data be = some act) :
    s.grantHost (.write addr data be) = s.beginCycle (.hostWrite addr data be act false) := by
  simp only [State.grantHost]
  rcases granted with ⟨outside, rfl⟩ | ⟨o, offset, notConsumer, notBeat, classified⟩
  · rw [outside]
  · rw [offset]
    dsimp only
    rw [classified]
    dsimp only [State.tellWrite]
    rw [if_neg notConsumer, if_neg notBeat]

/-- Offsets of plain memory belong to nobody else (R142). -/
theorem classifyWrite_plain {s : State} {o : Nat} (data : Word) (be : BitVec 4)
    (plain : (0x101 ≤ o ∧ o ≤ 0x102) ∨ (0x104 ≤ o ∧ o ≤ 0x1FF) ∨ (0x300 ≤ o ∧ o ≤ 0x3FF) ∨ 0x500 ≤ o) :
    s.classifyWrite o data be = some .plain ∧ isLive o = false := by
  have notPart : partOwned o = false := by
    simp only [partOwned, Bool.or_eq_false_iff, Bool.and_eq_false_iff, decide_eq_false_iff_not]
    omega
  have notLive : isLive o = false := by
    simp only [isLive, Bool.and_eq_false_iff, decide_eq_false_iff_not]
    omega
  refine ⟨?_, notLive⟩
  unfold State.classifyWrite
  rw [if_neg (by omega), notPart]
  rfl

/-- A write to a slot of the host is plain, or a post when it is a header with owner PART (R158). -/
theorem State.classifyWrite_host {s : State} {o : Nat} (data : Word) (be : BitVec 4) (slot : o < 0x80)
    (host : s.view (slotOfOffset o) = .host) :
    s.classifyWrite o data be
        = some (if o % 16 = 0 ∧ headerOwner (s.mergedWord o data be) = true then .post else .plain)
      ∧ isLive o = false := by
  constructor
  · unfold State.classifyWrite State.slotClass
    rw [if_pos slot, host]
    simp only [Bool.and_eq_true, decide_eq_true_eq]
    split <;> rfl
  · simp only [isLive, Bool.and_eq_false_iff, decide_eq_false_iff_not]
    omega

/-- Settles O10: a write is granted as it is classified, or waits for the entry of its word. -/
theorem hostWrites : Obligations.HostWrites := by
  refine ⟨fun s addr data be act h target => congrArg Host.Outcome.next ?_,
    fun s addr data be o e h host offset plain inBuffer here => congrArg Host.Outcome.next ?_⟩
  · have granted : (∀ o, s.offsetOf addr = some o → isLive o = false) ∧ ((s.offsetOf addr = none ∧ act = .plain)
        ∨ ∃ o, s.offsetOf addr = some o ∧ o ≠ 0x101 ∧ o ≠ 0x102 ∧ s.classifyWrite o data be = some act) := by
      rcases target with ⟨outside, rfl⟩ | ⟨o, offset, rfl, range⟩ | ⟨o, offset, slot, host, rfl⟩
      · exact ⟨fun o offset => (nomatch outside.symm.trans offset), .inl ⟨outside, rfl⟩⟩
      · obtain ⟨classified, notLive⟩ := classifyWrite_plain (s := s) data be (.inr range)
        refine ⟨fun o' offset' => ?_, .inr ⟨o, offset, by omega, by omega, classified⟩⟩
        exact Option.some.inj (offset.symm.trans offset') ▸ notLive
      · obtain ⟨classified, notLive⟩ := State.classifyWrite_host data be slot host
        refine ⟨fun o' offset' => ?_, .inr ⟨o, offset, by omega, by omega, classified⟩⟩
        exact Option.some.inj (offset.symm.trans offset') ▸ notLive
    obtain ⟨notLive, granted⟩ := granted
    rw [State.hostAccess_presented h.host, State.arrive_write_waits notLive, h.settle_presented,
      State.grantHost_write (s := s.granting _) granted]
    exact h.settle_busy (Option.some_ne_none _) h.buffer rfl rfl rfl rfl
  · rw [State.hostAccess_presented host,
      State.arrive_write_waits (fun o' offset' => Option.some.inj (offset.symm.trans offset') ▸ plain)]
    obtain ⟨noClaim, noGrant⟩ := h.noAction
    obtain ⟨w, found⟩ : ∃ w, s.youngest o = some w := by
      have : (s.path.buffer.reverse.find? (fun e => e.offset == o)).isSome = true :=
        List.find?_isSome.mpr ⟨e, List.mem_reverse.mpr inBuffer, by simpa using here⟩
      obtain ⟨x, found⟩ := Option.isSome_iff_exists.mp this
      exact ⟨x.data, by rw [State.youngest, found]; rfl⟩
    have busy : s.path.port ≠ none := by
      rcases s.nextGrant_none_iff.mp noGrant with busy | ⟨_, empty, _⟩
      · exact busy
      · rw [empty] at inBuffer
        cases inBuffer
    refine State.settle_still _ ((State.nextAction_none_iff (s := s.presented _) h.running).mpr
      ⟨?_, (State.nextGrant_none_iff _).mpr (.inl busy)⟩)
    have same := s.nextClaim_isNone_congr (s.presented (.write addr data be)) rfl rfl rfl rfl
    rw [noClaim] at same
    exact Option.isNone_iff_eq_none.mp same

end Sys2Proof.Machine
end

section
/-! SUPPORT for O7. Reads of the live window: a live read is answered as it arrives, and the layout of every live word (12.8). -/

namespace Sys2Proof.Machine

/-! ### Live reads -/

/-- A live read is answered as it arrives (R146). -/
theorem State.arrive_live {s : State} (run : s.hold = .running) {addr : Word} {o : Nat} (offset : s.offsetOf addr = some o)
    (live : isLive o = true) :
    (s.presented (.read addr)).arrive
      = ((s.presented (.read addr)).liveRead o).2.answerRead ((s.presented (.read addr)).liveRead o).1 := by
  unfold State.arrive
  rw [if_neg (by simp [State.presented, run])]
  show (match State.offsetOf (s.presented (.read addr)) addr with | none => _ | some o => _) = _
  rw [show (s.presented (.read addr)).offsetOf addr = some o from offset]
  dsimp only
  rw [live]
  rfl

/-- A quiet state in which the port's holds and its reply alone have changed is settled. -/
theorem State.Quiet.settle_path {s : State} (h : s.Quiet) {p : PathUnit} (port : p.port = s.path.port)
    (selector : p.selPending = s.path.selPending) (host : p.host = s.path.host) (buffer : p.buffer = s.path.buffer)
    (region : p.region = s.path.region) (streak : p.streak = s.path.streak) :
    State.settle { s with path := p } = { s with path := p } :=
  State.settle_still _
    (State.nextAction_none_congr s _ rfl port selector host buffer region streak rfl rfl rfl (Option.isNone_iff_eq_none.mp h.still))

theorem mem_allPairs (k : PairId) : k ∈ allPairs := by cases k <;> decide

theorem find_pairLow (k : PairId) : allPairs.find? (fun j => pairLowOffset j == pairLowOffset k) = some k := by
  cases k <;> decide

theorem find_pairHigh (k : PairId) :
    allPairs.find? (fun j => pairLowOffset j == pairLowOffset k + 1) = none
      ∧ allPairs.find? (fun j => pairLowOffset j + 1 == pairLowOffset k + 1) = some k := by
  cases k <;> decide

theorem pairLowOffset_range (k : PairId) : 0x216 ≤ pairLowOffset k ∧ pairLowOffset k + 1 ≤ 0x2FF := by cases k <;> decide

theorem isLive_iff (o : Nat) : isLive o = true ↔ 0x200 ≤ o ∧ o ≤ 0x2FF := by
  simp only [isLive, Bool.and_eq_true, decide_eq_true_eq]

theorem State.liveRead_plain (s : State) {o : Nat} (notVector : o ≠ 0x200)
    (noPair : ∀ k, o ≠ pairLowOffset k ∧ o ≠ pairLowOffset k + 1) : s.liveRead o = (s.liveValue o, s) := by
  have low : allPairs.find? (fun k => pairLowOffset k == o) = none :=
    List.find?_eq_none.mpr fun k _ => by simpa using (noPair k).1.symm
  have high : allPairs.find? (fun k => pairLowOffset k + 1 == o) = none :=
    List.find?_eq_none.mpr fun k _ => by simpa using (noPair k).2.symm
  unfold State.liveRead
  rw [if_neg notVector, low]
  dsimp only
  rw [high]

theorem State.liveRead_low (s : State) (k : PairId) : s.liveRead (pairLowOffset k) = s.pairLow k := by
  have range := pairLowOffset_range k
  unfold State.liveRead
  rw [if_neg (by omega), find_pairLow]

theorem State.liveRead_high (s : State) (k : PairId) :
    s.liveRead (pairLowOffset k + 1) = ((s.path.holds.get k).getD (s.liveValue (pairLowOffset k + 1)), s) := by
  have range := pairLowOffset_range k
  obtain ⟨notLow, high⟩ := find_pairHigh k
  unfold State.liveRead
  rw [if_neg (by omega), notLow]
  dsimp only
  rw [high]

/-- A live read that changes nothing of the state. -/
theorem State.hostAccess_liveRead {s : State} (h : s.Quiet) (host : s.path.host = none) {addr : Word} {o : Nat}
    (offset : s.offsetOf addr = some o) (live : isLive o = true) {w : Word}
    (plain : (s.presented (.read addr)).liveRead o = (w, s.presented (.read addr))) :
    s.hostAccess (.read addr) = { s with path := { s.path with reply := some (.readData w) } } := by
  rw [State.hostAccess_presented host, State.arrive_live h.running offset live, plain]
  exact h.settle_reply host s.notice _

theorem State.liveValue_presented (s : State) (x : HostAccess) (o : Nat) : (s.presented x).liveValue o = s.liveValue o := rfl

/-- A read of a pair's low word loads the hold (R147). -/
theorem State.hostAccess_pairLow {s : State} (h : s.Quiet) (host : s.path.host = none) (k : PairId) :
    s.hostAccess (.read (s.addrOf (pairLowOffset k)))
      = { s with
          path := { s.path with
            reply := some (.readData (s.liveValue (pairLowOffset k)))
            holds := s.path.holds.set k (some (s.liveValue (pairLowOffset k + 1))) } } := by
  have range := pairLowOffset_range k
  rw [State.hostAccess_presented host, State.arrive_live h.running (s.offsetOf_addrOf _ (by omega)) ((isLive_iff _).mpr (by omega)),
    State.liveRead_low]
  rw [State.pairLow, State.liveValue_presented, State.liveValue_presented]
  have settled := h.settle_path (p := { s.path with
    host := none
    reply := some (.readData (s.liveValue (pairLowOffset k)))
    holds := s.path.holds.set k (some (s.liveValue (pairLowOffset k + 1))) }) rfl rfl host.symm rfl rfl rfl
  generalize s.liveValue (pairLowOffset k) = low, s.liveValue (pairLowOffset k + 1) = high at settled ⊢
  exact settled.trans (by rw [← host])

/-! ### The layout of the live words (12.8) -/

theorem State.liveValue_unassigned (s : State) {o : Nat} (h : 0x230 ≤ o) : s.liveValue o = 0 := by
  have short : s.liveWords.length = 48 := rfl
  exact List.getD_eq_default _ _ (by rw [short]; omega)

theorem stackNat_lt (l : List NoticeSource) : stackNat l < 8 ^ l.length := by
  induction l with
  | nil => decide
  | cons x l ih =>
    have small := x.prio_lt
    rw [stackNat, List.length_cons, Nat.pow_succ]
    omega

/-- Entry k of a stack stands at three bits from bit 3 k on. -/
theorem stackNat_entry {l : List NoticeSource} {k : Nat} {x : NoticeSource} (h : l[k]? = some x) :
    stackNat l / 8 ^ k % 8 = x.prio := by
  induction l generalizing k with
  | nil => cases h
  | cons y l ih =>
    have small := y.prio_lt
    cases k with
    | zero =>
      obtain rfl : y = x := Option.some.inj h
      rw [stackNat, Nat.pow_zero, Nat.div_one]
      omega
    | succ k =>
      rw [stackNat, Nat.pow_succ', ← Nat.div_div_eq_div_mul, show (y.prio + 8 * stackNat l) / 8 = stackNat l by omega]
      exact ih h

/-- The stack word of a rising stack, entry by entry (R170). -/
theorem stackWord_entry {stack : List NoticeSource} (rises : stackRises stack = true) {k : Nat} {x : NoticeSource}
    (h : stack.reverse[k]? = some x) : (natWord (stackNat stack.reverse)).extractLsb' (3 * k) 3 = BitVec.ofNat 3 x.prio := by
  obtain ⟨_, short⟩ := stackRises_nodup rises
  have bound : stackNat stack.reverse < 2 ^ 32 := by
    refine Nat.lt_of_lt_of_le (stackNat_lt _) ?_
    rw [List.length_reverse]
    exact Nat.le_trans (Nat.pow_le_pow_right (by decide) short) (by decide)
  refine BitVec.eq_of_toNat_eq ?_
  rw [BitVec.extractLsb'_toNat, natWord, BitVec.toNat_ofNat, Nat.mod_eq_of_lt bound, Nat.shiftRight_eq_div_pow, Nat.pow_mul,
    BitVec.toNat_ofNat, ← stackNat_entry h, Nat.mod_mod]

/-- The words of the notices, the thermal monitor, the budget, the power sequencer, the mesh and the placement. -/
theorem State.liveValue_blocks (s : State) :
    s.liveValue 0x202 = natWord (s.notice.enable.toNat + 256 * s.notice.pend.toNat + 65536 * (s.notice.base / 16)
        + 1048576 * s.notice.stack.length + 16777216 * boolNat s.notice.line)
      ∧ s.liveValue 0x203 = natWord (stackNat s.notice.stack.reverse) ∧ s.liveValue 0x204 = s.thermalWord
      ∧ s.liveValue 0x205 = s.budgetWord ∧ s.liveValue 0x206 = s.powerWord ∧ s.liveValue 0x20C = s.meshStateWord
      ∧ s.liveValue 0x212 = s.placementWord :=
  ⟨rfl, rfl, rfl, rfl, rfl, rfl, rfl⟩

/-- The flags of the thermal word, each at its weight. -/
theorem bitsNat_flags (a b c d e f g h i j : Bool) :
    16 * bitsNat [a, b, c, d, e, f, g, h, i, j]
      = 2 ^ 4 * boolNat a + 2 ^ 5 * boolNat b + 2 ^ 6 * boolNat c + 2 ^ 7 * boolNat d + 2 ^ 8 * boolNat e + 2 ^ 9 * boolNat f
        + 2 ^ 10 * boolNat g + 2 ^ 11 * boolNat h + 2 ^ 12 * boolNat i + 2 ^ 13 * boolNat j := by
  simp only [bitsNat]
  omega

theorem State.liveValue_axis (s : State) (a : AxisId) :
    s.liveValue (pairLowOffset (match a with | .h => .positionH | .v => .positionV) + 2) = s.axisStateWord a
      ∧ s.liveValue (pairLowOffset (match a with | .h => .positionH | .v => .positionV) + 3)
        = natWord ((s.axis a).rejected + 65536 * (s.axis a).phaseErrors) := by
  cases a <;> exact ⟨rfl, rfl⟩

theorem State.liveValue_fan (s : State) (f : FanId) :
    s.liveValue (pairLowOffset (match f with | .intake => .intake | .exhaust => .exhaust | .source => .source) + 2)
        = natWord ((s.fan f).commanded + 256 * (s.fan f).drive + 65536 * (s.fan f).demand + 16777216 * (s.fan f).st.number)
      ∧ s.liveValue (pairLowOffset (match f with | .intake => .intake | .exhaust => .exhaust | .source => .source) + 3)
        = natWord ((s.fan f).retries + 256 * (s.fan f).floor) := by
  cases f <;> exact ⟨rfl, rfl⟩

theorem State.liveValue_channel (s : State) (c : ChannelId) :
    s.liveValue (0x22C + channelNumber c) = channelWord (s.channel c) := by
  cases c <;> rfl

/-- The thermal word, each field at its weight (12.8). -/
theorem State.thermalWord_eq (s : State) : s.thermalWord =
    natWord (s.thermal.overall.rank + 2 ^ 2 * s.highestLevel.rank
      + 2 ^ 4 * boolNat (s.channel .source).fault + 2 ^ 5 * boolNat (s.channel .panel).fault
      + 2 ^ 6 * boolNat (s.channel .board).fault + 2 ^ 7 * boolNat (s.channel .inlet).fault
      + 2 ^ 8 * boolNat (decide ((s.fan .intake).st = .failed)) + 2 ^ 9 * boolNat (decide ((s.fan .exhaust).st = .failed))
      + 2 ^ 10 * boolNat (decide ((s.fan .source).st = .failed)) + 2 ^ 11 * boolNat s.thermal.cutLatch
      + 2 ^ 12 * boolNat s.dim + 2 ^ 13 * boolNat s.cut + 2 ^ 14 * s.thermal.hb.number
      + 2 ^ 16 * orientationNumber s.placement.orientation) := by
  unfold State.thermalWord
  dsimp only
  rw [bitsNat_flags]
  show natWord (_ + _ + (2 ^ 4 * boolNat (s.channel .source).fault + 2 ^ 5 * boolNat (s.channel .panel).fault
      + 2 ^ 6 * boolNat (s.channel .board).fault + 2 ^ 7 * boolNat (s.channel .inlet).fault
      + 2 ^ 8 * boolNat (decide ((s.fan .intake).st = .failed)) + 2 ^ 9 * boolNat (decide ((s.fan .exhaust).st = .failed))
      + 2 ^ 10 * boolNat (decide ((s.fan .source).st = .failed)) + _ + _ + _) + _ + _) = _
  refine congrArg natWord ?_
  omega

/-- The power word, each field at its weight (12.8). -/
theorem State.powerWord_eq (s : State) : s.powerWord =
    natWord (s.power.mode.number + 2 ^ 2 * s.power.kind.number + 2 ^ 3 * boolNat s.power.minMet + 2 ^ 4 * boolNat s.release
      + 2 ^ 8 * refNat s.power.ref + 2 ^ 16 * parkCode s.power.park.h + 2 ^ 24 * parkCode s.power.park.v) := rfl

/-- The placement word, each field at its weight (12.8). -/
theorem State.placementWord_eq (s : State) : s.placementWord =
    natWord (s.placement.status.number + 2 ^ 3 * orientationNumber s.placement.orientation + 2 ^ 4 * refNat s.placement.ref
      + 2 ^ 8 * boolNat s.placement.settled.h + 2 ^ 9 * boolNat s.placement.settled.v) := rfl

/-- Settles O7: a live read is answered as it arrives, and each live word is the word of its layout. -/
theorem liveReads : Obligations.LiveReads := by
  refine ⟨⟨fun s addr o h host offset low high noPair => congrArg Host.Outcome.next ?_, fun s => ?_⟩,
    ⟨fun s k h host => congrArg Host.Outcome.next (State.hostAccess_pairLow h host k),
      fun s k h host => congrArg Host.Outcome.next ?_, fun s => ⟨rfl, rfl, rfl, rfl, rfl, rfl, rfl, rfl, rfl, rfl⟩⟩, fun s => ?_⟩
  · exact State.hostAccess_liveRead h host offset ((isLive_iff _).mpr (by omega))
      (State.liveRead_plain _ (by omega) noPair)
  · exact ⟨fun o => s.liveValue_unassigned, rfl, rfl, rfl, rfl, rfl, rfl, rfl⟩
  · have range := pairLowOffset_range k
    exact State.hostAccess_liveRead h host (s.offsetOf_addrOf _ (by omega)) ((isLive_iff _).mpr (by omega))
      (State.liveRead_high _ k)
  · obtain ⟨notice, stack, thermal, budget, power, mesh, placement⟩ := s.liveValue_blocks
    refine ⟨notice, fun rises k x h => by rw [stack]; exact stackWord_entry rises h, thermal.trans s.thermalWord_eq, budget,
      ?_, mesh, ⟨rfl, rfl, rfl, rfl, rfl, rfl, rfl, rfl⟩, ?_, fun a => ?_, fun f => ?_, s.liveValue_channel⟩
    · dsimp only
      rw [power, s.powerWord_eq]
      cases s.power.ref <;> rfl
    · rw [placement, s.placementWord_eq]
      cases s.placement.ref <;> rfl
    · cases a
      · exact s.liveValue_axis .h
      · exact s.liveValue_axis .v
    · cases f
      · exact s.liveValue_fan .intake
      · exact s.liveValue_fan .exhaust
      · exact s.liveValue_fan .source

end Sys2Proof.Machine
end

section
/-! SUPPORT for O11 and O12. Events out of a ready state, whatever waits at the port: what the event writer has on its way stands
whole in the buffer when the part has settled (R175 to R178); refused writes (R145) and writes that blocks are told (R144). -/

namespace Sys2Proof.Machine

/-! ### Settling what the event writer was given -/

theorem State.placeRecord_traffic {s : State} (ok : s.events.FedOk) (code : Half) (va vb : Word) :
    (s.placeRecord code va vb).ringTraffic = s.ringTraffic ++ s.recordEntries s.clock.uptime code va vb := by
  have drops (l : List Entry) : ((s.events.out.flatMap Record.entries) ++ l).drop s.events.fed
      = (s.events.out.flatMap Record.entries).drop s.events.fed ++ l := by
    refine List.drop_append_of_le_length ?_
    obtain ⟨few, start⟩ := ok
    cases out : s.events.out with
    | nil => rw [start out]; exact Nat.zero_le _
    | cons r rest => simp [Record.entries]; omega
  simp [State.ringTraffic, State.placeRecord, List.flatMap_append, drops, List.append_assoc, Record.entries, State.recordEntries,
    Config.ringSize, Config.eventMark]

theorem State.placeRecord_fedOk {s : State} (ok : s.events.FedOk) (code : Half) (va vb : Word) :
    (s.placeRecord code va vb).events.FedOk :=
  ⟨ok.1, fun empty => by simp [State.placeRecord] at empty⟩

theorem State.Ready.traffic {s : State} (h : s.Ready) : s.ringTraffic = [] := by
  obtain ⟨_, noEvent, _⟩ := h.toQuiet.noClaims h.buffer
  obtain ⟨noZero, out⟩ := s.eventClaim_none_iff.mp noEvent
  simp [State.ringTraffic, h.buffer, noZero, out]

theorem State.Ready.fedOk {s : State} (h : s.Ready) : s.events.FedOk := ⟨by rw [h.fed]; decide, fun _ => h.fed⟩

/-- With its port taken the part grants nothing, and the event writer's claims leave the port alone. -/
theorem State.OnlyWriter.settle_port {s : State} (h : s.OnlyWriter) (busy : s.path.port ≠ none) :
    s.settle.path.port = s.path.port := by
  have all : s.settle.OnlyWriter ∧ s.settle.path.port = s.path.port := by
    refine State.settle_induct (P := fun u => u.OnlyWriter ∧ u.path.port = s.path.port) ?_ ⟨h, rfl⟩
    rintro u v ⟨only, same⟩ e
    refine ⟨only.next e, ?_⟩
    rcases u.nextAction_cases v e with claim | ⟨_, grant⟩
    · rcases u.nextClaim_cases v claim with c | ⟨_, c | c⟩
      · rw [u.slotClaim_none_of_queue only.queue] at c
        cases c
      · refine Eq.trans ?_ same
        unfold State.eventClaim at c
        dsimp only at c
        split at c
        · cases c; rfl
        · split at c
          · cases c
          · split at c <;> cases c <;> rfl
      · rw [only.mesh] at c
        cases c
    · rw [u.nextGrant_none_iff.mpr (.inl (same ▸ busy))] at grant
      cases grant
  exact all.2

/-- What settling does after a ready state has been left to the event writer alone. -/
structure State.Written (s x t : State) : Prop where
  keeps : SettleKeeps x t
  mesh : t.mesh = s.mesh
  slots : t.slots = s.slots
  buffer : t.path.buffer = x.ringTraffic
  out : t.events.out = []
  port : x.path.port ≠ none → t.path.port = x.path.port

/-- Out of a ready state, what the event writer is given stands whole in the buffer when the part has settled (R176). -/
theorem State.Ready.settle_written {s x : State} (h : s.Ready) (slots : x.slots = s.slots) (mesh : x.mesh = s.mesh)
    (hold : x.hold = s.hold) (quiet : x.HostQuiet) (buffer : x.path.buffer = []) (ok : x.events.FedOk)
    (room : x.ringTraffic.length < Config.bufferSize) : s.Written x x.settle := by
  have only : x.OnlyWriter :=
    { queue := by rw [slots]; exact h.queue
      mesh := State.meshClaim_none_congr s x mesh (h.toQuiet.noClaims h.buffer).2.2
      quiet := quiet
      mine := by simp [buffer] }
  obtain ⟨whole, done⟩ := only.settle_buffer (hold.trans h.running) ok room
  exact ⟨State.settle_keeps _ quiet, (State.settle_mesh _ quiet only.mesh).trans mesh,
    (State.settle_slots _ quiet only.queue).trans slots, whole, done, only.settle_port⟩

/-- A state whose event writer has no more to send than that of the ready state wants no claim. -/
theorem State.Ready.noClaim_of_outgoing {s x : State} (h : s.Ready) (slots : x.slots = s.slots) (mesh : x.mesh = s.mesh)
    (zero : x.events.claimZero = s.events.claimZero) (out : x.events.out = s.events.out) : x.nextClaim = none := by
  obtain ⟨_, event, noMesh⟩ := h.toQuiet.noClaims h.buffer
  refine x.nextClaim_none_iff.mpr (.inr ⟨?_, ?_, State.meshClaim_none_congr s x mesh noMesh⟩)
  · exact State.slotClaim_none_of_queue _ (by rw [slots]; exact h.queue)
  · rw [State.eventClaim_none_iff, zero, out]
    exact s.eventClaim_none_iff.mp event

/-! ### Refused writes (O11) -/

/-- The state after a refused write, before its event (R145); the streak begins anew where the write was granted. -/
def State.refused (s : State) (o streak : Nat) : State :=
  { s with
    path := { s.path with
      host := none, reply := some .writeDone, refusals := satSucc s.path.refusals, lastRefused := o, streak := streak } }

/-! ### Header bytes -/

/-- A word put together from four bytes reads back byte by byte. -/

theorem byteOf_lanes (lane : Nat → Byte) {k : Nat} (h : k < 4) :
    byteOf (lane 3 ++ lane 2 ++ lane 1 ++ lane 0 : BitVec 32) k = lane k := by
  refine BitVec.eq_of_getLsbD_eq fun i hi => ?_
  rw [byteOf_zero_lsb _ _ _ hi, BitVec.getLsbD_append, BitVec.getLsbD_append, BitVec.getLsbD_append]
  match k, h with
  | 0, _ => rw [if_pos (by omega)]; congr 1; omega
  | 1, _ => rw [if_neg (by omega), if_pos (by omega)]; congr 1; omega
  | 2, _ => rw [if_neg (by omega), if_neg (by omega), if_pos (by omega)]; congr 1; omega
  | 3, _ => rw [if_neg (by omega), if_neg (by omega), if_neg (by omega)]; congr 1; omega

theorem byteOf_eq_extractLsb' (w : Word) (k : Nat) : byteOf w k = w.extractLsb' (8 * k) 8 := by
  refine BitVec.eq_of_getLsbD_eq fun i hi => ?_
  simp [byteOf]

theorem byteOf_mergeWord (old new : Word) (be : BitVec 4) {k : Nat} (h : k < 4) :
    byteOf (mergeWord old new be) k = if be.getLsbD k then byteOf new k else byteOf old k :=
  byteOf_lanes (fun k => if be.getLsbD k then byteOf new k else byteOf old k) h

theorem header_bytes (w : Word) :
    headerOwner w = (byteOf w 3).getLsbD 7 ∧ headerAbort w = (byteOf w 3).getLsbD 6 ∧ headerTag w = byteOf w 2 :=
  ⟨(byteOf_zero_lsb w 3 7 (by decide)).symm, (byteOf_zero_lsb w 3 6 (by decide)).symm, (byteOf_eq_extractLsb' w 2).symm⟩

/-- A header write that takes none of the abort's marks from its merged bytes is no abort (R158). -/
theorem State.mergedWord_bytes (s : State) (o : Nat) (data : Word) (be : BitVec 4) :
    byteOf (s.mergedWord o data be) 3
        = (if be.getLsbD 3 then data.extractLsb' 24 8
            else (s.shadowWord (slotOfOffset o) (wordOfOffset o)).extractLsb' 24 8)
      ∧ byteOf (s.mergedWord o data be) 2
        = if be.getLsbD 2 then data.extractLsb' 16 8
            else (s.shadowWord (slotOfOffset o) (wordOfOffset o)).extractLsb' 16 8 := by
  unfold State.mergedWord
  rw [byteOf_mergeWord _ _ _ (by decide), byteOf_mergeWord _ _ _ (by decide)]
  simp only [byteOf_eq_extractLsb']
  exact ⟨trivial, trivial⟩

/-- A write that RefusesWrite names and that is not live is not granted (R142, R158). -/
theorem State.classifyWrite_refused {s : State} {o : Nat} {data : Word} {be : BitVec 4} (refuses : s.RefusesWrite o data be)
    (notLive : isLive o = false) : s.classifyWrite o data be = none := by
  have outside : ¬ (0x200 ≤ o ∧ o ≤ 0x2FF) := fun live => by rw [(isLive_iff o).mpr live] at notLive; cases notLive
  unfold State.classifyWrite
  rcases refuses with ring | selector | live | bank | ⟨slot, kind, tag, taken, g, view, bad⟩
  · rw [if_neg (by omega), if_pos (by simp [partOwned, ring])]
  · rw [if_neg (by omega), if_pos (by simp [partOwned, selector])]
  · exact absurd ⟨live.1, live.2.1⟩ outside
  · rw [if_neg (by omega), if_pos (by simp [partOwned, bank])]
  · rw [if_pos slot]
    unfold State.slotClass
    rw [view]
    dsimp only
    refine if_neg fun all => ?_
    simp only [Bool.and_eq_true, decide_eq_true_eq, beq_iff_eq, bne_iff_ne, ne_eq] at all
    obtain ⟨⟨⟨⟨header, owner⟩, abort⟩, tag'⟩, kind'⟩ := all
    obtain ⟨top, tagByte⟩ := s.mergedWord_bytes o data be
    obtain ⟨ownerBit, abortBit, tagBits⟩ := header_bytes (s.mergedWord o data be)
    rw [ownerBit, top] at owner
    rw [abortBit, top] at abort
    rw [tagBits, tagByte] at tag'
    rcases bad with body | powerDown | noOwner | noAbort | otherTag
    · exact body header
    · exact kind' powerDown
    · rw [owner] at noOwner
      cases noOwner
    · rw [abort] at noAbort
      cases noAbort
    · exact otherTag tag'

/-- A refused write, live or not, is refused as it is arriving or as it is granted. -/
theorem State.Ready.hostAccess_refused {s : State} (h : s.Ready) {addr data : Word} {be : BitVec 4} {o : Nat}
    (offset : s.offsetOf addr = some o) (refuses : s.RefusesWrite o data be) :
    ∃ streak, s.hostAccess (.write addr data be)
      = ((s.refused o streak).raiseCode (foreignCode o) data (be.setWidth 32)).settle := by
  rw [State.hostAccess_presented h.host]
  cases live : isLive o with
  | true =>
    have notService : o ≠ 0x201 := by
      rintro rfl
      rcases refuses with ring | selector | live | bank | ⟨slot, _⟩
      · omega
      · omega
      · exact live.2.2 rfl
      · omega
      · omega
    refine ⟨s.path.streak, congrArg State.settle ?_⟩
    unfold State.arrive
    rw [if_neg (by simp [State.presented, h.running])]
    show (match State.offsetOf (s.presented (.write addr data be)) addr with | none => _ | some o => _) = _
    rw [show (s.presented (.write addr data be)).offsetOf addr = some o from offset]
    dsimp only
    rw [live, if_pos rfl, if_neg notService]
    rfl
  | false =>
    refine ⟨0, ?_⟩
    rw [State.arrive_write_waits (fun o' offset' => Option.some.inj (offset.symm.trans offset') ▸ live), h.settle_presented]
    refine congrArg State.settle ?_
    have classified : (s.granting (.write addr data be)).classifyWrite o data be = none := State.classifyWrite_refused refuses live
    simp only [State.grantHost]
    rw [show (s.granting (.write addr data be)).offsetOf addr = some o from offset]
    dsimp only
    rw [classified]
    rfl

/-- The state with other notices and another event writer. -/
def State.withNews (s : State) (n : Notice) (e : EventWriter) : State := { s with notice := n, events := e }

theorem State.loseEvent_eq {s : State} (run : s.hold = .running) :
    s.loseEvent = s.withNews
      (if s.events.overrun then s.notice else { s.notice with pend := s.notice.pend ||| NoticeSource.event.bit })
      { s.events with lost := satSucc s.events.lost, overrun := true } := by
  unfold State.loseEvent State.raiseNotice
  dsimp only
  rw [if_pos run]
  split <;> rfl

theorem State.raiseCode_full {s : State} (run : s.hold = .running) (full : 32 ≤ s.events.occupancy) (code : Half) (va vb : Word) :
    s.raiseCode code va vb = s.loseEvent := by
  unfold State.raiseCode
  rw [if_neg (not_not_intro run), if_pos (show Config.ringSize ≤ _ from full)]

/-- The OVERRUN record, and the writer open again (R178). -/
def State.reportOverrun (s : State) : State :=
  let t := s.placeRecord (eventCode .overrun 0) (natWord s.events.lost) 0
  t.withNews t.notice { t.events with overrun := false, lost := 0 }

/-- The first event after space was made comes after an OVERRUN record; where that record fills the ring, the event is lost anew
(R178). -/
theorem State.raiseCode_overrun {s : State} (run : s.hold = .running) (room : s.events.occupancy < 32)
    (overrun : s.events.overrun = true) (code : Half) (va vb : Word) :
    s.raiseCode code va vb
      = if 32 ≤ s.reportOverrun.events.occupancy then s.reportOverrun.loseEvent else s.reportOverrun.placeRecord code va vb := by
  unfold State.raiseCode
  rw [if_neg (not_not_intro run), if_neg (Nat.not_le.mpr (show _ < Config.ringSize from room)), if_pos overrun]
  rfl

/-- What a refused write counts stays as the part settles. -/
theorem State.Written.countsRefusal {s t : State} {o streak : Nat} {n : Notice} {e : EventWriter}
    (w : s.Written ((s.refused o streak).withNews n e) t) : s.CountsRefusal t o := by
  obtain ⟨mem, ⟨clock, pins, hold⟩, lens, cooling, _⟩ := w.keeps.blocks
  have rest := w.keeps.rest
  simp only [PathUnit.outerRest, Prod.mk.injEq] at rest
  obtain ⟨_, free, reply, refusals, last, _⟩ := rest
  exact ⟨refusals, last, reply, free, ⟨mem, clock, pins, hold⟩, lens, cooling, w.mesh, w.slots⟩

/-- Settling after a refused write whose event has been dealt with. -/
theorem State.Ready.settle_refused {s : State} (h : s.Ready) {o streak : Nat} {n : Notice} {e : EventWriter}
    {l : List Entry} (ok : e.FedOk) (traffic : ((s.refused o streak).withNews n e).ringTraffic = l)
    (room : l.length < Config.bufferSize) :
    s.Written ((s.refused o streak).withNews n e) ((s.refused o streak).withNews n e).settle :=
  h.settle_written (x := (s.refused o streak).withNews n e) rfl rfl rfl (.inl rfl) h.buffer ok
    (traffic ▸ room)

theorem EventWriter.occupancy_step {e f : EventWriter} (p : f.p = e.p + 1) (c : f.c = e.c) (room : e.occupancy < 32) :
    f.occupancy = e.occupancy + 1 := by
  unfold EventWriter.occupancy at *
  rw [p, c]
  bv_omega

/-- The event of a refused write on a full ring is lost (R178): nothing is queued. -/
theorem State.Ready.refused_full {s : State} (h : s.Ready) {o streak : Nat} {code : Half} {va vb : Word}
    (full : s.events.occupancy = 32) :
    ∃ t, ((s.refused o streak).raiseCode code va vb).settle = t ∧ s.CountsRefusal t o ∧ t.path.buffer = []
      ∧ t.events = { s.events with lost := min 65535 (s.events.lost + 1), overrun := true }
      ∧ (s.events.overrun = true → t.notice = s.notice)
      ∧ (s.events.overrun = false → t.notice = { s.notice with pend := s.notice.pend ||| NoticeSource.event.bit }) := by
  have lost : (s.refused o streak).raiseCode code va vb = (s.refused o streak).withNews
      (if s.events.overrun then s.notice else { s.notice with pend := s.notice.pend ||| NoticeSource.event.bit })
      { s.events with lost := satSucc s.events.lost, overrun := true } := by
    rw [State.raiseCode_full (s := s.refused o streak) h.running (Nat.le_of_eq full.symm)]
    exact State.loseEvent_eq (s := s.refused o streak) h.running
  have still : ((s.refused o streak).raiseCode code va vb).settle = (s.refused o streak).raiseCode code va vb := by
    rw [lost]
    exact State.settle_still _ ((State.nextAction_none_iff (s := (s.refused o streak).withNews _ _) h.running).mpr
      ⟨h.noClaim_of_outgoing rfl rfl rfl rfl, (State.nextGrant_none_iff _).mpr (.inr ⟨h.selPending, h.buffer, rfl⟩)⟩)
  refine ⟨_, still, ?_⟩
  rw [lost]
  exact ⟨⟨rfl, rfl, rfl, rfl, ⟨rfl, rfl, rfl, rfl⟩, ⟨rfl, rfl, rfl⟩, ⟨rfl, rfl, rfl⟩, rfl, rfl⟩, h.buffer, rfl,
    fun set => by simp [State.withNews, set], fun clear => by simp [State.withNews, clear]⟩

/-- A refused write while the ring is open: its record stands whole in the buffer (R145, R176). -/
theorem State.Ready.refused_open {s : State} (h : s.Ready) {o streak : Nat} {code : Half} {va vb : Word} (room : s.RingOpen) :
    ∃ t, ((s.refused o streak).raiseCode code va vb).settle = t ∧ s.CountsRefusal t o ∧ t.notice = s.notice
      ∧ s.Records t code va vb := by
  rw [State.raiseCode_open (s := s.refused o streak) h.running room]
  have traffic := State.placeRecord_traffic (s := s.refused o streak) h.fedOk code va vb
  rw [show (s.refused o streak).ringTraffic = [] from h.traffic, List.nil_append] at traffic
  have written : s.Written ((s.refused o streak).placeRecord code va vb) ((s.refused o streak).placeRecord code va vb).settle :=
    h.settle_refused (n := s.notice) (State.placeRecord_fedOk (s := s.refused o streak) h.fedOk code va vb) traffic (by decide : 5 < Config.bufferSize)
  obtain ⟨_, ⟨clock, _⟩, _, _, notice, p, c, _⟩ := written.keeps.blocks
  refine ⟨_, rfl, State.Written.countsRefusal (n := s.notice) written, notice, ?_, p, c, written.out⟩
  rw [written.buffer, traffic, clock]
  rfl

/-- A refused write after space was made on a ring in overrun (R178). -/
theorem State.Ready.refused_overrun {s : State} (h : s.Ready) {o streak : Nat} {code : Half} {va vb : Word}
    (room : s.events.occupancy < 32) (overrun : s.events.overrun = true) :
    ∃ t, ((s.refused o streak).raiseCode code va vb).settle = t ∧ s.CountsRefusal t o ∧ t.events.c = s.events.c
      ∧ t.events.out = []
      ∧ (s.events.occupancy < 31 →
          t.path.buffer = s.recordEntries s.clock.uptime (eventCode .overrun 0) (natWord s.events.lost) 0
              ++ State.recordEntries { s with events := { s.events with p := s.events.p + 1 } } s.clock.uptime code va vb
            ∧ t.events.p = s.events.p + 2 ∧ t.events.lost = 0 ∧ t.events.overrun = false ∧ t.notice = s.notice)
      ∧ (s.events.occupancy = 31 →
          t.path.buffer = s.recordEntries s.clock.uptime (eventCode .overrun 0) (natWord s.events.lost) 0
            ∧ t.events.p = s.events.p + 1 ∧ t.events.lost = 1 ∧ t.events.overrun = true
            ∧ t.notice = { s.notice with pend := s.notice.pend ||| NoticeSource.event.bit }) := by
  have traffic := State.placeRecord_traffic (s := s.refused o streak) h.fedOk (eventCode .overrun 0) (natWord s.events.lost) 0
  rw [show (s.refused o streak).ringTraffic = [] from h.traffic, List.nil_append] at traffic
  have ok := State.placeRecord_fedOk (s := s.refused o streak) h.fedOk (eventCode .overrun 0) (natWord s.events.lost) 0
  have grown : (s.refused o streak).reportOverrun.events.occupancy = s.events.occupancy + 1 :=
    EventWriter.occupancy_step rfl rfl room
  rw [State.raiseCode_overrun (s := s.refused o streak) h.running room overrun, grown]
  by_cases fills : s.events.occupancy = 31
  · rw [if_pos (by omega), State.loseEvent_eq (s := (s.refused o streak).reportOverrun) h.running]
    have written : s.Written _ _ := h.settle_refused (o := o) (streak := streak)
      (n := { s.notice with pend := s.notice.pend ||| NoticeSource.event.bit })
      (e := { (s.refused o streak).reportOverrun.events with lost := 1, overrun := true }) ok traffic (by decide : 5 < Config.bufferSize)
    obtain ⟨_, _, _, _, notice, p, c, lost, overrun'⟩ := written.keeps.blocks
    refine ⟨_, rfl, written.countsRefusal, c, written.out, fun below => by omega, fun _ => ⟨written.buffer.trans traffic, p, lost, overrun',
      notice⟩⟩
  · rw [if_neg (by omega)]
    have both := State.placeRecord_traffic (s := (s.refused o streak).reportOverrun) ok code va vb
    rw [show (s.refused o streak).reportOverrun.ringTraffic = _ from traffic] at both
    have written : s.Written _ _ := h.settle_refused (o := o) (streak := streak) (n := s.notice)
      (e := ((s.refused o streak).reportOverrun.placeRecord code va vb).events)
      (State.placeRecord_fedOk (s := (s.refused o streak).reportOverrun) ok code va vb) both (by decide : 10 < Config.bufferSize)
    obtain ⟨_, _, _, _, notice, p, c, lost, overrun'⟩ := written.keeps.blocks
    refine ⟨_, rfl, written.countsRefusal, c, written.out, fun _ => ⟨written.buffer.trans both, p.trans ?_, lost, overrun', notice⟩,
      fun full => absurd full fills⟩
    show s.events.p + 1 + 1 = s.events.p + 2
    bv_omega

/-- Settles O11: whichever way the write is refused, its event meets an open, a full or an overrun ring. -/
theorem hostWriteRefused : Obligations.HostWriteRefused := by
  intro s addr data be o h offset refuses
  obtain ⟨streak, refused⟩ := h.hostAccess_refused offset refuses
  refine ⟨fun room => ?_, fun full => ?_, fun room overrun => ?_⟩
  · obtain ⟨t, settled, rest⟩ := h.refused_open (o := o) (streak := streak) room
    exact ⟨t, congrArg Host.Outcome.next (refused.trans settled), rest⟩
  · obtain ⟨t, settled, rest⟩ := h.refused_full (o := o) (streak := streak) full
    exact ⟨t, congrArg Host.Outcome.next (refused.trans settled), rest⟩
  · obtain ⟨t, settled, rest⟩ := h.refused_overrun (o := o) (streak := streak) room overrun
    exact ⟨t, congrArg Host.Outcome.next (refused.trans settled), rest⟩

/-! ### Writes that blocks are told (O12) -/

/-- A plain write has been granted a memory cycle (R144). -/
def State.forwarding (s : State) (addr data : Word) (be : BitVec 4) : State :=
  (s.granting (.write addr data be)).beginCycle (.hostWrite addr data be .plain false)

/-- A write to a word that a block is told of is forwarded, and the block is told at its classification (R144). -/
theorem State.Ready.hostAccess_told {s : State} (h : s.Ready) (data : Word) (be : BitVec 4) {o : Nat}
    (told : 0x101 ≤ o ∧ o ≤ 0x102) :
    s.hostAccess (.write (s.addrOf o) data be) = ((s.forwarding (s.addrOf o) data be).tellWrite o data be).settle := by
  have offset := s.offsetOf_addrOf o (by omega)
  obtain ⟨classified, notLive⟩ := classifyWrite_plain (s := s.granting (.write (s.addrOf o) data be)) data be (.inl told)
  rw [State.hostAccess_presented h.host,
    State.arrive_write_waits (fun o' offset' => Option.some.inj (offset.symm.trans offset') ▸ notLive), h.settle_presented]
  refine congrArg State.settle ?_
  simp only [State.grantHost]
  rw [show (s.granting (.write (s.addrOf o) data be)).offsetOf (s.addrOf o) = some o from offset]
  dsimp only
  rw [classified]
  rfl

theorem State.Ready.settle_told {s : State} (h : s.Ready) {x : State} {addr data : Word} {be : BitVec 4}
    (slots : x.slots = s.slots) (mesh : x.mesh = s.mesh) (hold : x.hold = s.hold)
    (path : x.path = (s.forwarding addr data be).path) (ok : x.events.FedOk) (room : x.ringTraffic.length < Config.bufferSize) :
    s.Written x x.settle ∧ x.settle.path.port = some { kind := .hostWrite addr data be .plain false, left := 10 } := by
  have written := h.settle_written slots mesh hold (.inr (by rw [path]; rfl)) (by rw [path]; exact h.buffer) ok room
  have port : x.path.port = some { kind := .hostWrite addr data be .plain false, left := 10 } := by rw [path]; rfl
  exact ⟨written, (written.port (by rw [port]; exact Option.some_ne_none _)).trans port⟩

/-- The candidate takes the enabled bytes of the low half (R144). -/
theorem EventWriter.candidate_eq (e : EventWriter) (data : Word) (be : BitVec 4) :
    e.candidate data be =
      (if be.getLsbD 1 then data.extractLsb' 8 8 else e.c.extractLsb' 8 8)
        ++ (if be.getLsbD 0 then data.extractLsb' 0 8 else e.c.extractLsb' 0 8) := by
  have halves (a b c d : Byte) : BitVec.setWidth 16 (a ++ b ++ c ++ d : BitVec 32) = c ++ d := by
    refine BitVec.eq_of_getLsbD_eq fun i hi => ?_
    simp only [BitVec.getLsbD_setWidth, BitVec.getLsbD_append, hi, decide_true, Bool.true_and]
    split
    · rfl
    · rw [if_pos (by omega)]
  have lane (k : Nat) (low : k = 0 ∨ k = 1) : byteOf (e.c.setWidth 32) k = e.c.extractLsb' (8 * k) 8 := by
    rw [byteOf_eq_extractLsb']
    refine BitVec.eq_of_getLsbD_eq fun i hi => ?_
    have inside : 8 * k + i < 32 := by omega
    simp [hi, inside]
  unfold EventWriter.candidate mergeWord
  dsimp only
  rw [halves, lane 0 (.inl rfl), lane 1 (.inr rfl), byteOf_eq_extractLsb', byteOf_eq_extractLsb']

/-- An event that is placed as a forwarded write is told stands whole in the buffer when the part has settled. -/
theorem State.Ready.settle_told_record {s : State} (h : s.Ready) {u x : State} {addr data : Word} {be : BitVec 4} {code : Half}
    {va vb : Word} (slots : x.slots = s.slots) (mesh : x.mesh = s.mesh) (outer : x.outer = (s.forwarding addr data be).outer)
    (events : x.events = (u.placeRecord code va vb).events) (before : u.events = s.events) (clock : u.clock = s.clock) :
    s.Written x x.settle ∧ x.settle.path.port = some { kind := .hostWrite addr data be .plain false, left := 10 }
      ∧ s.Records x.settle code va vb := by
  obtain ⟨_, _, clock', hold, _, _, path, _⟩ := (State.outer_iff _ _).mp outer
  have placed : x.events = (s.placeRecord code va vb).events := by
    rw [events]
    unfold State.placeRecord
    rw [before, clock]
  have traffic : x.ringTraffic = s.recordEntries s.clock.uptime code va vb := by
    have all := State.placeRecord_traffic (s := s) h.fedOk code va vb
    rw [h.traffic, List.nil_append] at all
    rw [← all]
    unfold State.ringTraffic
    rw [placed, path]
    rfl
  have ok : x.events.FedOk := placed ▸ State.placeRecord_fedOk h.fedOk code va vb
  obtain ⟨written, port⟩ := h.settle_told slots mesh hold path ok (by rw [traffic]; exact (by decide : 5 < Config.bufferSize))
  obtain ⟨_, ⟨clock'', _⟩, _, _, _, p, c, _⟩ := written.keeps.blocks
  refine ⟨written, port, ?_, p.trans (by rw [placed]; rfl), c.trans (by rw [placed]; rfl), written.out⟩
  rw [written.buffer, traffic, clock'', clock']
  rfl

/-- A write to the consumer index at its classification (R177). -/
theorem State.Ready.settle_consumer {s : State} (h : s.Ready) (room : s.RingOpen) (addr data : Word) (be : BitVec 4) :
    ∃ t, ((s.forwarding addr data be).consumerWrite data be).settle = t
      ∧ t.path.port = some { kind := .hostWrite addr data be .plain false, left := 10 }
      ∧ s.SameGround t ∧ s.SameLens t ∧ s.SameCooling t ∧ s.SameMesh t ∧ t.slots = s.slots ∧ t.notice = s.notice
      ∧ ((s.events.candidate data be - s.events.c).toNat ≤ (s.events.q - s.events.c).toNat →
          t.events = { s.events with c := s.events.candidate data be })
      ∧ ((s.events.q - s.events.c).toNat < (s.events.candidate data be - s.events.c).toNat →
          s.Records t 0xC101 ((s.events.candidate data be).setWidth 32) (s.events.c.setWidth 32)) := by
  unfold State.consumerWrite
  dsimp only
  split
  · next within =>
    have still : ((s.forwarding addr data be).withNews s.notice { s.events with c := s.events.candidate data be }).settle
        = (s.forwarding addr data be).withNews s.notice { s.events with c := s.events.candidate data be } :=
      State.settle_still _ ((State.nextAction_none_iff (s := (s.forwarding addr data be).withNews _ _) h.running).mpr
        ⟨h.noClaim_of_outgoing rfl rfl rfl rfl, (State.nextGrant_none_iff _).mpr (.inl (Option.some_ne_none _))⟩)
    exact ⟨_, still, rfl, ⟨rfl, rfl, rfl, rfl⟩, ⟨rfl, rfl, rfl⟩, ⟨rfl, rfl, rfl⟩, rfl, rfl, rfl, fun _ => rfl,
      fun beyond => absurd within (Nat.not_le.mpr beyond)⟩
  · next beyond =>
    rw [State.raiseCode_open (s := s.forwarding addr data be) h.running room]
    obtain ⟨written, port, records⟩ := h.settle_told_record (u := s.forwarding addr data be)
      (x := (s.forwarding addr data be).placeRecord consumerBadCode
        (((s.forwarding addr data be).events.candidate data be).setWidth 32) ((s.forwarding addr data be).events.c.setWidth 32))
      (addr := addr) (data := data) (be := be) rfl rfl rfl rfl rfl rfl
    obtain ⟨mem, ⟨clock, pins, hold⟩, lens, cooling, notice, _⟩ := written.keeps.blocks
    exact ⟨_, rfl, port, ⟨mem, clock, pins, hold⟩, lens, cooling, written.mesh, written.slots, notice,
      fun within => absurd within beyond, fun _ => records⟩

/-- The monitor armed by a heartbeat write (R112). -/
def State.armed (s : State) : State :=
  { s with thermal := { s.thermal with hb := .armed, hbTimer := some Config.heartbeatMs, lastBeat := s.clock.uptime } }

/-- A heartbeat write of a monitor that is not LOST changes the monitor alone (R112). -/
theorem State.heartbeatWrite_notLost {s : State} (notLost : s.thermal.hb ≠ .lost) :
    s.heartbeatWrite = if s.thermal.hb = .disarmed ∧ s.power.mode = .standby
      then { s with thermal := { s.thermal with lastBeat := s.clock.uptime } } else s.armed := by
  unfold State.heartbeatWrite
  cases hb : s.thermal.hb with
  | disarmed => by_cases mode : s.power.mode = .standby <;> simp [mode, State.armed]
  | armed => simp [State.armed]
  | lost => exact absurd hb notLost

theorem State.heartbeatWrite_lost {s : State} (lost : s.thermal.hb = .lost) :
    s.heartbeatWrite
      = (s.armed.raiseCode (eventCode .hostBack 0) (s.clock.uptime - s.thermal.lostAt) 0).refreshFans := by
  unfold State.heartbeatWrite
  rw [lost]
  rfl

/-- A heartbeat write at its classification (R112, R114). -/
theorem State.Ready.settle_heartbeat {s : State} (h : s.Ready) (room : s.RingOpen) (addr data : Word) (be : BitVec 4) :
    ∃ t, ((s.forwarding addr data be).heartbeatWrite).settle = t
      ∧ t.path.port = some { kind := .hostWrite addr data be .plain false, left := 10 }
      ∧ t.thermal.lastBeat = s.clock.uptime ∧ s.SameGround t ∧ s.SameMesh t ∧ t.slots = s.slots ∧ t.notice = s.notice
      ∧ (s.thermal.hb = .disarmed → s.power.mode = .standby → t.thermal.hb = .disarmed)
      ∧ ((s.thermal.hb = .disarmed ∧ s.power.mode ≠ .standby) ∨ s.thermal.hb = .armed →
          t.thermal.hb = .armed ∧ t.thermal.hbTimer = some 2000 ∧ t.events = s.events ∧ s.SameLens t ∧ t.fans = s.fans)
      ∧ (s.thermal.hb = .lost →
          t.thermal.hb = .armed ∧ t.thermal.hbTimer = some 2000
            ∧ s.Records t (eventCode .hostBack 0) (s.clock.uptime - s.thermal.lostAt) 0) := by
  by_cases lost : s.thermal.hb = .lost
  · rw [State.heartbeatWrite_lost (s := s.forwarding addr data be) lost,
      State.raiseCode_open (s := (s.forwarding addr data be).armed) h.running room]
    generalize placed : (s.forwarding addr data be).armed.placeRecord (eventCode .hostBack 0)
      ((s.forwarding addr data be).clock.uptime - (s.forwarding addr data be).thermal.lostAt) 0 = v
    have only := v.refreshFans_only
    obtain ⟨written, port, records⟩ := h.settle_told_record (u := (s.forwarding addr data be).armed) (x := v.refreshFans)
      (addr := addr) (data := data) (be := be) (by rw [only.slots, ← placed]; rfl) (by rw [only.mesh, ← placed]; rfl)
      (by rw [only.outer, ← placed]; rfl) (by rw [only.events, ← placed]) rfl rfl
    obtain ⟨mem, ⟨clock, pins, hold⟩, _, ⟨_, thermal, _⟩, notice, _⟩ := written.keeps.blocks
    obtain ⟨_, _, clock', hold', pins', mem', _⟩ := (State.outer_iff _ _).mp only.outer
    have th : v.refreshFans.settle.thermal = (s.forwarding addr data be).armed.thermal := by
      rw [thermal, only.thermal, ← placed]
      rfl
    refine ⟨_, rfl, port, by rw [th]; rfl, ⟨?_, ?_, ?_, ?_⟩, written.mesh, written.slots, ?_, fun e => (nomatch lost.symm.trans e),
      fun e => ?_, fun _ => ⟨by rw [th]; rfl, by rw [th]; rfl, records⟩⟩
    · rw [mem, mem', ← placed]; rfl
    · rw [clock, clock', ← placed]; rfl
    · rw [pins, pins', ← placed]; rfl
    · rw [hold, hold', ← placed]; rfl
    · rw [notice, only.notice, ← placed]; rfl
    · rcases e with ⟨e, _⟩ | e
      · exact nomatch lost.symm.trans e
      · exact nomatch lost.symm.trans e
  · rw [State.heartbeatWrite_notLost (s := s.forwarding addr data be) lost]
    split
    · next stays =>
      refine ⟨_, h.settle_busy (Option.some_ne_none _) h.buffer rfl rfl rfl rfl, rfl, rfl, ⟨rfl, rfl, rfl, rfl⟩, rfl, rfl, rfl,
        fun e _ => e, fun e => ?_, fun e => absurd e lost⟩
      rcases e with ⟨_, e⟩ | e
      · exact absurd stays.2 e
      · exact nomatch stays.1.symm.trans e
    · next arms =>
      exact ⟨_, h.settle_busy (Option.some_ne_none _) h.buffer rfl rfl rfl rfl, rfl, rfl, ⟨rfl, rfl, rfl, rfl⟩, rfl, rfl, rfl,
        fun e mode => absurd ⟨e, mode⟩ arms, fun _ => ⟨rfl, rfl, rfl, ⟨rfl, rfl, rfl⟩, rfl⟩, fun e => absurd e lost⟩

/-- Settles O12: each write is forwarded, and its block is told at its classification. -/
theorem toldWrites : Obligations.ToldWrites := by
  refine ⟨fun s data be h room => ?_, fun s data be h room => ?_⟩
  · obtain ⟨t, settled, port, ground, lens, cooling, mesh, slots, notice, accepted, bad⟩ := h.settle_consumer room (s.addrOf 0x101) data be
    rw [s.events.candidate_eq] at accepted bad
    exact ⟨t, congrArg Host.Outcome.next ((h.hostAccess_told data be (by decide)).trans settled), port, ground, lens, cooling, mesh,
      slots, notice, accepted, bad⟩
  · obtain ⟨t, settled, rest⟩ := h.settle_heartbeat room (s.addrOf 0x102) data be
    exact ⟨t, congrArg Host.Outcome.next ((h.hostAccess_told data be (by decide)).trans settled), rest⟩

end Sys2Proof.Machine
end

section
/-! SUPPORT for O30, O32, O33 and O36. A request that is answered out of a ready state by one completion, and what the changes of
the thermal side leave alone (R82, R83, R93, R94, R101, R103, R173). -/

namespace Sys2Proof.Machine

/-! ### Requests answered by one completion (R160, R165) -/

/-- An event writer with nothing to send is left alone while the part settles. -/
theorem State.settle_events {s : State} (hh : s.HostQuiet) (idle : s.eventClaim = none) : s.settle.events = s.events := by
  have all : s.settle.events = s.events ∧ s.settle.HostQuiet := by
    refine State.settle_induct (P := fun u => u.events = s.events ∧ u.HostQuiet) ?_ ⟨rfl, hh⟩
    rintro u v ⟨same, quiet⟩ e
    refine ⟨?_, (u.nextAction_keeps v quiet e).2⟩
    have none_ : u.eventClaim = none := by
      rw [State.eventClaim_none_iff, same]
      exact s.eventClaim_none_iff.mp idle
    rcases u.nextAction_cases v e with claim | ⟨_, grant⟩
    · rcases u.nextClaim_cases v claim with c | ⟨_, c | c⟩
      · exact (u.slotClaim_ring v c).events.trans same
      · rw [none_] at c
        cases c
      · exact (u.meshClaim_ring v c).events.trans same
    · exact (u.nextGrant_quiet v quiet grant).events.trans same
  exact all.1

/-- The whole of a request that its unit answers with one completion: the unit's own change x of the taken post is the state
answered from. -/
theorem State.Ready.answer {s x : State} {p : Post} {body : List Word} {kind : Kind} {r : Result} {b : List Word} (h : s.Ready)
    (posted : s.Posted p body) (good : postCheck kind false body = none) (holds : s.Holds x kind p)
    (completes : (s.taken kind p).route p.slot kind body = x.complete p.slot r b) (fits : b.length ≤ 15) :
    s.Answers x (s.postRow kind.number p false) kind p r b := by
  rw [State.postRow_routed kind h posted good, completes]
  exact holds.answers h r b fits

/-- Where the unit's own change raises no event, the event writer is as before. -/
theorem State.Ready.answer_events {s x : State} {p : Post} {body : List Word} {kind : Kind} {r : Result} {b : List Word}
    (h : s.Ready) (posted : s.Posted p body) (good : postCheck kind false body = none) (holds : s.Holds x kind p)
    (completes : (s.taken kind p).route p.slot kind body = x.complete p.slot r b) (events : x.events = s.events) :
    (s.postRow kind.number p false).events = s.events := by
  have quiet : (x.complete p.slot r b).HostQuiet := .inl (by rw [State.complete_path, holds.path]; exact h.host)
  have idle : (x.complete p.slot r b).eventClaim = none := by
    rw [State.eventClaim_none_iff, State.complete_events, events]
    exact s.eventClaim_none_iff.mp (h.toQuiet.noClaims h.buffer).2.1
  rw [State.postRow_routed kind h posted good, completes, State.settle_events quiet idle, State.complete_events, events]

/-- Blocks that only the paths to memory and the slot unit work on. -/
theorem State.Holds.of_blocks {s u x : State} {kind : Kind} {p : Post} (holds : s.Holds u kind p) (outer : x.outer = u.outer)
    (slots : x.slots = u.slots) (mesh : x.mesh = u.mesh) : s.Holds x kind p := by
  obtain ⟨_, _, _, hold, _, mem, path, _⟩ := (State.outer_iff _ _).mp outer
  exact ⟨slots.trans holds.slots, path.trans holds.path, mem.trans holds.mem, hold.trans holds.hold, mesh.trans holds.mesh⟩

theorem State.Holds.of_taken (s : State) (kind : Kind) (p : Post) : s.Holds (s.taken kind p) kind p := ⟨rfl, rfl, rfl, rfl, rfl⟩

/-! ### Codes in request bodies (12.4) -/

theorem fanOfWord_fanWord (f : FanId) : fanOfWord (fanWord f) = f := by cases f <;> rfl

theorem channelOfWord_channelIdWord (c : ChannelId) : channelOfWord (channelIdWord c) = c := by cases c <;> rfl

theorem orientationOfWord_orientationWord (o : Orientation) : orientationOfWord (orientationWord o) = o := by cases o <;> rfl

theorem axisOfWord_axisWord (a : AxisId) : axisOfWord (axisWord a) = a := by cases a <;> rfl

theorem fanWord_le (f : FanId) : (fanWord f).toNat ≤ 2 := by cases f <;> decide

theorem isFlag_flag (b : Bool) : isFlag (natWord (boolNat b)) = true := by cases b <;> rfl

theorem flag_eq_zero (b : Bool) : natWord (boolNat b) = 0 ↔ b = false := by cases b <;> decide

/-- A post whose length and values its kind allows passes the slot unit's checks (R160). -/
theorem postCheck_none {kind : Kind} {body : List Word} (len : lengthOk kind body = true) (values : staticOk kind body = true) :
    postCheck kind false body = none := by
  simp [postCheck, len, values]

/-! ### NOTICE_SETUP (O36) -/

/-- Settles O36: the notice controller alone changes, and its pending flags are the body. -/
theorem noticeSetup : Obligations.NoticeSetup := by
  intro s p mask base h posted small low aligned
  have good : postCheck .noticeSetup false [mask, base] = none :=
    postCheck_none rfl (by simp [staticOk, bodyWord, small, low, aligned])
  have holds : s.Holds
      { s.taken .noticeSetup p with notice := { s.notice with enable := mask.setWidth 8, base := base.toNat } } .noticeSetup p :=
    ⟨rfl, rfl, rfl, rfl, rfl⟩
  have a := h.answer posted good holds (r := doneOk) (b := [s.notice.pend.setWidth 32]) rfl (by simp)
  obtain ⟨_, time, lens, cooling, notice, _⟩ := a.keeps.blocks
  exact ⟨_, rfl, a.handsOver, a.ends, notice, time, lens, cooling, a.mesh,
    h.answer_events posted good holds (r := doneOk) (b := [s.notice.pend.setWidth 32]) rfl rfl⟩

/-! ### THRESHOLDS (O30) -/

theorem State.channel_setChannel_other (s : State) {c d : ChannelId} (x : Channel) (h : d ≠ c) :
    (s.setChannel c x).channel d = s.channel d := by
  simp [State.channel, State.setChannel, PerChannel.get_set_other _ _ _ _ h]

/-- Settles O30: the channel's thresholds alone change, and its level is the body. -/
theorem thresholdsReplaced : Obligations.ThresholdsReplaced := by
  intro s p c w h k y ready posted values
  have good : postCheck .thresholds false [channelIdWord c, w, h, k, y] = none := postCheck_none rfl values
  have code : channelOfWord (bodyWord [channelIdWord c, w, h, k, y] 1) = c := channelOfWord_channelIdWord c
  generalize made : ({ s.channel c with
      thr := { warm := w.toInt, hot := h.toInt, critical := k.toInt, hyst := (y.toNat : Int) } } : Channel) = x
  have routed : (s.taken .thresholds p).route p.slot .thresholds [channelIdWord c, w, h, k, y]
      = ((s.taken .thresholds p).setChannel c x).complete p.slot doneOk [natWord (s.channel c).level.rank] := by
    show (s.taken .thresholds p).takeThresholds p.slot _ = _
    unfold State.takeThresholds
    rw [code, ← made]
    rfl
  have holds : s.Holds ((s.taken .thresholds p).setChannel c x) .thresholds p := ⟨rfl, rfl, rfl, rfl, rfl⟩
  have a := ready.answer posted good holds routed (by simp)
  obtain ⟨_, time, lens, ⟨fans, thermal, power⟩, news⟩ := a.keeps.blocks
  have channel (d : ChannelId) : (s.postRow Kind.thresholds.number p false).channel d
      = (s.setChannel c x).channel d :=
    congrArg (fun t : Thermal => t.channels.get d) thermal
  refine ⟨_, rfl, a.handsOver, a.ends, ?_, fun d other => ?_, by rw [thermal]; rfl, fans, power, time, lens, a.mesh, news⟩
  · rw [channel, State.channel_setChannel_self]
  · rw [channel, State.channel_setChannel_other _ _ other]

/-! ### Demand of a fan (R82, R83) -/

/-- Every term of R82 is within the largest one. -/
theorem le_foldl_max {l : List Nat} {n v : Nat} (h : v ≤ n ∨ v ∈ l) : v ≤ l.foldl max n := by
  induction l generalizing n with
  | nil => simpa using h
  | cons x l ih =>
    refine ih ?_
    rcases h with below | mem
    · exact .inl (Nat.le_trans below (Nat.le_max_left _ _))
    · rcases List.mem_cons.mp mem with rfl | later
      · exact .inl (Nat.le_max_right _ _)
      · exact .inr later

/-- Outside STANDBY the demand is at least every term that applies (R82). -/
theorem State.le_demandOf {s : State} {f : FanId} {v : Nat} (mode : s.power.mode ≠ .standby) (term : v ≤ s.largestTerm f) :
    v ≤ s.demandOf f := by
  unfold State.demandOf
  rw [if_neg mode]
  dsimp only
  split
  · omega
  · exact Nat.le_trans term (Nat.le_max_left _ _)

theorem State.demandOf_standby {s : State} {f : FanId} (mode : s.power.mode = .standby) : s.demandOf f = 0 := if_pos mode

theorem State.floor_le_largestTerm (s : State) (f : FanId) : (s.fan f).floor ≤ s.largestTerm f :=
  le_foldl_max (.inr (by simp))

/-- What a fan is after it has taken a demand: commanded at once what the demand rises to (R83). -/
theorem Fan.takeDemand_commanded (standby : Bool) (d : Nat) (x : Fan) :
    (Fan.takeDemand standby d x).demand = d
      ∧ (Fan.takeDemand standby d x).commanded = (if standby then 0 else max x.commanded d)
      ∧ (Fan.takeDemand standby d x).floor = x.floor ∧ (Fan.takeDemand standby d x).curve = x.curve := by
  rw [Fan.takeDemand_keeps]
  exact ⟨rfl, rfl, rfl, rfl⟩

/-- The fans of a state after their demands have been formed anew. -/
theorem State.refreshFans_commanded (s : State) (f : FanId) :
    (s.refreshFans.fan f).demand = s.demandOf f
      ∧ (s.refreshFans.fan f).commanded = (if s.power.mode = .standby then 0 else max (s.fan f).commanded (s.demandOf f))
      ∧ (s.refreshFans.fan f).floor = (s.fan f).floor ∧ (s.refreshFans.fan f).curve = (s.fan f).curve := by
  rw [State.refreshFans_fan]
  have taken := Fan.takeDemand_commanded s.standby (s.demandOf f) (s.fan f)
  simpa only [s.standby_iff] using taken

/-! ### FAN_FLOOR (O32) -/

/-- What a request has done that its unit answers after changing the fans, counted from the state u that the fans were changed
in. -/
structure State.AnswersFans (s u x t : State) (kind : Kind) (p : Post) (r : Result) (b : List Word) : Prop where
  handsOver : s.HandsOver t kind p
  ends : t.Ends kind p r b
  fans : t.fans = x.fans
  thermal : t.thermal = u.thermal
  power : t.power = u.power
  placement : t.placement = u.placement
  axes : u.AxesSameButDrive t
  time : u.SameTime t
  mesh : u.SameMesh t
  news : u.SameNews t

/-- The law of a request whose unit changes the fans and answers (R83). -/
theorem State.Ready.answer_fans {s u x : State} {p : Post} {body : List Word} {kind : Kind} {r : Result} {b : List Word}
    (h : s.Ready) (posted : s.Posted p body) (good : postCheck kind false body = none) (holds : s.Holds u kind p)
    (only : FansOnly u x) (completes : (s.taken kind p).route p.slot kind body = x.complete p.slot r b) (fits : b.length ≤ 15) :
    s.AnswersFans u x (s.postRow kind.number p false) kind p r b := by
  have a := h.answer posted good (holds.of_blocks only.outer only.slots only.mesh) completes fits
  obtain ⟨_, ⟨clock, pins, hold⟩, ⟨axes, placement, _⟩, ⟨fans, thermal, power⟩, notice, np, nc, lost, overrun⟩ := a.keeps.blocks
  obtain ⟨_, _, clock', hold', pins', _⟩ := (State.outer_iff _ _).mp only.outer
  obtain ⟨axisH, axisV⟩ := only.axes
  exact
    { handsOver := a.handsOver
      ends := a.ends
      fans := fans
      thermal := thermal.trans only.thermal
      power := power.trans only.power
      placement := placement.trans only.placement
      axes := by rw [State.AxesSameButDrive, axes]; exact ⟨axisH, axisV⟩
      time := ⟨clock.trans clock', pins.trans pins', hold.trans hold'⟩
      mesh := a.mesh.trans only.mesh
      news := by
        rw [State.SameNews, notice, np, nc, lost, overrun, only.notice, only.events]
        exact ⟨rfl, rfl, rfl, rfl, rfl⟩ }

theorem State.setFan_only (s : State) (f : FanId) (x : Fan) : FansOnly s (s.setFan f x) where
  outer := rfl
  thermal := rfl
  power := rfl
  placement := rfl
  mesh := rfl
  slots := rfl
  events := rfl
  notice := rfl
  axes := ⟨.refl _, .refl _⟩

theorem State.fan_congr {s t : State} (h : t.fans = s.fans) (f : FanId) : t.fan f = s.fan f := by
  rw [State.fan, State.fan, h]

/-- Settles O32: the floor is replaced and the demands are formed anew. -/
theorem fanFloor : Obligations.FanFloor := by
  intro s p f w h posted small
  have good : postCheck .fanFloor false [fanWord f, w] = none :=
    postCheck_none rfl (by simp [staticOk, bodyWord, small, fanWord_le])
  have floor := (s.taken .fanFloor p).fan_setFan_self f { s.fan f with floor := w.toNat }
  have others := fun g => (s.taken .fanFloor p).fan_setFan_other f g { s.fan f with floor := w.toNat }
  have set := (s.taken .fanFloor p).setFan_only f { s.fan f with floor := w.toNat }
  have routed : (s.taken .fanFloor p).route p.slot .fanFloor [fanWord f, w]
      = ((s.taken .fanFloor p).setFan f { s.fan f with floor := w.toNat }).refreshFans.complete p.slot doneOk
          [natWord ((((s.taken .fanFloor p).setFan f { s.fan f with floor := w.toNat }).refreshFans).fan f).demand,
            natWord ((((s.taken .fanFloor p).setFan f { s.fan f with floor := w.toNat }).refreshFans).fan f).commanded] := by
    show (s.taken .fanFloor p).takeFanFloor p.slot _ = _
    unfold State.takeFanFloor
    rw [show fanOfWord (bodyWord [fanWord f, w] 1) = f from fanOfWord_fanWord f]
    rfl
  generalize (s.taken .fanFloor p).setFan f { s.fan f with floor := w.toNat } = u at floor others set routed
  have a := h.answer_fans posted good (.of_taken s .fanFloor p) (set.trans u.refreshFans_only) routed (by simp)
  have fan := State.fan_congr a.fans
  have mode : u.power = s.power := set.power
  obtain ⟨demand, commanded, kept, _⟩ := u.refreshFans_commanded f
  rw [mode, floor] at commanded
  refine ⟨_, rfl, a.handsOver, ?_, ?_, fun g other => ?_, fun standby => ?_, fun running => ?_, a.thermal, a.power, a.placement, a.axes,
    a.time, a.mesh, a.news⟩
  · rw [fan]
    exact a.ends
  · rw [fan, kept, floor]
  · rw [fan, (u.refreshFans_commanded g).2.2.1, others g other]
    rfl
  · rw [fan, demand, commanded, if_pos standby]
    exact ⟨State.demandOf_standby (mode ▸ standby), rfl⟩
  · rw [fan, demand, commanded, if_neg running]
    have least := u.floor_le_largestTerm f
    rw [floor] at least
    exact ⟨State.le_demandOf (mode ▸ running) least, rfl⟩

/-! ### What the changes of the thermal side leave alone -/

/-- Nothing but axes and supply budget differs. -/
def State.AxesOnly (s t : State) : Prop := t = { s with axes := t.axes, budget := t.budget }

theorem State.AxesOnly.trans {s t u : State} (a : s.AxesOnly t) (b : t.AxesOnly u) : s.AxesOnly u := by
  unfold State.AxesOnly at *
  rw [b, a]

theorem State.AxesOnly.refl (s : State) : s.AxesOnly s := rfl

theorem State.stopCause_only (s : State) (a : AxisId) (c : ResCode) : s.AxesOnly (s.stopCause a c) := by
  unfold State.stopCause
  split <;> rfl

theorem State.stopBoth_only (s : State) (c : ResCode) : s.AxesOnly (s.stopBoth c) :=
  (s.stopCause_only .h c).trans (State.stopCause_only _ .v c)

/-- Nothing but axes, fans, thermal monitor, supply budget, notices and the event writer differs. -/
def State.CoolingOnly (s t : State) : Prop :=
  t = { s with
    axes := t.axes
    fans := t.fans
    thermal := t.thermal
    budget := t.budget
    notice := t.notice
    events := t.events }

theorem State.CoolingOnly.refl (s : State) : s.CoolingOnly s := rfl

theorem State.CoolingOnly.trans {s t u : State} (a : s.CoolingOnly t) (b : t.CoolingOnly u) : s.CoolingOnly u := by
  unfold State.CoolingOnly at *
  rw [b, a]

theorem State.AxesOnly.cooling {s t : State} (a : s.AxesOnly t) : s.CoolingOnly t := by
  unfold State.AxesOnly State.CoolingOnly at *
  rw [a]

/-- Nothing but notices and the event writer differs. -/
def State.NewsOnly (s t : State) : Prop := t = s.withNews t.notice t.events

theorem State.NewsOnly.trans {s t u : State} (a : s.NewsOnly t) (b : t.NewsOnly u) : s.NewsOnly u := by
  unfold State.NewsOnly at *
  rw [b, a]
  rfl

theorem State.NewsOnly.cooling {s t : State} (a : s.NewsOnly t) : s.CoolingOnly t := by
  unfold State.NewsOnly State.CoolingOnly at *
  rw [a]
  rfl

theorem State.raiseNotice_news (s : State) (n : NoticeSource) : s.NewsOnly (s.raiseNotice n) := by
  unfold State.raiseNotice
  split <;> rfl

theorem State.loseEvent_news (s : State) : s.NewsOnly s.loseEvent := by
  have counted : s.NewsOnly (s.withNews s.notice { s.events with lost := satSucc s.events.lost, overrun := true }) := rfl
  unfold State.loseEvent
  split
  · exact counted
  · exact counted.trans (State.raiseNotice_news _ _)

theorem State.raiseCode_news (s : State) (code : Half) (va vb : Word) : s.NewsOnly (s.raiseCode code va vb) := by
  have reported : s.NewsOnly s.reportOverrun := rfl
  unfold State.raiseCode
  split
  · rfl
  · split
    · exact s.loseEvent_news
    · split
      · show s.NewsOnly (if 32 ≤ s.reportOverrun.events.occupancy then s.reportOverrun.loseEvent
          else s.reportOverrun.placeRecord code va vb)
        split
        · exact reported.trans (State.loseEvent_news _)
        · exact reported.trans rfl
      · rfl

theorem State.drawFan_cooling (s : State) (f : FanId) (x : Fan) : s.CoolingOnly (s.drawFan f x) := rfl

theorem State.refreshFans_cooling (s : State) : s.CoolingOnly s.refreshFans :=
  ((s.drawFan_cooling _ _).trans (State.drawFan_cooling _ _ _)).trans (State.drawFan_cooling _ _ _)

/-- The overall level alone. -/
def State.withOverall (s : State) (l : Level) : State := { s with thermal := { s.thermal with overall := l } }

/-- What entering CRITICAL does beside the level (R106). -/
def State.enterCritical (s : State) : State :=
  (State.stopBoth { s with thermal := { s.thermal with cutLatch := true } } .thermalBlock).raiseNotice .thermal

/-- The overall level has moved, is told, and the demands are formed anew (R103, R104). -/
def State.levelMoved (s : State) (subject : Nat) : State :=
  ((s.withOverall s.overallNow).raiseEvent .thermalLevel subject (natWord s.overallNow.rank)
    (natWord s.thermal.overall.rank)).refreshFans

theorem State.updateOverall_eq (s : State) (subject : Nat) :
    s.updateOverall subject =
      if s.overallNow = s.thermal.overall then s
      else if s.overallNow = .critical then (s.levelMoved subject).enterCritical else s.levelMoved subject := rfl

theorem State.withOverall_cooling (s : State) (l : Level) : s.CoolingOnly (s.withOverall l) := rfl

theorem State.latch_cooling (s : State) : s.CoolingOnly { s with thermal := { s.thermal with cutLatch := true } } := rfl

theorem State.enterCritical_cooling (s : State) : s.CoolingOnly s.enterCritical :=
  (s.latch_cooling.trans (State.stopBoth_only _ _).cooling).trans (State.raiseNotice_news _ _).cooling

theorem State.levelMoved_cooling (s : State) (subject : Nat) : s.CoolingOnly (s.levelMoved subject) :=
  ((s.withOverall_cooling _).trans (State.raiseCode_news _ _ _ _).cooling).trans (State.refreshFans_cooling _)

/-- A change of the overall level reaches no other block (R103, R106). -/
theorem State.updateOverall_cooling (s : State) (subject : Nat) : s.CoolingOnly (s.updateOverall subject) := by
  rw [State.updateOverall_eq]
  split
  · exact .refl s
  · split
    · exact (s.levelMoved_cooling subject).trans (State.enterCritical_cooling _)
    · exact s.levelMoved_cooling subject

/-! ### The overall level and the fans (R103, R104) -/

/-- The blocks that the thermal side leaves alone. -/
structure State.ThermalKeeps (s t : State) : Prop where
  pending : t.pending = s.pending
  clock : t.clock = s.clock
  hold : t.hold = s.hold
  pins : t.pins = s.pins
  mem : t.mem = s.mem
  path : t.path = s.path
  slots : t.slots = s.slots
  placement : t.placement = s.placement
  mesh : t.mesh = s.mesh
  power : t.power = s.power

theorem State.CoolingOnly.same {s t : State} (h : s.CoolingOnly t) : s.ThermalKeeps t := by
  unfold State.CoolingOnly at h
  rw [h]
  exact ⟨rfl, rfl, rfl, rfl, rfl, rfl, rfl, rfl, rfl, rfl⟩

theorem State.Holds.of_cooling {s u x : State} {kind : Kind} {p : Post} (holds : s.Holds u kind p) (same : u.ThermalKeeps x) :
    s.Holds x kind p :=
  ⟨same.slots.trans holds.slots, same.path.trans holds.path, same.mem.trans holds.mem, same.hold.trans holds.hold,
    same.mesh.trans holds.mesh⟩

theorem State.NewsOnly.blocks {s t : State} (h : s.NewsOnly t) :
    t.fans = s.fans ∧ t.thermal = s.thermal ∧ t.power = s.power ∧ t.placement = s.placement ∧ t.axes = s.axes
      ∧ t.budget = s.budget := by
  unfold State.NewsOnly at h
  rw [h]
  exact ⟨rfl, rfl, rfl, rfl, rfl, rfl⟩

theorem State.AxesOnly.blocks {s t : State} (h : s.AxesOnly t) :
    t.fans = s.fans ∧ t.thermal = s.thermal ∧ t.power = s.power ∧ t.placement = s.placement ∧ t.notice = s.notice
      ∧ t.events = s.events := by
  unfold State.AxesOnly at h
  rw [h]
  exact ⟨rfl, rfl, rfl, rfl, rfl, rfl⟩

/-- What entering CRITICAL does to the thermal side: it sets the cut latch. -/
theorem State.enterCritical_blocks (s : State) :
    s.enterCritical.thermal = { s.thermal with cutLatch := true } ∧ s.enterCritical.fans = s.fans := by
  obtain ⟨fans, thermal, _⟩ := (State.raiseNotice_news
    (State.stopBoth { s with thermal := { s.thermal with cutLatch := true } } .thermalBlock) .thermal).blocks
  obtain ⟨fans', thermal', _⟩ := (State.stopBoth_only { s with thermal := { s.thermal with cutLatch := true } } .thermalBlock).blocks
  exact ⟨thermal.trans thermal', fans.trans fans'⟩

/-- The fans and the thermal monitor once a moved level has been told. -/
theorem State.levelMoved_blocks (s : State) (subject : Nat) :
    (s.levelMoved subject).thermal = { s.thermal with overall := s.overallNow }
      ∧ ∀ f, (s.levelMoved subject).fan f = (s.fan f).takeDemand s.standby ((s.withOverall s.overallNow).demandOf f) := by
  obtain ⟨fans, thermal, power, placement, _⟩ := ((s.withOverall s.overallNow).raiseCode_news (eventCode .thermalLevel subject)
    (natWord s.overallNow.rank) (natWord s.thermal.overall.rank)).blocks
  refine ⟨(State.refreshFans_only _).thermal.trans thermal, fun f => ?_⟩
  unfold State.levelMoved State.raiseEvent
  rw [State.refreshFans_fan, State.fan_congr fans, State.standby_congr _ _ power,
    State.demandOf_congr _ _ f (State.fan_congr fans f) thermal power placement]
  rfl

/-- The thermal monitor after its overall level has been formed anew. -/
theorem State.updateOverall_thermal (s : State) (subject : Nat) :
    (s.updateOverall subject).thermal =
      { s.thermal with
        overall := s.overallNow
        cutLatch := if s.overallNow ≠ s.thermal.overall ∧ s.overallNow = .critical then true else s.thermal.cutLatch } := by
  rw [State.updateOverall_eq]
  split
  · next same => rw [if_neg (fun q => q.1 same), same]
  · next moved =>
    split
    · next critical =>
      rw [(State.enterCritical_blocks _).1, (s.levelMoved_blocks subject).1, if_pos ⟨moved, critical⟩]
    · next other => rw [(s.levelMoved_blocks subject).1, if_neg (fun q => other q.2)]

/-- A fan after the overall level has been formed anew: it takes its demand again where the level has moved. -/
theorem State.updateOverall_fan (s : State) (subject : Nat) (f : FanId) :
    (s.updateOverall subject).fan f =
      if s.overallNow = s.thermal.overall then s.fan f
      else (s.fan f).takeDemand s.standby ((s.withOverall s.overallNow).demandOf f) := by
  rw [State.updateOverall_eq]
  split
  · rfl
  · split
    · rw [State.fan_congr (State.enterCritical_blocks _).2, (s.levelMoved_blocks subject).2]
    · exact (s.levelMoved_blocks subject).2 f

theorem Fan.follow_failed_iff (standby : Bool) (x : Fan) : (Fan.follow standby x).st = .failed ↔ x.st = .failed := by
  unfold Fan.follow
  cases st : x.st with
  | off => dsimp only; split <;> simp [st]
  | kick => dsimp only; split <;> simp [st]
  | run => dsimp only; split <;> simp [st]
  | failed => simp [st]

theorem Fan.takeDemand_failed_iff (standby : Bool) (d : Nat) (x : Fan) :
    (Fan.takeDemand standby d x).st = .failed ↔ x.st = .failed := Fan.follow_failed_iff _ _

/-- The overall level reads of the fans which of them have failed, and of the thermal monitor its channels (R103). -/
theorem State.overallNow_congr {s t : State} (channels : t.thermal.channels = s.thermal.channels)
    (failed : ∀ f, (t.fan f).st = .failed ↔ (s.fan f).st = .failed) : t.overallNow = s.overallNow := by
  have intake := failed .intake
  have exhaust := failed .exhaust
  have source := failed .source
  simp only [State.fan, PerFan.get] at intake exhaust source
  unfold State.overallNow State.anyFanFailed State.anyChannelFault State.highestLevel
  simp only [channels, intake, exhaust, source]

theorem State.updateOverall_failed (s : State) (subject : Nat) (f : FanId) :
    ((s.updateOverall subject).fan f).st = .failed ↔ (s.fan f).st = .failed := by
  rw [State.updateOverall_fan]
  split
  · rfl
  · exact Fan.takeDemand_failed_iff _ _ _

/-! ### FAN_REPORT (O33) -/

/-- A FAILED fan that is cleared follows its commanded duty again (R94). -/
theorem Fan.follow_cleared (standby : Bool) (x : Fan) (off : x.st = .off) :
    (Fan.follow standby x).st ≠ .failed ∧ (Fan.follow standby x).retries = x.retries
      ∧ (0 < x.commanded → (Fan.follow standby x).st = .kick ∧ (Fan.follow standby x).drive = 100
          ∧ (Fan.follow standby x).commanded = x.commanded) := by
  unfold Fan.follow
  rw [off]
  dsimp only
  split
  · next zero => exact ⟨by simp [off], rfl, fun running => by omega⟩
  · exact ⟨nofun, rfl, fun _ => ⟨rfl, rfl, rfl⟩⟩

/-- A fan that kicks goes on kicking while its commanded duty is above 0. -/
theorem Fan.takeDemand_kick (d : Nat) (x : Fan) (kick : x.st = .kick) (running : 0 < x.commanded) :
    (Fan.takeDemand false d x).st = .kick ∧ (Fan.takeDemand false d x).drive = 100 := by
  have above : ¬ max x.commanded d = 0 := by omega
  unfold Fan.takeDemand Fan.follow
  simp [kick, above]

/-- A FAILED fan that is cleared, and the overall level that follows (R94, R103). -/
def State.clearedFan (s : State) (f : FanId) : State :=
  (s.drawFan f (Fan.follow s.standby { s.fan f with st := .off, retries := 0 })).updateOverall (4 + fanNumber f)

theorem State.clearedFan_fan (s : State) (f : FanId) :
    ((s.clearedFan f).fan f).retries = 0
      ∧ (0 < (s.fan f).commanded → s.power.mode ≠ .standby →
          ((s.clearedFan f).fan f).st = .kick ∧ ((s.clearedFan f).fan f).drive = 100) := by
  obtain ⟨_, retries, kicks⟩ := Fan.follow_cleared s.standby { s.fan f with st := .off, retries := 0 } rfl
  unfold State.clearedFan
  rw [State.updateOverall_fan, State.fan_drawFan_self]
  split
  · exact ⟨retries, fun running _ => ⟨(kicks running).1, (kicks running).2.1⟩⟩
  · refine ⟨by rw [Fan.takeDemand_keeps]; exact retries, fun running mode => ?_⟩
    obtain ⟨kick, _, commanded⟩ := kicks running
    have awake : (s.drawFan f (Fan.follow s.standby { s.fan f with st := .off, retries := 0 })).standby = false := by
      rw [State.standby_congr s _ rfl]
      exact Bool.eq_false_iff.mpr (fun q => mode (s.standby_iff.mp q))
    rw [awake]
    exact Fan.takeDemand_kick _ _ kick (by rw [commanded]; exact running)

theorem State.clearedFan_overall (s : State) (f : FanId) :
    (s.clearedFan f).thermal.overall = State.overallNow { s with fans := (s.clearedFan f).fans } := by
  unfold State.clearedFan
  rw [State.updateOverall_thermal]
  exact State.overallNow_congr rfl (fun g => (State.updateOverall_failed _ _ g).symm)

/-- Settles O33: without the clear flag the report is all; with it the fan's retries return to 0, and a FAILED fan follows its
commanded duty again while the overall level is formed anew. -/
theorem fanReport : Obligations.FanReport := by
  intro s p f clear h posted
  have good : postCheck .fanReport false [fanWord f, natWord (boolNat clear)] = none :=
    postCheck_none rfl (by simp [staticOk, bodyWord, isFlag_flag, fanWord_le])
  have held : s.Holds (s.taken .fanReport p) .fanReport p := .of_taken s .fanReport p
  have routed (x : State) (e : (if bodyWord [fanWord f, natWord (boolNat clear)] 2 = 0 then s.taken .fanReport p
        else if (s.fan f).st = .failed then (s.taken .fanReport p).clearedFan f
        else (s.taken .fanReport p).setFan f { s.fan f with retries := 0 }) = x) :
      (s.taken .fanReport p).route p.slot .fanReport [fanWord f, natWord (boolNat clear)]
        = x.complete p.slot doneOk [natWord (s.fan f).st.number, natWord (s.fan f).commanded, natWord (s.fan f).rpm,
            natWord (s.fan f).retries] := by
    subst e
    show (s.taken .fanReport p).takeFanReport p.slot _ = _
    unfold State.takeFanReport
    rw [show fanOfWord (bodyWord [fanWord f, natWord (boolNat clear)] 1) = f from fanOfWord_fanWord f]
    rfl
  cases clear with
  | false =>
    have a := h.answer posted good held (routed _ rfl) (by simp)
    obtain ⟨_, time, lens, cooling, news⟩ := a.keeps.blocks
    exact ⟨_, rfl, a.handsOver, a.ends, fun _ => ⟨lens, cooling, news⟩, nofun, nofun, cooling.2.2, lens.2.1, time, a.mesh⟩
  | true =>
    have flag : ¬ bodyWord [fanWord f, natWord (boolNat true)] 2 = 0 := (by decide : ¬ natWord (boolNat true) = 0)
    by_cases failed : (s.fan f).st = .failed
    · have e := routed ((s.taken .fanReport p).clearedFan f) (by rw [if_neg flag, if_pos failed])
      have same := State.CoolingOnly.same
        ((State.drawFan_cooling _ _ _).trans (State.updateOverall_cooling _ _) :
          (s.taken .fanReport p).CoolingOnly ((s.taken .fanReport p).clearedFan f))
      have a := h.answer posted good (held.of_cooling same) e (by simp)
      obtain ⟨_, ⟨clock, pins, hold⟩, ⟨_, placement, _⟩, ⟨fans, thermal, power⟩, _⟩ := a.keeps.blocks
      obtain ⟨retries, kicks⟩ := (s.taken .fanReport p).clearedFan_fan f
      refine ⟨_, rfl, a.handsOver, a.ends, nofun, fun _ q => absurd failed q, fun _ _ => ⟨?_, fun running mode => ?_, ?_⟩,
        power.trans same.power, placement.trans same.placement, ⟨clock.trans same.clock, pins.trans same.pins, hold.trans same.hold⟩,
        a.mesh.trans same.mesh⟩
      · rw [State.fan_congr fans]
        exact retries
      · rw [State.fan_congr fans]
        exact kicks running mode
      · rw [thermal, fans]
        exact State.clearedFan_overall _ f
    · have e := routed ((s.taken .fanReport p).setFan f { s.fan f with retries := 0 }) (by rw [if_neg flag, if_neg failed])
      have holds : s.Holds ((s.taken .fanReport p).setFan f { s.fan f with retries := 0 }) .fanReport p := ⟨rfl, rfl, rfl, rfl, rfl⟩
      have a := h.answer posted good holds e (by simp)
      obtain ⟨_, time, lens, ⟨fans, thermal, power⟩, news⟩ := a.keeps.blocks
      refine ⟨_, rfl, a.handsOver, a.ends, nofun, fun _ _ => ⟨?_, fun g other => ?_, lens, thermal, news⟩, fun _ q => absurd q failed,
        power, lens.2.1, time, a.mesh⟩
      · exact (State.fan_congr fans f).trans (State.fan_setFan_self _ _ _)
      · exact (State.fan_congr fans g).trans (State.fan_setFan_other _ _ _ _ other)

end Sys2Proof.Machine
end

section
/-! SUPPORT for O29. The duty of a curve (R108), and the request that replaces one (R110). -/

namespace Sys2Proof.Machine

/-! ### The duty of a curve (R108) -/

/-- Rising breakpoints rise from each one to every later one. -/
theorem risingPoints_pairwise {l : List (Int × Nat)} (h : risingPoints l = true) : l.Pairwise (fun p q => p.1 < q.1) := by
  induction l with
  | nil => exact .nil
  | cons p l ih =>
    cases l with
    | nil => exact List.pairwise_singleton _ _
    | cons q rest =>
      simp only [risingPoints, Bool.and_eq_true, decide_eq_true_eq] at h
      obtain ⟨first, rises⟩ := h
      have later := ih rises
      refine List.pairwise_cons.mpr ⟨fun r mem => ?_, later⟩
      rcases List.mem_cons.mp mem with rfl | mem
      · exact first
      · exact Int.lt_trans first ((List.pairwise_cons.mp later).1 r mem)

theorem curveAt_first {q : Int × Nat} {rest : List (Int × Nat)} {t : Int} (h : t ≤ q.1) : curveAt (q :: rest) t = q.2 := by
  cases rest with
  | nil => rfl
  | cons r rest => rw [curveAt, if_pos h]

/-- From a breakpoint's temperature on, the breakpoints before it do not count. -/
theorem curveAt_skip {front l : List (Int × Nat)} {q : Int × Nat} {t : Int}
    (rises : (front ++ q :: l).Pairwise (fun p q => p.1 < q.1)) (h : q.1 ≤ t) : curveAt (front ++ q :: l) t = curveAt (q :: l) t := by
  induction front with
  | nil => rfl
  | cons p front ih =>
    rw [List.cons_append] at rises ⊢
    obtain ⟨first, later⟩ := List.pairwise_cons.mp rises
    have next : ∃ r rest, front ++ q :: l = r :: rest ∧ r.1 ≤ t := by
      cases front with
      | nil => exact ⟨q, l, rfl, h⟩
      | cons r front =>
        refine ⟨r, front ++ q :: l, rfl, Int.le_trans (Int.le_of_lt ?_) h⟩
        exact (List.pairwise_cons.mp later).1 q (by simp)
    obtain ⟨r, rest, shape, below⟩ := next
    have rising := first r (by rw [shape]; simp)
    have apart : curveAt (p :: (front ++ q :: l)) t = curveAt (front ++ q :: l) t := by
      rw [shape, curveAt, if_neg (by omega), if_neg (by omega)]
    rw [apart, ih later]

/-- What a duty at a temperature between two breakpoints is (R108): between their duties, and their line rounded. -/
def Between (q r : Int × Nat) (t : Int) (v : Nat) : Prop :=
  min q.2 r.2 ≤ v ∧ v ≤ max q.2 r.2
    ∧ (2 * (v : Int) - 1) * (r.1 - q.1) ≤ 2 * (q.2 * (r.1 - q.1) + (r.2 - q.2) * (t - q.1))
    ∧ 2 * (q.2 * (r.1 - q.1) + (r.2 - q.2) * (t - q.1)) < (2 * (v : Int) + 1) * (r.1 - q.1)

theorem interpolate_between {q r : Int × Nat} {t : Int} (rises : q.1 < r.1) (low : q.1 ≤ t) (high : t ≤ r.1) :
    Between q r t (interpolate q r t) := by
  obtain ⟨den, hden⟩ : ∃ d, d = r.1 - q.1 := ⟨_, rfl⟩
  obtain ⟨x, hx⟩ : ∃ x, x = t - q.1 := ⟨_, rfl⟩
  obtain ⟨num, hnum⟩ : ∃ n : Int, n = (q.2 : Int) * den + ((r.2 : Int) - q.2) * x := ⟨_, rfl⟩
  have positive : 0 < den := by omega
  have below : 0 ≤ x := by omega
  have above : x ≤ den := by omega
  have least : ((min q.2 r.2 : Nat) : Int) * den ≤ num := by
    rw [hnum]
    rcases Nat.le_total q.2 r.2 with le | le
    · rw [Nat.min_eq_left le]
      nlinarith
    · rw [Nat.min_eq_right le]
      nlinarith
  have most : num ≤ ((max q.2 r.2 : Nat) : Int) * den := by
    rw [hnum]
    rcases Nat.le_total q.2 r.2 with le | le
    · rw [Nat.max_eq_right le]
      nlinarith
    · rw [Nat.max_eq_left le]
      nlinarith
  have value : interpolate q r t = ((2 * num + den) / (2 * den)).toNat := by rw [hnum, hden, hx]; rfl
  obtain ⟨v, hv⟩ : ∃ v : Int, v = (2 * num + den) / (2 * den) := ⟨_, rfl⟩
  have floor : v * (2 * den) ≤ 2 * num + den := hv ▸ Int.ediv_mul_le _ (by omega)
  have ceil : 2 * num + den < (v + 1) * (2 * den) := hv ▸ Int.lt_ediv_add_one_mul_self _ (by omega)
  have atLeast : ((min q.2 r.2 : Nat) : Int) ≤ v := by nlinarith
  have atMost : v ≤ ((max q.2 r.2 : Nat) : Int) := by nlinarith
  have cast : ((interpolate q r t : Nat) : Int) = v := by rw [value, ← hv]; omega
  unfold Between
  rw [← hden, ← hx, ← hnum, cast]
  refine ⟨by omega, by omega, ?_, ?_⟩
  · nlinarith
  · nlinarith

/-- Between two neighbouring breakpoints the curve follows their line (R108). -/
theorem curveAt_between {q r : Int × Nat} {rest : List (Int × Nat)} {t : Int} (rises : q.1 < r.1) (low : q.1 ≤ t)
    (high : t ≤ r.1) : Between q r t (curveAt (q :: r :: rest) t) := by
  rw [curveAt]
  split
  · next start =>
    have same : t = q.1 := by omega
    subst same
    refine ⟨Nat.min_le_left _ _, Nat.le_max_left _ _, ?_, ?_⟩
    · simp only [Int.sub_self, Int.mul_zero]
      nlinarith
    · simp only [Int.sub_self, Int.mul_zero]
      nlinarith
  · split
    · exact interpolate_between rises low high
    · have same : t = r.1 := by omega
      subst same
      rw [curveAt_first (Int.le_refl _)]
      refine ⟨Nat.min_le_right _ _, Nat.le_max_right _ _, ?_, ?_⟩
      · nlinarith
      · nlinarith

/-- The four rules of a curve's duty (R108). -/
theorem curveAt_rules {pts : List (Int × Nat)} (rising : risingPoints pts = true) :
    (∀ q rest t, pts = q :: rest → t ≤ q.1 → curveAt pts t = q.2)
      ∧ (∀ q front t, pts = front ++ [q] → q.1 ≤ t → curveAt pts t = q.2)
      ∧ (∀ q ∈ pts, curveAt pts q.1 = q.2)
      ∧ ∀ front q r rest t, pts = front ++ q :: r :: rest → q.1 ≤ t → t ≤ r.1 → Between q r t (curveAt pts t) := by
  have rises := risingPoints_pairwise rising
  refine ⟨fun q rest t shape below => ?_, fun q front t shape above => ?_, fun q mem => ?_, fun front q r rest t shape low high => ?_⟩
  · rw [shape]
    exact curveAt_first below
  · rw [shape] at rises ⊢
    exact curveAt_skip rises above
  · obtain ⟨front, rest, shape⟩ := List.append_of_mem mem
    rw [shape] at rises ⊢
    rw [curveAt_skip rises (Int.le_refl _)]
    exact curveAt_first (Int.le_refl _)
  · rw [shape] at rises ⊢
    rw [curveAt_skip rises low]
    have tail := (List.pairwise_append.mp rises).2.1
    exact curveAt_between ((List.pairwise_cons.mp tail).1 r (by simp)) low high

/-! ### FAN_CURVE (R110) -/

/-- A taken FAN_CURVE with the curve of the named set and fan replaced. -/
def State.withCurve (s : State) (o : Orientation) (f : FanId) (c : Curve) : State := { s with thermal := s.thermal.setCurve o f c }

/-- In the set in force the curve demand is formed anew from the channel's last valid reading (R110). -/
def State.curveInForce (s : State) (f : FanId) (c : Curve) : State :=
  (s.setFan f { s.fan f with
    curve := if (s.channel c.channel).seen then curveAt c.points (s.channel c.channel).reading else 0 }).refreshFans

/-- A taken FAN_CURVE before its answer. -/
def State.curveTaken (s : State) (o : Orientation) (f : FanId) (c : Curve) : State :=
  if o = s.placement.orientation then (s.withCurve o f c).curveInForce f c else s.withCurve o f c

/-- The curve that the words of a FAN_CURVE name (12.4). -/
def curveOfWords (c : ChannelId) (points : List Word) : Curve :=
  { channel := c, points := points.map (fun w => ((w.setWidth 16).toInt, (w.extractLsb' 16 16).toNat)) }

theorem State.takeFanCurve_eq (s : State) (k : SlotId) (o : Orientation) (f : FanId) (c : ChannelId) (points : List Word) :
    s.takeFanCurve k (orientationWord o :: fanWord f :: channelIdWord c :: natWord points.length :: points)
      = (s.curveTaken o f (curveOfWords c points)).complete k doneOk
          [natWord ((s.curveTaken o f (curveOfWords c points)).fan f).curve] := by
  unfold State.takeFanCurve
  dsimp only [bodyWord, curvePoints]
  simp only [List.getD_cons_zero, List.getD_cons_succ, Nat.sub_self, Nat.reduceSub, List.drop_succ_cons, List.drop_zero,
    orientationOfWord_orientationWord, fanOfWord_fanWord, channelOfWord_channelIdWord]
  rfl

theorem Thermal.curves_setCurve (t : Thermal) (o : Orientation) (f : FanId) (c : Curve) :
    ((t.setCurve o f c).curves o).get f = c ∧ (t.setCurve o f c).channels = t.channels ∧ (t.setCurve o f c).overall = t.overall := by
  cases o <;> cases f <;> exact ⟨rfl, rfl, rfl⟩

theorem State.curveTaken_only (s : State) (o : Orientation) (f : FanId) (c : Curve) : FansOnly (s.withCurve o f c) (s.curveTaken o f c) := by
  unfold State.curveTaken
  split
  · exact (State.setFan_only _ _ _).trans (State.refreshFans_only _)
  · exact ⟨rfl, rfl, rfl, rfl, rfl, rfl, rfl, rfl, .refl _, .refl _⟩

/-- A fan whose curve in force was replaced (R110, R83). -/
theorem State.curveInForce_fan (s : State) (f : FanId) (c : Curve) :
    ((s.curveInForce f c).fan f).curve
        = (if (s.channel c.channel).seen then curveAt c.points (s.channel c.channel).reading else 0)
      ∧ (s.power.mode ≠ .standby →
          ((s.curveInForce f c).fan f).demand ≤ ((s.curveInForce f c).fan f).commanded
            ∧ ((s.curveInForce f c).fan f).commanded = max (s.fan f).commanded ((s.curveInForce f c).fan f).demand) := by
  obtain ⟨demand, commanded, _, curve⟩ := State.refreshFans_commanded (s.setFan f { s.fan f with
    curve := if (s.channel c.channel).seen then curveAt c.points (s.channel c.channel).reading else 0 }) f
  rw [State.fan_setFan_self] at commanded curve
  refine ⟨curve, fun mode => ?_⟩
  rw [if_neg (show ¬ (s.setFan f _).power.mode = .standby from mode)] at commanded
  unfold State.curveInForce
  rw [commanded, demand]
  exact ⟨Nat.le_max_right _ _, rfl⟩

/-- Settles O29: the curve of the named set and fan is replaced, and the rules of a curve's duty. -/
theorem fanCurves : Obligations.FanCurves := by
  refine ⟨fun s p o f c points h posted values => ?_, fun pts _ rising => curveAt_rules rising⟩
  have few : (natWord points.length).toNat = points.length := by
    have short := posted.len
    have fits := p.len.isLt
    simp only [List.length_cons] at short
    rw [natWord, BitVec.toNat_ofNat]
    omega
  have good : postCheck .fanCurve false (orientationWord o :: fanWord f :: channelIdWord c :: natWord points.length :: points) = none :=
    postCheck_none (by simp [lengthOk, bodyWord, few]; omega) values
  have only := (s.taken .fanCurve p).curveTaken_only o f (curveOfWords c points)
  have a := h.answer_fans (u := (s.taken .fanCurve p).withCurve o f (curveOfWords c points)) posted good ⟨rfl, rfl, rfl, rfl, rfl⟩ only
    ((s.taken .fanCurve p).takeFanCurve_eq p.slot o f c points) (by simp)
  obtain ⟨curve, channels, overall⟩ := s.thermal.curves_setCurve o f (curveOfWords c points)
  have thermal : (s.postRow Kind.fanCurve.number p false).thermal = s.thermal.setCurve o f (curveOfWords c points) := a.thermal
  have fan := State.fan_congr a.fans f
  refine ⟨_, rfl, a.handsOver, by rw [thermal]; exact curve, by rw [thermal]; exact channels, by rw [thermal]; exact overall,
    fun other => ?_, fun inForce => ?_, a.placement, a.power, a.axes, a.time, a.mesh, a.news⟩
  · have same : (s.taken .fanCurve p).curveTaken o f (curveOfWords c points)
        = (s.taken .fanCurve p).withCurve o f (curveOfWords c points) := if_neg other
    have ends := a.ends
    rw [same] at ends
    exact ⟨a.fans.trans (by rw [same]; rfl), ends⟩
  · have same : (s.taken .fanCurve p).curveTaken o f (curveOfWords c points)
        = ((s.taken .fanCurve p).withCurve o f (curveOfWords c points)).curveInForce f (curveOfWords c points) := if_pos inForce
    obtain ⟨formed, follows⟩ :=
      ((s.taken .fanCurve p).withCurve o f (curveOfWords c points)).curveInForce_fan f (curveOfWords c points)
    have ends := a.ends
    rw [same] at fan ends
    rw [fan]
    refine ⟨?_, follows, ends⟩
    rw [formed, thermal, curve]
    have channel : ((s.taken .fanCurve p).withCurve o f (curveOfWords c points)).channel (curveOfWords c points).channel
        = s.channel c := congrArg (fun x => PerChannel.get x c) channels
    rw [channel]

end Sys2Proof.Machine
end

section
/-! SUPPORT for O19 to O24. Requests that stay with their holder, or end with several completions, out of a ready state; what the
starts of moves and the changes of holders leave alone (R40, R42, R43, R54, R120). -/

namespace Sys2Proof.Machine

/-! ### Settling with nothing to claim, and with bodies to write -/

/-- A state out of which a ready part has taken a post: the blocks that no request works on are as after the post. -/
theorem State.Ready.takenPath {s x : State} {kind : Kind} {p : Post} (h : s.Ready) (outer : x.outer = (s.taken kind p).outer) :
    x.hold = .running ∧ x.path.port = none ∧ x.path.selPending = false ∧ x.path.buffer = [] ∧ x.path.host = none
      ∧ x.mem = (s.taken kind p).mem ∧ s.SameTime x := by
  obtain ⟨_, _, clock, hold, pins, mem, path, _⟩ := (State.outer_iff _ _).mp outer
  rw [path]
  exact ⟨hold.trans h.running, h.port, h.selPending, h.buffer, h.host, mem, clock, pins, hold⟩

theorem State.Ready.noEvent {s x : State} (h : s.Ready) (events : x.events = s.events) : x.eventClaim = none := by
  rw [State.eventClaim_none_iff, events]
  exact s.eventClaim_none_iff.mp (h.toQuiet.noClaims h.buffer).2.1

theorem State.Ready.noMesh {s x : State} (h : s.Ready) (mesh : x.mesh = s.mesh) : x.meshClaim = none :=
  State.meshClaim_none_congr s x mesh (h.toQuiet.noClaims h.buffer).2.2

/-- Nothing is claimed or granted after a post that ends no request and has nothing sent to memory. -/
theorem State.Ready.settle_idle {s x : State} {kind : Kind} {p : Post} (h : s.Ready) (outer : x.outer = (s.taken kind p).outer)
    (queue : x.slots.queue = []) (noEvent : x.eventClaim = none) (noMesh : x.meshClaim = none) : x.settle = x := by
  obtain ⟨run, _, selector, buffer, host, _⟩ := h.takenPath outer
  refine State.settle_still x ((State.nextAction_none_iff run).mpr ⟨?_, x.nextGrant_none_iff.mpr (.inr ⟨selector, buffer, host⟩)⟩)
  exact x.nextClaim_none_iff.mpr (.inr ⟨x.slotClaim_none_of_queue queue, noEvent, noMesh⟩)

/-- The completion at the head has a body, none of which has left the buffer: what one state shares with another then. -/
structure State.HeadWaits (s t : State) : Prop where
  queue : t.slots.queue = s.slots.queue
  view : ∀ k, t.view k = s.view k
  inBuffer : t.slots.writer.inBuffer = t.slots.writer.queued
  quiet : t.HostQuiet

theorem State.HeadWaits.of_slots {s t u : State} (w : s.HeadWaits t) (slots : u.slots = t.slots) (quiet : u.HostQuiet) :
    s.HeadWaits u :=
  ⟨by rw [slots]; exact w.queue, fun k => (State.view_congr slots k).trans (w.view k), by rw [slots]; exact w.inBuffer, quiet⟩

/-- The slot unit queues the head's next word, and holds the header back (R165). -/
theorem State.HeadWaits.slotClaim {s t u : State} {c : Completion} {rest : List Completion} (w : s.HeadWaits t)
    (head : s.slots.queue = c :: rest) (nonempty : c.body ≠ []) (quiet : u.HostQuiet) (e : t.slotClaim = some u) :
    s.HeadWaits u := by
  unfold State.slotClaim at e
  rw [w.queue, head] at e
  dsimp only at e
  split at e
  · cases e
    refine ⟨(congrArg SlotUnit.queue (State.queueSlotWord_slots _ _ _ _ _)).trans w.queue, fun k => ?_, ?_, quiet⟩
    · exact ((State.view_congr (State.queueSlotWord_slots _ _ _ _ _) k).trans (State.view_setShadow _ _ _ _ _)).trans (w.view k)
    · exact congrArg (· + 1) w.inBuffer
  · next whole =>
    have positive := List.length_pos_iff.mpr nonempty
    rw [if_neg (fun q => by have := w.inBuffer; omega)] at e
    cases e

/-- Settling leaves the completion queue and every view alone while the head's body is written (R165). -/
theorem State.settle_headWaits {s : State} {c : Completion} {rest : List Completion} (head : s.slots.queue = c :: rest)
    (nonempty : c.body ≠ []) (writer : s.slots.writer = Initial.progress) (quiet : s.HostQuiet) : s.HeadWaits s.settle := by
  refine State.settle_induct (P := s.HeadWaits) (fun u v w e => ?_) ⟨rfl, fun _ => rfl, by rw [writer]; rfl, quiet⟩
  have quiet' := (u.nextAction_keeps v w.quiet e).2
  rcases u.nextAction_cases v e with claim | ⟨_, grant⟩
  · rcases u.nextClaim_cases v claim with c | ⟨_, c | c⟩
    · exact w.slotClaim head nonempty quiet' c
    · exact w.of_slots (u.eventClaim_slots v c) quiet'
    · exact w.of_slots (u.meshClaim_slots v c) quiet'
  · exact w.of_slots (u.nextGrant_quiet v w.quiet grant).slots quiet'

/-! ### What lens functions leave alone -/

/-- Axes, placement and supply budget alone differ. -/
def State.LensOnly (s t : State) : Prop := t = { s with axes := t.axes, placement := t.placement, budget := t.budget }

theorem State.LensOnly.refl (s : State) : s.LensOnly s := rfl

theorem State.LensOnly.trans {s t u : State} (a : s.LensOnly t) (b : t.LensOnly u) : s.LensOnly u := by
  unfold State.LensOnly at *
  rw [b, a]

theorem State.LensOnly.ite {s t u : State} {c : Prop} [Decidable c] (a : s.LensOnly t) (b : s.LensOnly u) :
    s.LensOnly (if c then t else u) := by split <;> assumption

theorem State.LensOnly.blocks {s t : State} (h : s.LensOnly t) :
    t.outer = s.outer ∧ t.slots = s.slots ∧ t.events = s.events ∧ t.notice = s.notice ∧ t.mesh = s.mesh ∧ s.SameCooling t := by
  unfold State.LensOnly at h
  rw [h]
  exact ⟨rfl, rfl, rfl, rfl, rfl, rfl, rfl, rfl⟩

theorem State.joinOrder_lens (s : State) (a : AxisId) (c : Class) : s.LensOnly (s.joinOrder a c) := rfl

theorem State.setAxis_lens (s : State) (a : AxisId) (x : Axis) : s.LensOnly (s.setAxis a x) := rfl

theorem State.detach_lens (s : State) : s.LensOnly s.detach := .ite rfl rfl

theorem State.stopCause_lens (s : State) (a : AxisId) (c : ResCode) : s.LensOnly (s.stopCause a c) := .ite rfl rfl

/-! ### Changes of holder -/

/-- Slots alone differ. -/
theorem State.setHolder_eq (s : State) (k : SlotId) (g : Holder) :
    s.setHolder k g = { s with slots := (s.setHolder k g).slots } := by
  unfold State.setHolder
  split <;> rfl

theorem State.complete_eq (s : State) (k : SlotId) (r : Result) (body : List Word) :
    s.complete k r body = { s with slots := (s.complete k r body).slots } := by
  unfold State.complete
  rw [s.setHolder_eq]

/-! ### A request that stays with its holder -/

/-- A post has been taken and its request is with a holder; no completion has been made, and only the lens may differ. -/
structure State.HeldOn (s t : State) (kind : Kind) (p : Post) (g : Holder) : Prop where
  handsOver : s.HandsOver t kind p
  view : t.view p.slot = .part kind.number p.tag false g
  queue : t.slots.queue = []
  time : s.SameTime t
  cooling : s.SameCooling t
  mesh : s.SameMesh t
  news : s.SameNews t

/-- The taken post once its request is with a holder. -/
def State.heldBy (s : State) (kind : Kind) (p : Post) (g : Holder) : State := (s.taken kind p).setHolder p.slot g

theorem State.Ready.handsOver {s t : State} {kind : Kind} {p : Post} (h : s.Ready) (mem : t.mem = (s.taken kind p).mem) :
    s.HandsOver t kind p := by
  refine ⟨?_, fun a out => ?_⟩
  · rw [mem]
    exact Memory.readWord_writeWord _ _ _ h.canonical
  · rw [mem]
    exact Memory.get_writeWord_outside s.mem _ _ (postHeader kind.number p) 0xF out

theorem State.heldBy_eq (s : State) (kind : Kind) (p : Post) (g : Holder) :
    s.heldBy kind p g = { s.taken kind p with slots := (s.heldBy kind p g).slots } := State.setHolder_eq _ _ _

theorem State.view_heldBy (s : State) (kind : Kind) (p : Post) (g : Holder) :
    (s.heldBy kind p g).view p.slot = .part kind.number p.tag false g :=
  State.view_setHolder_self g (State.view_setView_self _ _ _)

/-- The whole of a request whose unit starts it and keeps it: the unit's own change of the taken post is the end state. -/
theorem State.Ready.held {s x : State} {p : Post} {body : List Word} {kind : Kind} {g : Holder} (h : s.Ready)
    (posted : s.Posted p body) (good : postCheck kind false body = none)
    (routes : (s.taken kind p).route p.slot kind body = x) (lens : (s.heldBy kind p g).LensOnly x) :
    s.postRow kind.number p false = x ∧ s.HeldOn x kind p g := by
  obtain ⟨outer, slots, events, notice, mesh, cooling⟩ := lens.blocks
  have taken := s.heldBy_eq kind p g
  have outer' : x.outer = (s.taken kind p).outer := outer.trans (by rw [taken]; rfl)
  have events' : x.events = s.events := events.trans (by rw [taken]; rfl)
  have notice' : x.notice = s.notice := notice.trans (by rw [taken]; rfl)
  have mesh' : x.mesh = s.mesh := mesh.trans (by rw [taken]; rfl)
  have queue : x.slots.queue = [] := by
    rw [slots]
    exact (State.setHolder_queue _ _ _).trans h.queue
  obtain ⟨_, _, _, _, _, mem, time⟩ := h.takenPath outer'
  refine ⟨?_, h.handsOver mem, (State.view_congr slots _).trans (s.view_heldBy kind p g), queue, time, ?_, mesh', notice', ?_⟩
  · rw [State.postRow_routed kind h posted good, routes]
    exact h.settle_idle outer' queue (h.noEvent events') (h.noMesh mesh')
  · obtain ⟨fans, thermal, power⟩ := cooling
    exact ⟨fans.trans (by rw [taken]; rfl), thermal.trans (by rw [taken]; rfl), power.trans (by rw [taken]; rfl)⟩
  · rw [events']
    exact ⟨rfl, rfl, rfl, rfl⟩

end Sys2Proof.Machine
end

section
/-! SUPPORT for O19, O20 and O21. The starts of homes and direct moves, and the direct requests that wait or are refused (R25, R40,
R42, R43, R120). -/

namespace Sys2Proof.Machine

/-! ### Starting a move (R43, R120) -/

theorem Axis.SameButDrive.eq {x y : Axis} (h : x.SameButDrive y) : y = { x with drive := y.drive, lastDuty := y.lastDuty } := by
  unfold Axis.SameButDrive at h
  rw [← h]

theorem State.axis_rebudget (s : State) (b : AxisId) : (s.axis b).SameButDrive (s.rebudget.axis b) := by
  cases b
  · exact s.rebudget_axes.1
  · exact s.rebudget_axes.2

theorem otherAxis_ne (a : AxisId) : otherAxis a ≠ a := by cases a <;> decide

/-- An axis takes a move's record and joins the budget order (R43, R120). -/
def State.launch (s : State) (a : AxisId) (y : Axis) (c : Machine.Class) : State := (s.setAxis a y).joinOrder a c

/-- A change of the budget order may lower the drives, and changes nothing else of an axis (R123). -/
theorem State.axis_joinOrder (s : State) (a : AxisId) (c : Machine.Class) (b : AxisId) :
    (s.axis b).SameButDrive ((s.joinOrder a c).axis b) :=
  State.axis_rebudget { s with
    budget := { s.budget with
      order := s.budget.order.filter (fun b => decide (b ≠ a)) ++ [a]
      desire := s.budget.desire.set a c } } b

theorem State.launch_axis (s : State) (a : AxisId) (y : Axis) (c : Machine.Class) : y.SameButDrive ((s.launch a y c).axis a) := by
  have same := (s.setAxis a y).axis_joinOrder a c a
  rwa [State.axis_setAxis_self] at same

theorem State.launch_other (s : State) (a : AxisId) (y : Axis) (c : Machine.Class) :
    (s.axis (otherAxis a)).SameButDrive ((s.launch a y c).axis (otherAxis a)) := by
  have same := (s.setAxis a y).axis_joinOrder a c (otherAxis a)
  rwa [State.axis_setAxis_other _ _ _ _ (otherAxis_ne a)] at same

theorem State.launch_lens (s : State) (a : AxisId) (y : Axis) (c : Machine.Class) : s.LensOnly (s.launch a y c).detach :=
  (show s.LensOnly (s.launch a y c) from rfl).trans (State.detach_lens _)

theorem State.detach_axes (s : State) : s.detach.axes = s.axes := by unfold State.detach; split <;> rfl

theorem State.detach_budget (s : State) : s.detach.budget = s.budget := by unfold State.detach; split <;> rfl

/-- A settled or failed placement is detached; a detached one is left alone (R13). -/
theorem State.detach_placement (s : State) :
    (s.placement.status = .settled ∨ s.placement.status = .failed → s.detach.placement.status = .detached)
      ∧ (s.placement.status = .detached → s.detach.placement = s.placement) := by
  unfold State.detach
  refine ⟨fun held => by rw [if_pos held], fun free => ?_⟩
  rw [if_neg (by rw [free]; decide)]

/-- An axis takes a move's record in place of its own, joins the budget order, and a settled placement is detached (R25, R43). -/
structure State.Launched (s t : State) (a : AxisId) (y : Axis) (c : Machine.Class) : Prop where
  axis : y.SameButDrive (t.axis a)
  other : (s.axis (otherAxis a)).SameButDrive (t.axis (otherAxis a))
  order : t.budget.order = s.budget.order.filter (fun b => decide (b ≠ a)) ++ [a]
  desire : t.budget.desire.get a = c
  detached : s.placement.status = .settled ∨ s.placement.status = .failed → t.placement.status = .detached
  kept : s.placement.status = .detached → t.placement = s.placement

theorem State.launched {s u : State} (axes : u.axes = s.axes) (budget : u.budget = s.budget) (placement : u.placement = s.placement)
    (a : AxisId) (y : Axis) (c : Machine.Class) : s.Launched (u.launch a y c).detach a y c := by
  have axis (b : AxisId) : (u.launch a y c).detach.axis b = (u.launch a y c).axis b :=
    congrArg (fun p : PerAxis Axis => p.get b) (State.detach_axes _)
  obtain ⟨detached, kept⟩ := (u.launch a y c).detach_placement
  rw [show (u.launch a y c).placement = s.placement from placement] at detached kept
  refine ⟨?_, ?_, ?_, ?_, detached, kept⟩
  · rw [axis]; exact u.launch_axis a y c
  · have other := u.launch_other a y c
    unfold State.axis at other ⊢
    rw [axes] at other
    rw [State.detach_axes]
    exact other
  · rw [State.detach_budget]
    show u.budget.order.filter _ ++ [a] = _
    rw [budget]
  · rw [State.detach_budget]
    exact PerAxis.get_set_self _ _ _

/-! ### The checks of a direct request (R42) -/

/-- With nothing in the way an axis at rest may home, and move to any target within its limits once it is homed (R42). -/
theorem State.startCheck_none {s : State} {a : AxisId} {r : DirectReq} (free : s.FreeToMove) (idle : (s.axis a).st = .idle)
    (within : ∀ x, s.directTarget a r = some x →
      (s.axis a).homed = true ∧ (s.axis a).cfg.limits.1 ≤ x ∧ x ≤ (s.axis a).cfg.limits.2) : s.startCheck a r = none := by
  unfold State.startCheck
  dsimp only
  rw [if_neg (fun q => q free.mode), if_neg (by simp [State.autonomous, free.host]), if_neg (by simp [free.interlock]),
    if_neg free.level, if_neg (by simp [idle])]
  cases e : s.directTarget a r with
  | none => rfl
  | some x =>
    obtain ⟨homed, low, high⟩ := within x e
    dsimp only
    rw [if_neg (by simp [homed]), if_pos (by simp [inRange, low, high])]

/-- A direct request that passes every check of an axis at rest starts (R40, R42). -/
theorem State.takeDirect_starts {s : State} {k : SlotId} {a : AxisId} {r : DirectReq} (free : s.placementHeld = false)
    (idle : (s.axis a).st = .idle) (check : s.startCheck a r = none) : s.takeDirect k a r = s.startDirect a k r := by
  unfold State.takeDirect State.present
  rw [if_neg (by simp [free]), if_pos (.inl idle), check]

/-! ### AXIS_HOME (O19) -/

/-- The axis at the start of a home (R25). -/
def Axis.homing (x : Axis) (k : SlotId) : Axis :=
  { x with
    st := .homing
    homed := false
    searchTimer := some Config.searchMs
    move := some (freshMove .home (some k) x.target .creep x.counter) }

theorem State.startHome_eq {s : State} {a : AxisId} {k : SlotId} (off : (s.axis a).indexCondition = false) :
    s.startHome a k = (s.launch a ((s.axis a).homing k) .creep).detach := by
  unfold State.startHome
  dsimp only
  rw [if_neg (by simp [off])]
  rfl

theorem State.heldBy_blocks (s : State) (kind : Kind) (p : Post) (g : Holder) :
    (s.heldBy kind p g).axes = s.axes ∧ (s.heldBy kind p g).budget = s.budget ∧ (s.heldBy kind p g).placement = s.placement := by
  rw [s.heldBy_eq]
  exact ⟨rfl, rfl, rfl⟩

/-- Settles O19: the checks pass, and the start is the axis's new record, its place in the budget order, and the detach. -/
theorem homeStarts : Obligations.HomeStarts := by
  intro s p a h posted free idle unheld off
  have good : postCheck .axisHome false [axisWord a] = none :=
    postCheck_none rfl (by cases a <;> rfl)
  obtain ⟨axes, budget, placement⟩ := s.heldBy_blocks .axisHome p (.axisRunning a)
  have axis : (s.heldBy .axisHome p (.axisRunning a)).axis a = s.axis a := congrArg (fun q : PerAxis Axis => q.get a) axes
  have check : (s.taken .axisHome p).startCheck a .home = none :=
    State.startCheck_none (s := s) (r := .home) free idle nofun
  have routes : (s.taken .axisHome p).route p.slot .axisHome [axisWord a]
      = ((s.heldBy .axisHome p (.axisRunning a)).launch a ((s.axis a).homing p.slot) .creep).detach := by
    show (s.taken .axisHome p).takeDirect p.slot (axisOfWord (axisWord a)) .home = _
    rw [axisOfWord_axisWord, State.takeDirect_starts (s := s.taken .axisHome p) unheld idle check, ← axis]
    exact State.startHome_eq (axis ▸ off)
  obtain ⟨row, t⟩ := h.held posted good routes (State.launch_lens _ _ _ _)
  have l := State.launched axes budget placement a ((s.axis a).homing p.slot) .creep
  have eq := l.axis.eq
  refine ⟨_, congrArg Host.Outcome.next row, t.handsOver, t.view, t.queue, ?_⟩
  rw [eq]
  exact ⟨rfl, rfl, rfl, rfl, ⟨_, rfl, ⟨rfl, rfl, rfl, rfl, rfl, rfl, rfl, rfl, rfl, rfl, rfl⟩, rfl⟩, l.order, l.desire, l.other,
    l.detached, l.kept, t.time, t.cooling, t.mesh, t.news⟩

/-! ### AXIS_MOVE_TO and AXIS_MOVE_BY (O20) -/

theorem classOfWord_limitWord {c : Machine.Class} (h : c ≠ .zero) : classOfWord (limitWord c) = c := by
  cases c with
  | zero => exact absurd rfl h
  | creep => rfl
  | near => rfl
  | far => rfl

theorem limitWord_le (c : Machine.Class) : (limitWord c).toNat ≤ 2 := by cases c <;> decide

theorem isFlag_axisWord (a : AxisId) : isFlag (axisWord a) = true := by cases a <;> rfl

/-- The axis at the start of a direct move (R43). -/
def Axis.moving (x : Axis) (k : SlotId) (target : Int) (limit : Machine.Class) : Axis :=
  { x with st := .moving, move := some (freshMove .directMove (some k) target limit x.counter), target := target }

/-- Settles O20: the checks pass, and the start is the axis's new record, its place in the budget order, and the detach. -/
theorem directMoveStarts : Obligations.DirectMoveStarts := by
  intro s p a w limit kind target h posted proper free which idle homed unheld low high
  have values : (isFlag (axisWord a) && decide ((limitWord limit).toNat ≤ 2)) = true := by
    simp [isFlag_axisWord, limitWord_le]
  obtain ⟨axes, budget, placement⟩ := s.heldBy_blocks kind p (.axisRunning a)
  have axis : (s.heldBy kind p (.axisRunning a)).axis a = s.axis a := congrArg (fun q : PerAxis Axis => q.get a) axes
  have check (r : DirectReq) (names : s.directTarget a r = some target) : (s.taken kind p).startCheck a r = none := by
    refine State.startCheck_none (s := s) free idle fun x e => ?_
    rw [names, Option.some.injEq] at e
    exact ⟨homed, e ▸ low, e ▸ high⟩
  have start (r : DirectReq) (names : s.directTarget a r = some target)
      (starts : (s.taken kind p).startDirect a p.slot r = (s.taken kind p).startDirectMove a p.slot target limit) :
      (s.taken kind p).takeDirect p.slot a r
        = ((s.heldBy kind p (.axisRunning a)).launch a ((s.axis a).moving p.slot target limit) .zero).detach := by
    rw [State.takeDirect_starts (s := s.taken kind p) unheld idle (check r names), starts, ← axis]
    rfl
  have run : exec (requestRow kind p) s = .next (s.postRow kind.number p false)
      ∧ postCheck kind false [axisWord a, w, limitWord limit] = none
      ∧ (s.taken kind p).route p.slot kind [axisWord a, w, limitWord limit]
        = ((s.heldBy kind p (.axisRunning a)).launch a ((s.axis a).moving p.slot target limit) .zero).detach := by
    rcases which with ⟨rfl, rfl⟩ | ⟨rfl, rfl⟩
    · refine ⟨rfl, postCheck_none rfl values, ?_⟩
      show (s.taken .axisMoveTo p).takeDirect p.slot (axisOfWord (axisWord a)) (.moveTo w.toInt (classOfWord (limitWord limit))) = _
      rw [axisOfWord_axisWord, classOfWord_limitWord proper]
      exact start _ rfl rfl
    · refine ⟨rfl, postCheck_none rfl values, ?_⟩
      show (s.taken .axisMoveBy p).takeDirect p.slot (axisOfWord (axisWord a)) (.moveBy w.toInt (classOfWord (limitWord limit))) = _
      rw [axisOfWord_axisWord, classOfWord_limitWord proper]
      exact start _ rfl rfl
  obtain ⟨row, good, routes⟩ := run
  obtain ⟨ends, t⟩ := h.held posted good routes (State.launch_lens _ _ _ _)
  have l := State.launched axes budget placement a ((s.axis a).moving p.slot target limit) .zero
  have eq := l.axis.eq
  refine ⟨_, row.trans (congrArg Host.Outcome.next ends), t.handsOver, t.view, t.queue, ?_⟩
  rw [eq]
  exact ⟨rfl, rfl, rfl, homed, ⟨_, rfl, rfl, rfl, rfl, rfl, rfl, rfl, rfl, rfl, rfl, rfl, rfl⟩, l.order, l.other,
    l.detached, l.kept, t.time, t.cooling, t.mesh, t.news⟩

/-! ### Direct requests that wait or are refused (O21) -/

/-- The code with which a direct request is refused at an axis at rest, in the order of the checks (R42). -/
theorem State.startCheck_refused {s : State} {a : AxisId} {r : DirectReq} {code : ResCode}
    (why : (s.power.mode ≠ .run ∧ code = .powerState)
      ∨ (s.power.mode = .run ∧ s.thermal.hb = .lost ∧ code = .hostLost)
      ∨ (s.power.mode = .run ∧ s.thermal.hb ≠ .lost ∧ s.pins.interlock = true ∧ code = .interlocked)
      ∨ (s.power.mode = .run ∧ s.thermal.hb ≠ .lost ∧ s.pins.interlock = false ∧ s.thermal.overall = .critical
          ∧ code = .thermalBlock)
      ∨ (s.FreeToMove ∧ (s.axis a).st = .fault ∧ code = .axisFaulted)
      ∨ (s.FreeToMove ∧ (s.axis a).st = .idle ∧ s.directTarget a r ≠ none ∧ (s.axis a).homed = false ∧ code = .notHomed)
      ∨ (s.FreeToMove ∧ (s.axis a).st = .idle ∧ (s.axis a).homed = true ∧ code = .outOfRange
          ∧ ∃ x, s.directTarget a r = some x ∧ (x < (s.axis a).cfg.limits.1 ∨ (s.axis a).cfg.limits.2 < x))) :
    s.startCheck a r = some code := by
  unfold State.startCheck State.autonomous
  rcases why with ⟨mode, rfl⟩ | ⟨mode, host, rfl⟩ | ⟨mode, host, lock, rfl⟩ | ⟨mode, host, lock, level, rfl⟩
    | ⟨⟨mode, host, lock, level⟩, fault, rfl⟩ | ⟨⟨mode, host, lock, level⟩, idle, target, homed, rfl⟩
    | ⟨⟨mode, host, lock, level⟩, idle, homed, rfl, x, target, out⟩
  · simp [mode]
  · simp [mode, host]
  · simp [mode, host, lock]
  · simp [mode, host, lock, level]
  · simp [mode, host, lock, level, fault]
  · obtain ⟨x, target⟩ := Option.ne_none_iff_exists'.mp target
    simp [mode, host, lock, level, idle, target, homed]
  · have outside : inRange (s.axis a).cfg.limits.1 (s.axis a).cfg.limits.2 x = false := by
      simp only [inRange, Bool.and_eq_false_iff, decide_eq_false_iff_not]
      omega
    simp [mode, host, lock, level, idle, target, homed, outside]

/-- A request joins the axis queue. -/
def Axis.withQueued (x : Axis) (k : SlotId) (r : DirectReq) : Axis := { x with queue := x.queue ++ [{ slot := k, req := r }] }

/-- Settles O21: the request of a moving axis joins its queue; the others end with the position, in the order of the checks. -/
theorem directRequestWaitsOrIsRefused : Obligations.DirectRequestWaitsOrIsRefused := by
  intro s p a kind w limit body req target h posted proper which
  have run : exec (requestRow kind p) s = .next (s.postRow kind.number p false) ∧ postCheck kind false body = none
      ∧ (s.taken kind p).route p.slot kind body = (s.taken kind p).takeDirect p.slot a req ∧ s.directTarget a req = target := by
    have values : (isFlag (axisWord a) && decide ((limitWord limit).toNat ≤ 2)) = true := by
      simp [isFlag_axisWord, limitWord_le]
    rcases which with ⟨rfl, rfl, rfl, rfl⟩ | ⟨rfl, rfl, rfl, rfl⟩ | ⟨rfl, rfl, rfl, rfl⟩
    · refine ⟨rfl, postCheck_none rfl (isFlag_axisWord a), ?_, rfl⟩
      show (s.taken .axisHome p).takeDirect p.slot (axisOfWord (axisWord a)) .home = _
      rw [axisOfWord_axisWord]
    · refine ⟨rfl, postCheck_none rfl values, ?_, rfl⟩
      show (s.taken .axisMoveTo p).takeDirect p.slot (axisOfWord (axisWord a)) (.moveTo w.toInt (classOfWord (limitWord limit))) = _
      rw [axisOfWord_axisWord, classOfWord_limitWord proper]
    · refine ⟨rfl, postCheck_none rfl values, ?_, rfl⟩
      show (s.taken .axisMoveBy p).takeDirect p.slot (axisOfWord (axisWord a)) (.moveBy w.toInt (classOfWord (limitWord limit))) = _
      rw [axisOfWord_axisWord, classOfWord_limitWord proper]
  obtain ⟨row, good, routed, names⟩ := run
  refine ⟨fun unheld moving sound => ?_, fun code why => ?_⟩
  · obtain ⟨axes, budget, placement⟩ := s.heldBy_blocks kind p (.axisQueue a)
    have joins : (s.taken kind p).takeDirect p.slot a req
        = (s.heldBy kind p (.axisQueue a)).setAxis a ((s.axis a).withQueued p.slot req) := by
      unfold State.takeDirect
      rw [if_neg (by rw [show (s.taken kind p).placementHeld = s.placementHeld from rfl, unheld]; decide),
        if_neg (fun q => q.elim moving sound)]
      show ((s.taken kind p).setAxis a _).setHolder p.slot _ = ((s.taken kind p).setHolder p.slot _).setAxis a _
      unfold State.setHolder
      rw [show ((s.taken kind p).setAxis a _).view p.slot = (s.taken kind p).view p.slot from rfl,
        show (s.taken kind p).view p.slot = _ from State.view_setView_self _ _ _]
      rfl
    obtain ⟨ends, t⟩ := h.held posted good (routed.trans joins) (State.setAxis_lens _ _ _)
    refine ⟨_, row.trans (congrArg Host.Outcome.next ends), t.handsOver, t.view, t.queue, ?_, ?_, placement, t.time, t.cooling,
      t.mesh, t.news⟩
    · exact State.axis_setAxis_self _ _ _
    · rw [State.axis_setAxis_other _ _ _ _ (otherAxis_ne a)]
      exact congrArg (fun q : PerAxis Axis => q.get (otherAxis a)) axes
  · have refuses : (s.taken kind p).takeDirect p.slot a req
        = (s.taken kind p).complete p.slot (refusedWith code) [(s.axis a).counter] := by
      unfold State.takeDirect
      rcases why with ⟨held, rfl⟩ | ⟨unheld, rest, why⟩
      · rw [if_pos (show (s.taken kind p).placementHeld = true from held)]
        rfl
      · have check : (s.taken kind p).startCheck a req = some code := by
          refine State.startCheck_refused (s := s) ?_
          rw [names]
          exact why
        rw [if_neg (by rw [show (s.taken kind p).placementHeld = s.placementHeld from rfl, unheld]; decide),
          if_pos (show ((s.taken kind p).axis a).st = .idle ∨ ((s.taken kind p).axis a).st = .fault from rest)]
        unfold State.present
        rw [check]
        rfl
    have t := h.answer posted good (.of_taken s kind p) (routed.trans refuses) (by simp)
    obtain ⟨_, time, lens, cooling, news⟩ := t.keeps.blocks
    exact ⟨_, row, t.handsOver, t.ends, time, lens, cooling, t.mesh, news⟩

end Sys2Proof.Machine
end

section
/-! SUPPORT for O23 and O24. AXIS_REPORT and AXIS_SETUP: the queue of an axis with nothing to present, the fields of the setup body
and the check of a candidate as a whole (R31, R32, R33, R35). -/

namespace Sys2Proof.Machine

/-! ### AXIS_REPORT (O23) -/

theorem State.complete_setAxis (s : State) (k : SlotId) (r : Result) (body : List Word) (a : AxisId) (x : Axis) :
    (s.complete k r body).setAxis a x = (s.setAxis a x).complete k r body := by
  unfold State.complete State.setHolder
  rw [show (s.setAxis a x).view k = s.view k from rfl]
  cases s.view k <;> rfl

/-- An axis with no park pending and no request queued has nothing to present (R41). -/
theorem State.presentIdle_of_none {s : State} {a : AxisId} (park : (s.axis a).pendingPark = false) (queue : (s.axis a).queue = []) :
    s.presentIdle a = s := by
  have stays : (if (s.axis a).pendingPark then s.presentPark a else s) = s := if_neg (by simp [park])
  unfold State.presentIdle
  dsimp only
  rw [stays, queue]
  exact ite_self s

/-- The axis after the report's clear flag (R35). -/
def Axis.cleared (x : Axis) : Axis :=
  if x.st = .fault then { x with rejected := 0, phaseErrors := 0, st := .idle, faultCode := .none }
  else { x with rejected := 0, phaseErrors := 0 }

theorem Axis.cleared_rest (x : Axis) : x.cleared.pendingPark = x.pendingPark ∧ x.cleared.queue = x.queue := by
  unfold Axis.cleared
  split <;> exact ⟨rfl, rfl⟩

theorem State.setAxis_setAxis (s : State) (a : AxisId) (x y : Axis) : (s.setAxis a x).setAxis a y = s.setAxis a y := by
  cases a <;> rfl

theorem State.axis_complete (s : State) (k : SlotId) (r : Result) (body : List Word) (a : AxisId) :
    (s.complete k r body).axis a = s.axis a := by
  rw [s.complete_eq]
  rfl

/-- A report of an axis on which nothing waits is one completion, of the axis as the clear flag leaves it (R35). -/
theorem State.takeReport_eq {s : State} {k : SlotId} {a : AxisId} (clear : Bool) (park : (s.axis a).pendingPark = false)
    (queue : (s.axis a).queue = []) :
    s.takeReport k [axisWord a, natWord (boolNat clear)]
      = (if clear then s.setAxis a (s.axis a).cleared else s).complete k doneOk (s.reportBody a) := by
  unfold State.takeReport
  rw [show bodyWord [axisWord a, natWord (boolNat clear)] 1 = axisWord a from rfl, axisOfWord_axisWord]
  cases clear with
  | false => rfl
  | true =>
    dsimp only
    rw [if_neg (show ¬ bodyWord [axisWord a, natWord (boolNat true)] 2 = 0 from (by decide : ¬ natWord 1 = 0)), if_pos rfl]
    simp only [State.axis_setAxis_self, State.axis_complete]
    unfold Axis.cleared
    split
    · rw [State.presentIdle_of_none (by rw [State.axis_setAxis_self]; exact park) (by rw [State.axis_setAxis_self]; exact queue),
        State.setAxis_setAxis, State.complete_setAxis]
    · rw [State.complete_setAxis]

/-- Settles O23: one completion with the axis's seven words, of the axis as the clear flag leaves it. -/
theorem axisReport : Obligations.AxisReport := by
  intro s p a clear h posted queue park
  have good : postCheck .axisReport false [axisWord a, natWord (boolNat clear)] = none :=
    postCheck_none rfl (by simp [staticOk, bodyWord, isFlag_axisWord, isFlag_flag])
  have routed : (s.taken .axisReport p).route p.slot .axisReport [axisWord a, natWord (boolNat clear)] = _ :=
    State.takeReport_eq (s := s.taken .axisReport p) clear park queue
  have body : (s.taken .axisReport p).reportBody a = [s.axisStateWord a, natWord (boolNat (s.axis a).homed), (s.axis a).counter,
      signedWord (s.axis a).target, natWord (s.axis a).rejected, natWord (s.axis a).phaseErrors,
      natWord (match (s.axis a).faultCode with
        | .none => 0xFF
        | .stall => 19)] := by
    have code : natWord (s.axis a).faultCode.number = natWord (match (s.axis a).faultCode with
        | .none => 0xFF
        | .stall => 19) := by cases (s.axis a).faultCode <;> rfl
    rw [← code]
    rfl
  rw [body] at routed
  cases clear with
  | false =>
    have t := h.answer posted good (.of_taken s .axisReport p) routed (by simp)
    obtain ⟨_, time, ⟨axes, placement, budget⟩, cooling, news⟩ := t.keeps.blocks
    exact ⟨_, rfl, t.handsOver, t.ends, fun _ => axes, nofun, nofun, congrArg (fun q : PerAxis Axis => q.get (otherAxis a)) axes,
      placement, budget, time, cooling, t.mesh, news⟩
  | true =>
    have holds : s.Holds ((s.taken .axisReport p).setAxis a (s.axis a).cleared) .axisReport p := ⟨rfl, rfl, rfl, rfl, rfl⟩
    have t := h.answer posted good holds routed (by simp)
    obtain ⟨_, time, ⟨axes, placement, budget⟩, cooling, news⟩ := t.keeps.blocks
    have axis : (s.postRow Kind.axisReport.number p false).axis a = (s.axis a).cleared :=
      (congrArg (fun q : PerAxis Axis => q.get a) axes).trans (State.axis_setAxis_self _ _ _)
    have other : (s.postRow Kind.axisReport.number p false).axis (otherAxis a) = s.axis (otherAxis a) :=
      (congrArg (fun q : PerAxis Axis => q.get (otherAxis a)) axes).trans (State.axis_setAxis_other _ _ _ _ (otherAxis_ne a))
    refine ⟨_, rfl, t.handsOver, t.ends, nofun, fun _ sound => ?_, fun _ fault => ?_, other, placement, budget, time, cooling,
      t.mesh, news⟩
    · rw [axis, Axis.cleared, if_neg sound]
    · rw [axis, Axis.cleared, if_pos fault]

/-! ### The fields of a setup body (R31) -/

theorem zip_concat {α β : Type} (xs : List α) (l : List β) (x : α) (d : β) (more : xs.length < l.length) :
    (xs ++ [x]).zip l = xs.zip l ++ [(x, l.getD xs.length d)] := by
  induction xs generalizing l with
  | nil =>
    cases l with
    | nil => exact absurd more (by simp)
    | cons y l => rfl
  | cons z xs ih =>
    cases l with
    | nil => exact absurd more (by simp)
    | cons y l => exact congrArg ((z, y) :: ·) (ih l (Nat.lt_of_succ_lt_succ more))

/-- Words that follow one another for the numbers of a set, in ascending order: the word of a number is named by how many numbers
of the set come before it. -/
theorem zip_filter_range {β : Type} (f : Nat → Bool) (l : List β) (d : β) (n : Nat)
    (fits : ((List.range n).filter f).length ≤ l.length) :
    ((List.range n).filter f).zip l
      = ((List.range n).filter f).map (fun b => (b, l.getD ((List.range b).filter f).length d)) := by
  induction n with
  | zero => rfl
  | succ n ih =>
    rw [List.range_succ, List.filter_append] at fits ⊢
    cases set : f n with
    | false =>
      rw [List.filter_cons_of_neg (by simp [set]), List.filter_nil, List.append_nil] at fits ⊢
      exact ih fits
    | true =>
      rw [List.filter_cons_of_pos set, List.filter_nil] at fits ⊢
      rw [List.length_append, List.length_singleton] at fits
      rw [zip_concat _ _ _ d fits, ih (by omega), List.map_append]
      rfl

/-- One field of the candidate: replaced where its mask bit is set (R31). -/
def setupStep (body : List Word) (c : AxisCfg) (bit : Nat) : AxisCfg :=
  if (bodyWord body 2).getLsbD bit then setupApply c (bit, setupWord body bit) else c

/-- The candidate goes through the mask bits in ascending order (R31). -/
theorem setupCandidate_eq (c : AxisCfg) {body : List Word} (len : lengthOk .axisSetup body = true) :
    setupCandidate c body = (List.range 9).foldl (setupStep body) c := by
  have lengths : 2 ≤ body.length ∧ body.length = 2 + (setupBits (bodyWord body 2)).length := by simpa [lengthOk] using len
  have words (b : Nat) : (body.drop 2).getD ((List.range b).filter (fun b => (bodyWord body 2).getLsbD b)).length 0
      = setupWord body b := by
    have word (n : Nat) : (body.drop 2).getD n 0 = bodyWord body (3 + n) := by
      rw [bodyWord, show 3 + n - 1 = 2 + n by omega]
      simp [List.getD, List.getElem?_drop]
    exact word _
  have fits : (setupBits (bodyWord body 2)).length ≤ (body.drop 2).length := by rw [List.length_drop]; omega
  unfold setupCandidate setupFields
  rw [setupBits, zip_filter_range _ _ 0 9 fits, List.foldl_map, List.foldl_filter]
  simp only [words]
  rfl

/-- A field of the candidate is that of the configuration in force, or its word where the mask has its bit (R31, R32). -/
theorem setupCandidate_fields (c : AxisCfg) {body : List Word} (len : lengthOk .axisSetup body = true) :
    let set (bit : Nat) : Bool := (bodyWord body 2).getLsbD bit
    let w := setupWord body
    (setupCandidate c body).encoder = (if set 0 then encoderOfWord (w 0) else c.encoder)
      ∧ (setupCandidate c body).homeValue = (if set 1 then (w 1).toInt else c.homeValue)
      ∧ (setupCandidate c body).limits = (if set 2 then (lowHalf (w 2), highHalf (w 2)) else c.limits)
      ∧ (setupCandidate c body).span = (if set 3 then (w 3).toNat else c.span)
      ∧ (setupCandidate c body).bands =
          (if set 4 then (((w 4).setWidth 16).toNat, byteNat (w 4) 2, byteNat (w 4) 3) else c.bands)
      ∧ (setupCandidate c body).gainCenter = (if set 5 then (byteNat (w 5) 0, highHalf (w 5)) else c.gainCenter)
      ∧ (setupCandidate c body).park = (if set 6 then (w 6).toInt else c.park)
      ∧ (setupCandidate c body).primary = (if set 7 then dutiesOfWord (w 7) else c.primary)
      ∧ (setupCandidate c body).lift = (if set 8 then some (dutiesOfWord (w 8)) else c.lift) := by
  rw [setupCandidate_eq c len]
  simp only [List.range, List.range.loop, List.foldl_cons, List.foldl_nil, setupStep, setupApply, apply_ite AxisCfg.encoder,
    apply_ite AxisCfg.homeValue, apply_ite AxisCfg.limits, apply_ite AxisCfg.span, apply_ite AxisCfg.bands,
    apply_ite AxisCfg.gainCenter, apply_ite AxisCfg.park, apply_ite AxisCfg.primary, apply_ite AxisCfg.lift, ite_self, and_self]

/-! ### The encoder word and the check of the whole (R32, 12.4) -/

theorem encoderOfWord_rules (w : Word) :
    (w.extractLsb' 0 2 = 1 → (encoderOfWord w).mode = .x1) ∧ (w.extractLsb' 0 2 = 2 → (encoderOfWord w).mode = .x2)
      ∧ (w.extractLsb' 0 2 = 3 → (encoderOfWord w).mode = .x4)
      ∧ (w.extractLsb' 2 2 = 0 → (encoderOfWord w).filter = 0) ∧ (w.extractLsb' 2 2 = 1 → (encoderOfWord w).filter = 1)
      ∧ (w.extractLsb' 2 2 = 2 → (encoderOfWord w).filter = 2) ∧ (w.extractLsb' 2 2 = 3 → (encoderOfWord w).filter = 4) := by
  have mode (n : Nat) (e : w.extractLsb' 0 2 = BitVec.ofNat 2 n) : w.toNat % 4 = n % 4 := by
    simpa using congrArg BitVec.toNat e
  have filter (n : Nat) (e : w.extractLsb' 2 2 = BitVec.ofNat 2 n) : w.toNat / 4 % 4 = n % 4 := by
    simpa [Nat.shiftRight_eq_div_pow] using congrArg BitVec.toNat e
  unfold encoderOfWord
  refine ⟨fun e => ?_, fun e => ?_, fun e => ?_, fun e => ?_, fun e => ?_, fun e => ?_, fun e => ?_⟩
  · dsimp only; rw [mode 1 e]; rfl
  · dsimp only; rw [mode 2 e]; rfl
  · dsimp only; rw [mode 3 e]; rfl
  · dsimp only; rw [filter 0 e]; rfl
  · dsimp only; rw [filter 1 e]; rfl
  · dsimp only; rw [filter 2 e]; rfl
  · dsimp only; rw [filter 3 e]; rfl

theorem AxisCfg.valid_iff (c : AxisCfg) : c.valid = true ↔
    c.limits.1 < c.limits.2 ∧ c.limits.1 ≤ c.homeValue ∧ c.homeValue ≤ c.limits.2
      ∧ c.limits.1 ≤ c.park ∧ c.park ≤ c.limits.2 ∧ c.bands.2.1 < c.bands.1 ∧ c.bands.2.2 < c.bands.2.1
      ∧ c.primary.creep ≤ c.primary.near ∧ c.primary.near ≤ c.primary.far
      ∧ ∀ d, c.lift = some d → d.creep ≤ d.near ∧ d.near ≤ d.far := by
  unfold AxisCfg.valid
  cases e : c.lift with
  | none => simp [inRange, Duties.ordered, and_assoc]
  | some d => simp [inRange, Duties.ordered, and_assoc]

/-! ### AXIS_SETUP (O24) -/

theorem State.setupTakes_iff (s : State) (a : AxisId) :
    s.setupTakes a = true ↔ ((s.axis a).st = .idle ∨ (s.axis a).st = .fault) ∧ (s.axis a).queue = [] ∧ s.placementHeld = false := by
  simp [State.setupTakes, and_assoc]

/-- A changed encoder or home value clears HOMED (R33). -/
def AxisCfg.unhomes (old c : AxisCfg) : Prop := old.encoder ≠ c.encoder ∨ old.homeValue ≠ c.homeValue

/-- A changed encoder, home value, limits, or gain and center detaches the placement (R13, R33). -/
def AxisCfg.detaches (old c : AxisCfg) : Prop :=
  c.encoder ≠ old.encoder ∨ c.homeValue ≠ old.homeValue ∨ c.limits ≠ old.limits ∨ c.gainCenter ≠ old.gainCenter

/-- The axis with another configuration in force (R33). -/
def Axis.configured (x : Axis) (c : AxisCfg) : Axis :=
  { x with
    cfg := c
    homed := x.homed && decide (c.encoder = x.cfg.encoder) && decide (c.homeValue = x.cfg.homeValue) }

theorem State.applySetup_eq (s : State) (a : AxisId) (c : AxisCfg) :
    ((s.axis a).cfg.detaches c → s.applySetup a c = (s.setAxis a ((s.axis a).configured c)).detach)
      ∧ (¬ (s.axis a).cfg.detaches c → s.applySetup a c = s.setAxis a ((s.axis a).configured c)) := by
  have record : { s.axis a with
      cfg := c
      homed := (s.axis a).homed
        && !(decide ((s.axis a).cfg.encoder ≠ c.encoder) || decide ((s.axis a).cfg.homeValue ≠ c.homeValue)) }
      = (s.axis a).configured c := by
    simp [Axis.configured, eq_comm (a := c.encoder), eq_comm (a := c.homeValue), Bool.and_assoc]
  have flag : (decide ((s.axis a).cfg.encoder ≠ c.encoder) || decide ((s.axis a).cfg.homeValue ≠ c.homeValue)
      || decide ((s.axis a).cfg.limits ≠ c.limits) || decide ((s.axis a).cfg.gainCenter ≠ c.gainCenter)) = true
      ↔ (s.axis a).cfg.detaches c := by
    simp [AxisCfg.detaches, eq_comm (a := c.encoder), eq_comm (a := c.homeValue), eq_comm (a := c.limits),
      eq_comm (a := c.gainCenter), or_assoc]
  unfold State.applySetup
  dsimp only
  rw [record]
  exact ⟨fun d => if_pos (flag.mpr d), fun d => if_neg fun q => d (flag.mp q)⟩

theorem State.applySetup_lens (s : State) (a : AxisId) (c : AxisCfg) : s.LensOnly (s.applySetup a c) := by
  by_cases d : (s.axis a).cfg.detaches c
  · rw [(s.applySetup_eq a c).1 d]
    exact (s.setAxis_lens a _).trans (State.detach_lens _)
  · rw [(s.applySetup_eq a c).2 d]
    exact s.setAxis_lens a _

theorem State.detach_of_held {s : State} (h : s.placement.status = .settled ∨ s.placement.status = .failed) :
    s.detach.placement = { s.placement with status := .detached, ref := s.detach.placement.ref } := by
  unfold State.detach
  rw [if_pos h]

/-- The axes, the budget and the placement after a configuration has come into force (R13, R33). -/
theorem State.applySetup_blocks (s : State) (a : AxisId) (c : AxisCfg) :
    (s.applySetup a c).axes = s.axes.set a ((s.axis a).configured c) ∧ (s.applySetup a c).budget = s.budget
      ∧ (s.placement.status = .detached → (s.applySetup a c).placement = s.placement)
      ∧ ((s.axis a).cfg.detaches c → s.placement.status = .settled ∨ s.placement.status = .failed →
          (s.applySetup a c).placement
            = { s.placement with status := .detached, ref := (s.applySetup a c).placement.ref })
      ∧ (¬ (s.axis a).cfg.detaches c → (s.applySetup a c).placement = s.placement) := by
  by_cases d : (s.axis a).cfg.detaches c
  · rw [(s.applySetup_eq a c).1 d]
    exact ⟨State.detach_axes _, State.detach_budget _, (s.setAxis a ((s.axis a).configured c)).detach_placement.2, fun _ held =>
      State.detach_of_held (s := s.setAxis a ((s.axis a).configured c)) held,
      fun q => absurd d q⟩
  · rw [(s.applySetup_eq a c).2 d]
    exact ⟨rfl, rfl, fun _ => rfl, fun q => absurd q d, fun _ => rfl⟩

theorem State.Holds.of_lens {s u x : State} {kind : Kind} {p : Post} (holds : s.Holds u kind p) (lens : u.LensOnly x) :
    s.Holds x kind p := by
  obtain ⟨outer, slots, _, _, mesh, _⟩ := lens.blocks
  exact holds.of_blocks outer slots mesh

/-- A request that is answered once its unit has changed the lens: the lens is as the unit left it, the rest as before. -/
theorem State.Answers.of_lens {s x t : State} {kind : Kind} {p : Post} {r : Result} {body : List Word}
    (a : s.Answers x t kind p r body) (lens : (s.taken kind p).LensOnly x) :
    (t.axes = x.axes ∧ t.placement = x.placement ∧ t.budget = x.budget)
      ∧ s.SameTime t ∧ s.SameCooling t ∧ s.SameMesh t ∧ s.SameNews t := by
  obtain ⟨_, time, same, cooling, news⟩ := a.keeps.blocks
  have mesh := a.mesh
  unfold State.LensOnly at lens
  rw [lens] at time cooling news mesh
  exact ⟨same, time, cooling, mesh, news⟩

/-- Settles O24: refused while the axis or the placement is busy or the whole is invalid; else one completion with the change
mask, and the candidate in force. -/
theorem axisSetup : Obligations.AxisSetup := by
  refine ⟨fun s p a body h posted len values named => ?_, fun c body len => ?_, fun w => ?_, AxisCfg.valid_iff⟩
  · have good : postCheck .axisSetup false body = none := postCheck_none len values
    have refused (code : ResCode) (e : (s.taken .axisSetup p).takeSetup p.slot body
        = (s.taken .axisSetup p).complete p.slot (refusedWith code) []) :
        ∃ t, exec (.axisSetup p) s = .next t ∧ s.HandsOver t .axisSetup p
          ∧ t.Ends .axisSetup p { cls := .refused, code := code } []
          ∧ s.SameTime t ∧ s.SameLens t ∧ s.SameCooling t ∧ s.SameMesh t ∧ s.SameNews t := by
      have t := h.answer posted good (.of_taken s .axisSetup p) e (by simp)
      obtain ⟨_, time, lens, cooling, news⟩ := t.keeps.blocks
      exact ⟨_, rfl, t.handsOver, t.ends, time, lens, cooling, t.mesh, news⟩
    refine ⟨fun busy => refused _ ?_, fun rest queue unheld => ⟨fun bad => refused _ ?_, fun valid => ?_⟩⟩
    · have takes : (s.taken .axisSetup p).setupTakes a = false := by
        refine Bool.eq_false_iff.mpr fun q => ?_
        obtain ⟨rest, queue, unheld⟩ := (s.setupTakes_iff a).mp q
        rcases busy with ⟨moving, sound⟩ | busy | held
        · exact rest.elim moving sound
        · exact busy queue
        · exact absurd (unheld.symm.trans held) (by decide)
      unfold State.takeSetup
      dsimp only
      rw [named, if_pos takes]
    · have takes : (s.taken .axisSetup p).setupTakes a = true := (s.setupTakes_iff a).mpr ⟨rest, queue, unheld⟩
      unfold State.takeSetup
      dsimp only
      rw [named, if_neg (by simp [takes]), if_pos (show (setupCandidate ((s.taken .axisSetup p).axis a).cfg body).valid = false from bad)]
    · have takes : (s.taken .axisSetup p).setupTakes a = true := (s.setupTakes_iff a).mpr ⟨rest, queue, unheld⟩
      have completes : (s.taken .axisSetup p).route p.slot .axisSetup body
          = ((s.taken .axisSetup p).applySetup a (setupCandidate (s.axis a).cfg body)).complete p.slot doneOk
              [natWord (bitsNat ((s.axis a).cfg.changes (setupCandidate (s.axis a).cfg body)))] := by
        show (s.taken .axisSetup p).takeSetup p.slot body = _
        unfold State.takeSetup
        dsimp only
        rw [named, if_neg (by simp [takes]),
          if_neg (show ¬ (setupCandidate ((s.taken .axisSetup p).axis a).cfg body).valid = false by
            rw [show ((s.taken .axisSetup p).axis a).cfg = (s.axis a).cfg from rfl, valid]; decide)]
        rfl
      have t := h.answer posted good ((State.Holds.of_taken s .axisSetup p).of_lens (State.applySetup_lens _ _ _)) completes (by simp)
      obtain ⟨⟨axes, placement, budget⟩, time, cooling, mesh, news⟩ := t.of_lens (State.applySetup_lens _ _ _)
      obtain ⟨axes', budget', free, detached, kept⟩ := (s.taken .axisSetup p).applySetup_blocks a (setupCandidate (s.axis a).cfg body)
      have axis : (s.postRow Kind.axisSetup.number p false).axis a = (s.axis a).configured (setupCandidate (s.axis a).cfg body) :=
        (congrArg (fun q : PerAxis Axis => q.get a) (axes.trans axes')).trans (PerAxis.get_set_self _ _ _)
      have other : (s.postRow Kind.axisSetup.number p false).axis (otherAxis a) = s.axis (otherAxis a) :=
        (congrArg (fun q : PerAxis Axis => q.get (otherAxis a)) (axes.trans axes')).trans
          (PerAxis.get_set_other _ _ _ _ (otherAxis_ne a))
      refine ⟨_, rfl, t.handsOver, t.ends, ?_⟩
      rw [axis, placement]
      exact ⟨rfl, rfl, rfl, other, budget.trans budget', free, ⟨detached, kept⟩, time, cooling, mesh, news⟩
  · exact setupCandidate_fields c len
  · obtain ⟨m1, m2, m3, f0, f1, f2, f3⟩ := encoderOfWord_rules w
    exact ⟨m1, m2, m3, f0, f1, f2, f3, rfl, rfl, rfl⟩

end Sys2Proof.Machine
end

section
/-! SUPPORT for O22. Requests that end several requests at once, and what a stop cause does to an axis (R53, R54, R165). -/

namespace Sys2Proof.Machine

/-! ### Several completions, each with a body (R165) -/

/-- After a post that ended requests with bodies, settling leaves the completion queue and every view alone, and nothing else of
the part differs but the paths to memory. -/
theorem State.Ready.settle_ended {s x : State} {kind : Kind} {p : Post} (h : s.Ready) (outer : x.outer = (s.taken kind p).outer)
    (writer : x.slots.writer = s.slots.writer) (bodies : ∀ c ∈ x.slots.queue, c.body ≠ []) (noEvent : x.eventClaim = none)
    (noMesh : x.meshClaim = none) :
    x.settle.slots.queue = x.slots.queue ∧ (∀ k, x.settle.view k = x.view k) ∧ SettleKeeps x x.settle
      ∧ x.settle.mesh = x.mesh := by
  obtain ⟨_, _, _, _, host, _⟩ := h.takenPath outer
  have quiet : x.HostQuiet := .inl host
  cases queue : x.slots.queue with
  | nil =>
    have idle := h.settle_idle outer queue noEvent noMesh
    rw [idle]
    exact ⟨queue, fun _ => rfl, .refl x, rfl⟩
  | cons c rest =>
    have waits := State.settle_headWaits queue (bodies c (by simp [queue])) (writer.trans h.writer) quiet
    exact ⟨waits.queue.trans queue, waits.view, x.settle_keeps quiet, x.settle_mesh quiet noMesh⟩

theorem State.SameTime.trans {s t u : State} (a : s.SameTime t) (b : t.SameTime u) : s.SameTime u :=
  ⟨b.1.trans a.1, b.2.1.trans a.2.1, b.2.2.trans a.2.2⟩

theorem State.SameCooling.trans {s t u : State} (a : s.SameCooling t) (b : t.SameCooling u) : s.SameCooling u :=
  ⟨b.1.trans a.1, b.2.1.trans a.2.1, b.2.2.trans a.2.2⟩

theorem State.SameNews.trans {s t u : State} (a : s.SameNews t) (b : t.SameNews u) : s.SameNews u := by
  obtain ⟨notice, p, c, lost, full⟩ := a
  obtain ⟨notice', p', c', lost', full'⟩ := b
  exact ⟨notice'.trans notice, p'.trans p, c'.trans c, lost'.trans lost, full'.trans full⟩

/-- The lens and the slot unit alone differ; nothing of a completion is written yet. -/
structure State.LensAndSlots (s t : State) : Prop where
  blocks : t = { s with slots := t.slots, axes := t.axes, placement := t.placement, budget := t.budget }
  writer : t.slots.writer = s.slots.writer

theorem State.LensAndSlots.refl (s : State) : s.LensAndSlots s := ⟨rfl, rfl⟩

theorem State.LensAndSlots.trans {s t u : State} (a : s.LensAndSlots t) (b : t.LensAndSlots u) : s.LensAndSlots u :=
  ⟨by rw [b.blocks, a.blocks], b.writer.trans a.writer⟩

theorem State.LensOnly.andSlots {s t : State} (h : s.LensOnly t) : s.LensAndSlots t := by
  unfold State.LensOnly at h
  rw [h]
  exact ⟨rfl, rfl⟩

theorem State.setHolder_andSlots (s : State) (k : SlotId) (g : Holder) : s.LensAndSlots (s.setHolder k g) :=
  ⟨by rw [s.setHolder_eq], s.setHolder_writer k g⟩

theorem State.complete_andSlots (s : State) (k : SlotId) (r : Result) (body : List Word) : s.LensAndSlots (s.complete k r body) :=
  ⟨by rw [s.complete_eq], s.setHolder_writer k .completing⟩

theorem State.completeRef_andSlots (s : State) (ref : Option SlotId) (r : Result) (body : List Word) :
    s.LensAndSlots (s.completeRef ref r body) := by
  cases ref with
  | none => exact .refl s
  | some k => exact s.complete_andSlots k r body

theorem State.LensAndSlots.ite {s t u : State} {c : Prop} [Decidable c] (a : s.LensAndSlots t) (b : s.LensAndSlots u) :
    s.LensAndSlots (if c then t else u) := by split <;> assumption

/-- What a request row leaves behind when its unit has ended requests with bodies or none. -/
structure State.Ended (s x t : State) (kind : Kind) (p : Post) : Prop where
  handsOver : s.HandsOver t kind p
  queue : t.slots.queue = x.slots.queue
  view : ∀ k, t.view k = x.view k
  axes : t.axes = x.axes
  placement : t.placement = x.placement
  budget : t.budget = x.budget
  time : s.SameTime t
  cooling : s.SameCooling t
  mesh : s.SameMesh t
  news : s.SameNews t

theorem State.Ready.ended {s x : State} {p : Post} {body : List Word} {kind : Kind} (h : s.Ready) (posted : s.Posted p body)
    (good : postCheck kind false body = none) (routes : (s.taken kind p).route p.slot kind body = x)
    (only : (s.taken kind p).LensAndSlots x) (bodies : ∀ c ∈ x.slots.queue, c.body ≠ []) :
    s.Ended x (s.postRow kind.number p false) kind p := by
  have outer : x.outer = (s.taken kind p).outer := by rw [only.blocks]; rfl
  have events : x.events = s.events := by rw [only.blocks]; rfl
  have mesh : x.mesh = s.mesh := by rw [only.blocks]; rfl
  obtain ⟨queue, view, keeps, same⟩ := h.settle_ended outer only.writer bodies (h.noEvent events) (h.noMesh mesh)
  obtain ⟨mem, time, ⟨axes, placement, budget⟩, cooling, news⟩ := keeps.blocks
  obtain ⟨_, _, _, _, _, mem', _⟩ := h.takenPath outer
  rw [State.postRow_routed kind h posted good, routes]
  obtain ⟨time', cooling', news'⟩ : s.SameTime x ∧ s.SameCooling x ∧ s.SameNews x := by
    rw [only.blocks]
    exact ⟨⟨rfl, rfl, rfl⟩, ⟨rfl, rfl, rfl⟩, rfl, rfl, rfl, rfl, rfl⟩
  exact ⟨h.handsOver (mem.trans mem'), queue, view, axes, placement, budget, time'.trans time, cooling'.trans cooling,
    same.trans mesh, news'.trans news⟩

/-! ### Requests that end one after another -/

theorem State.onlySlots_trans {s t u : State} (a : t = { s with slots := t.slots }) (b : u = { t with slots := u.slots }) :
    u = { s with slots := u.slots } := by
  rw [b, a]

section
variable {α : Type} (slot : α → SlotId) (r : Result) (body : State → List Word)

/-- Requests that end one after another: each joins the completion queue with a body that completions do not change. -/
theorem State.foldl_complete_eq (steady : ∀ (t : State) (u : SlotUnit), body { t with slots := u } = body t) (l : List α) (s : State) :
    l.foldl (fun t x => t.complete (slot x) r (body t)) s
        = { s with slots := (l.foldl (fun t x => t.complete (slot x) r (body t)) s).slots }
      ∧ (l.foldl (fun t x => t.complete (slot x) r (body t)) s).slots.queue
        = s.slots.queue ++ l.map (fun x => { slot := slot x, result := r, body := body s })
      ∧ (l.foldl (fun t x => t.complete (slot x) r (body t)) s).slots.writer = s.slots.writer := by
  induction l generalizing s with
  | nil => exact ⟨rfl, (List.append_nil _).symm, rfl⟩
  | cons x l ih =>
    obtain ⟨blocks, queue, writer⟩ := ih (s.complete (slot x) r (body s))
    have same : body (s.complete (slot x) r (body s)) = body s := by
      rw [s.complete_eq]
      exact steady s _
    have first : (s.complete (slot x) r (body s)).slots.queue
        = s.slots.queue ++ [{ slot := slot x, result := r, body := body s }] := by
      simp [State.complete]
    refine ⟨State.onlySlots_trans (s.complete_eq _ _ _) blocks, queue.trans ?_, writer.trans (s.setHolder_writer _ _)⟩
    rw [first, same, List.append_assoc]
    rfl

end

/-- A change of holder keeps the kind, tag and taken flag of every request. -/
theorem State.view_setHolder_part {s : State} {j : SlotId} {kind : BitVec 6} {tag : BitVec 8} {taken : Bool} {f : Holder}
    (e : s.view j = .part kind tag taken f) (k : SlotId) (g : Holder) :
    ∃ f', (s.setHolder k g).view j = .part kind tag taken f' := by
  by_cases same : j = k
  · subst same
    exact ⟨g, State.view_setHolder_self g e⟩
  · exact ⟨f, (s.view_setHolder_other k j g same).trans e⟩

theorem State.foldl_complete_part {α : Type} {slot : α → SlotId} {r : Result} {body : State → List Word} (l : List α) {s : State}
    {j : SlotId} {kind : BitVec 6} {tag : BitVec 8} {taken : Bool} {f : Holder} (e : s.view j = .part kind tag taken f) :
    ∃ f', (l.foldl (fun t x => t.complete (slot x) r (body t)) s).view j = .part kind tag taken f' := by
  induction l generalizing s f with
  | nil => exact ⟨f, e⟩
  | cons x l ih =>
    obtain ⟨f', e'⟩ := State.view_setHolder_part e (slot x) .completing
    exact ih e'

/-! ### The axis queue (R54) -/

/-- The queue of an axis is cut off, and its requests end ENDED/ABORTED with the position, head first (R54, R57). -/
theorem State.abortQueue_eq (s : State) (a : AxisId) :
    s.abortQueue a = { s.setAxis a { s.axis a with queue := [] } with slots := (s.abortQueue a).slots }
      ∧ (s.abortQueue a).slots.queue = s.slots.queue ++ (s.axis a).queue.map (fun q =>
          { slot := q.slot, result := { cls := .ended, code := .aborted }, body := [(s.axis a).counter] })
      ∧ (s.abortQueue a).slots.writer = s.slots.writer := by
  obtain ⟨blocks, queue, writer⟩ := State.foldl_complete_eq Queued.slot (endedWith .aborted) (fun t => t.positionBody a)
    (fun _ _ => rfl) (s.axis a).queue (s.setAxis a { s.axis a with queue := [] })
  refine ⟨blocks, queue.trans ?_, writer⟩
  rw [State.positionBody, State.axis_setAxis_self]
  rfl

theorem State.abortQueue_andSlots (s : State) (a : AxisId) : s.LensAndSlots (s.abortQueue a) := by
  obtain ⟨blocks, _, writer⟩ := s.abortQueue_eq a
  exact ⟨by rw [blocks]; rfl, writer⟩

theorem State.axis_abortQueue (s : State) (a : AxisId) :
    (s.abortQueue a).axis a = { s.axis a with queue := [] }
      ∧ ∀ b, b ≠ a → (s.abortQueue a).axis b = s.axis b := by
  rw [(s.abortQueue_eq a).1]
  exact ⟨s.axis_setAxis_self a _, fun b other => s.axis_setAxis_other a b _ other⟩

/-! ### Stop causes (R53) -/

theorem Axis.takeAllotment_of_still {x : Axis} (h : x.st.driving = false) (c : Machine.Class) : x.takeAllotment c = x := by
  unfold Axis.takeAllotment
  exact if_neg fun q => absurd (h.symm.trans q.1) (by decide)

/-- The axis that a cause stops takes its result and leaves its drive off; the other may have its drive raised or lowered. -/
theorem State.axis_enterStopping (s : State) (a : AxisId) (r : Result) :
    (s.enterStopping a r).axis a = (s.axis a).toStopping r
      ∧ ∀ b, b ≠ a → (s.axis b).SameButDrive ((s.enterStopping a r).axis b) := by
  have rebudgets (b : AxisId) : ∃ c, (s.enterStopping a r).axis b = ((s.setAxis a ((s.axis a).toStopping r)).axis b).takeAllotment c := by
    cases b <;> exact ⟨_, rfl⟩
  refine ⟨?_, fun b other => ?_⟩
  · obtain ⟨c, e⟩ := rebudgets a
    rw [e, State.axis_setAxis_self]
    exact Axis.takeAllotment_of_still rfl c
  · obtain ⟨c, e⟩ := rebudgets b
    rw [e, State.axis_setAxis_other _ _ _ _ other]
    exact Axis.takeAllotment_sameButDrive _ _

theorem State.stopCause_active {s : State} {a : AxisId} (active : (s.axis a).st.active = true) (c : ResCode) :
    s.stopCause a c = s.enterStopping a (endedWith c) := if_pos active

theorem State.stopCause_still {s : State} {a : AxisId} (still : (s.axis a).st.active = false) (c : ResCode) :
    s.stopCause a c = s := if_neg (by simp [still])

/-! ### AXIS_STOP (O22) -/

theorem State.dropPark_of_none {s : State} {a : AxisId} (park : (s.axis a).pendingPark = false) : s.dropPark a = s :=
  if_neg (by simp [park])

/-- Without a pending park an AXIS_STOP cuts the queue off and stops the move; then it ends, or waits for IDLE (R54). -/
theorem State.takeStop_eq {s : State} {k : SlotId} {a : AxisId} (park : (s.axis a).pendingPark = false) :
    s.takeStop k [axisWord a]
      = if (s.axis a).st = .idle ∨ (s.axis a).st = .fault then
          ((s.abortQueue a).stopCause a .stopped).complete k doneOk (((s.abortQueue a).stopCause a .stopped).positionBody a)
        else
          (((s.abortQueue a).stopCause a .stopped).setAxis a
            { ((s.abortQueue a).stopCause a .stopped).axis a with
              stopWait := (((s.abortQueue a).stopCause a .stopped).axis a).stopWait ++ [k] }).setHolder k (.stopWait a) := by
  unfold State.takeStop
  rw [show bodyWord [axisWord a] 1 = axisWord a from rfl, axisOfWord_axisWord]
  dsimp only
  rw [State.dropPark_of_none (by rw [(s.axis_abortQueue a).1]; exact park)]

/-- A moving axis once an AXIS_STOP waits on it: its queue cut off, its move stopped (R54). -/
def Axis.awaited (x : Axis) (k : SlotId) : Axis :=
  { (Axis.toStopping { x with queue := [] } (endedWith .stopped)) with stopWait := x.stopWait ++ [k] }

/-- Settles O22: the queue's requests end head first; the stop ends behind them at rest, and waits on an axis that it stops. -/
theorem axisStop : Obligations.AxisStop := by
  intro s p a h posted park
  have good : postCheck .axisStop false [axisWord a] = none := postCheck_none rfl (isFlag_axisWord a)
  have eq := State.takeStop_eq (s := s.taken .axisStop p) (k := p.slot) park
  obtain ⟨cut, queue, writer⟩ := (s.taken .axisStop p).abortQueue_eq a
  obtain ⟨axis, others⟩ := (s.taken .axisStop p).axis_abortQueue a
  have queue : ((s.taken .axisStop p).abortQueue a).slots.queue = (s.axis a).queue.map (fun q =>
      { slot := q.slot, result := { cls := .ended, code := .aborted }, body := [(s.axis a).counter] }) := by
    rw [queue, show (s.taken .axisStop p).slots.queue = [] from h.queue]
    rfl
  have bodies : ∀ c ∈ ((s.taken .axisStop p).abortQueue a).slots.queue, c.body ≠ [] := by
    rw [queue]
    intro c inside
    obtain ⟨_, _, rfl⟩ := List.mem_map.mp inside
    exact List.cons_ne_nil _ _
  have only := (s.taken .axisStop p).abortQueue_andSlots a
  obtain ⟨g, view⟩ : ∃ g, ((s.taken .axisStop p).abortQueue a).view p.slot = .part 5 p.tag false g :=
    State.foldl_complete_part _ (s := (s.taken .axisStop p).setAxis a { s.axis a with queue := [] })
      (State.view_setView_self _ _ _)
  generalize (s.taken .axisStop p).abortQueue a = u at *
  refine ⟨fun rest => ?_, fun m active move => ?_⟩
  · have still : (u.axis a).st.active = false := by
      rw [axis]
      show (s.axis a).st.active = false
      rcases rest with e | e <;> rw [e] <;> rfl
    have position : u.positionBody a = [(s.axis a).counter] := by
      unfold State.positionBody
      rw [axis]
      rfl
    have routes : (s.taken .axisStop p).route p.slot .axisStop [axisWord a]
        = u.complete p.slot doneOk [(s.axis a).counter] := by
      refine eq.trans ((if_pos rest).trans ?_)
      rw [State.stopCause_still still, position]
    have all : (u.complete p.slot doneOk [(s.axis a).counter]).slots.queue
        = u.slots.queue ++ [{ slot := p.slot, result := doneOk, body := [(s.axis a).counter] }] := by
      simp [State.complete]
    have t := h.ended posted good routes (only.trans (u.complete_andSlots _ _ _)) (by
      rw [all]
      intro c inside
      rcases List.mem_append.mp inside with i | i
      · exact bodies c i
      · rw [List.mem_singleton.mp i]; exact List.cons_ne_nil _ _)
    have axes : (s.postRow Kind.axisStop.number p false).axes = u.axes := t.axes.trans (by rw [State.complete_eq])
    have placement : (s.postRow Kind.axisStop.number p false).placement = u.placement := t.placement.trans (by rw [State.complete_eq])
    refine ⟨_, rfl, t.handsOver, ?_, ?_, ?_, placement.trans (by rw [cut]; rfl), t.time, t.cooling, t.mesh, t.news⟩
    · rw [t.queue, all, queue]
      rfl
    · exact (congrArg (fun q : PerAxis Axis => q.get a) axes).trans axis
    · exact (congrArg (fun q : PerAxis Axis => q.get (otherAxis a)) axes).trans (others _ (otherAxis_ne a))
  · have running : (u.axis a).st.active = true := by rw [axis]; exact active
    have axis' : (u.stopCause a .stopped).axis a = ({ s.axis a with queue := [] } : Axis).toStopping (endedWith .stopped) := by
      rw [State.stopCause_active running, (u.axis_enterStopping a _).1, axis]
      rfl
    have moving : ¬ ((s.axis a).st = .idle ∨ (s.axis a).st = .fault) := by
      rintro (e | e) <;> rw [e] at active <;> exact absurd active (by decide)
    have routes : (s.taken .axisStop p).route p.slot .axisStop [axisWord a]
        = ((u.stopCause a .stopped).setAxis a ((s.axis a).awaited p.slot)).setHolder p.slot (.stopWait a) := by
      refine eq.trans ((if_neg moving).trans ?_)
      rw [axis']
      rfl
    have lens : u.LensAndSlots ((u.stopCause a .stopped).setAxis a ((s.axis a).awaited p.slot)) :=
      (u.stopCause_lens a .stopped).andSlots.trans (State.setAxis_lens _ _ _).andSlots
    have slots : (u.stopCause a .stopped).slots = u.slots := (u.stopCause_lens a .stopped).blocks.2.1
    obtain ⟨_, _, _, kept, _⟩ := (u.stopCause_only a .stopped).blocks
    have all : (((u.stopCause a .stopped).setAxis a ((s.axis a).awaited p.slot)).setHolder p.slot (.stopWait a)).slots.queue
        = u.slots.queue := by
      rw [State.setHolder_queue, State.setAxis_slots, slots]
    have t := h.ended posted good routes ((only.trans lens).trans (State.setHolder_andSlots _ _ _)) (by rw [all]; exact bodies)
    have axes : (s.postRow Kind.axisStop.number p false).axes = ((u.stopCause a .stopped).setAxis a ((s.axis a).awaited p.slot)).axes :=
      t.axes.trans (by rw [State.setHolder_eq])
    have stopped : (s.postRow Kind.axisStop.number p false).axis a = (s.axis a).awaited p.slot :=
      (congrArg (fun q : PerAxis Axis => q.get a) axes).trans (State.axis_setAxis_self _ _ _)
    have placement : (s.postRow Kind.axisStop.number p false).placement = s.placement :=
      t.placement.trans (by rw [State.setHolder_eq]; exact kept.trans (by rw [cut]; rfl))
    refine ⟨_, rfl, t.handsOver, t.queue.trans (all.trans queue), ?_, ?_⟩
    · rw [t.view]
      exact State.view_setHolder_self _ ((State.view_congr slots _).trans view)
    · rw [stopped]
      refine ⟨rfl, rfl, rfl, rfl, ⟨_, congrArg (Option.map _) move, rfl, rfl⟩, ?_, placement, t.time, t.cooling, t.mesh, t.news⟩
      have other : (s.postRow Kind.axisStop.number p false).axis (otherAxis a) = (u.stopCause a .stopped).axis (otherAxis a) :=
        (congrArg (fun q : PerAxis Axis => q.get (otherAxis a)) axes).trans (State.axis_setAxis_other _ _ _ _ (otherAxis_ne a))
      rw [other, State.stopCause_active running, ← show u.axis (otherAxis a) = s.axis (otherAxis a) from others _ (otherAxis_ne a)]
      exact (u.axis_enterStopping a _).2 _ (otherAxis_ne a)

end Sys2Proof.Machine
end

section
/-! SUPPORT for O46, O47 and O50. Passing time, one event out of a ready state, and stop causes that reach both axes (R53, R56,
R84, R87, R92, R113, R117, R175). -/

namespace Sys2Proof.Machine

/-! ### Passing time (log 6) -/

/-- Time has passed: the clock and the power sequencer as given, and the timers of the other blocks moved on. -/
def State.aged (s : State) (c : Clock) (q : Power) (us ms : Nat) : State :=
  { s with
    clock := c
    power := q
    path := { s.path with port := s.path.port.map (Cycle.pass us) }
    axes := s.axes.map (Axis.pass us ms)
    fans := s.fans.map (Fan.pass us ms)
    thermal :=
      { s.thermal with
        channels := s.thermal.channels.map (Channel.pass ms)
        hbTimer := countDown ms s.thermal.hbTimer }
    mesh := { s.mesh with retireTimer := countDown ms s.mesh.retireTimer } }

theorem State.aged_zero (s : State) (c : Clock) (q : Power) : s.aged c q 0 0 = { s with clock := c, power := q } := by
  have axes : s.axes.map (Axis.pass 0 0) = s.axes := by simp only [PerAxis.map, Axis.pass_zero]
  have fans : s.fans.map (Fan.pass 0 0) = s.fans := by simp only [PerFan.map, Fan.pass_zero]
  have channels : s.thermal.channels.map (Channel.pass 0) = s.thermal.channels := by
    simp only [PerChannel.map, Channel.pass_zero]
  unfold State.aged
  rw [PathUnit.map_pass_zero, axes, fans, channels, countDown_zero, countDown_zero]

/-- However much time passes, and in whatever reset state: nothing but the clocks and timers moves. -/
theorem State.pass_aged (s : State) (us : Nat) :
    ∃ us' ms, s.pass us = s.aged (s.pass us).clock (s.pass us).power us' ms := by
  by_cases zero : us = 0
  · refine ⟨0, 0, ?_⟩
    rw [zero, State.pass_zero, State.aged_zero]
  · by_cases held : s.hold = .powerOn
    · refine ⟨0, 0, ?_⟩
      rw [State.aged_zero, State.pass, if_neg zero]
      dsimp only
      rw [if_pos held]
    · refine ⟨us, (s.clock.usInMs + us) / 1000, ?_⟩
      rw [State.pass_eq_moved us zero held]
      rfl

theorem State.pass_power (s : State) (us : Nat) :
    (s.pass us).power.mode = s.power.mode ∧ (s.pass us).power.park = s.power.park ∧ (s.pass us).power.ref = s.power.ref
      ∧ (s.pass us).power.kind = s.power.kind ∧ (s.pass us).power.minMet = s.power.minMet := by
  unfold State.pass
  split
  · exact ⟨rfl, rfl, rfl, rfl, rfl⟩
  · dsimp only
    split
    · exact ⟨rfl, rfl, rfl, rfl, rfl⟩
    · exact s.power.pass_mode _

/-- What time that passes leaves alone. -/
theorem State.pass_blocks (s : State) (us : Nat) :
    (s.pass us).hold = s.hold ∧ (s.pass us).pins = s.pins ∧ (s.pass us).mem = s.mem ∧ (s.pass us).slots = s.slots
      ∧ (s.pass us).placement = s.placement ∧ (s.pass us).budget = s.budget ∧ (s.pass us).notice = s.notice
      ∧ (s.pass us).events = s.events := by
  obtain ⟨us', ms, e⟩ := s.pass_aged us
  rw [e]
  exact ⟨rfl, rfl, rfl, rfl, rfl, rfl, rfl, rfl⟩

theorem State.Ready.pass_path {s : State} (h : s.Ready) (us : Nat) : (s.pass us).path = s.path := by
  obtain ⟨us', ms, e⟩ := s.pass_aged us
  rw [e]
  show { s.path with port := s.path.port.map (Cycle.pass us') } = s.path
  have port := h.port
  cases path : s.path
  rw [path] at port
  subst port
  rfl

theorem State.pass_waits (s : State) (us : Nat) : s.WaitsAlike (s.pass us) := by
  obtain ⟨us', ms, e⟩ := s.pass_aged us
  rw [e]
  exact ⟨rfl, Option.isSome_map, rfl, rfl, rfl, rfl, rfl, rfl, rfl, rfl, rfl⟩

/-- Moving on an axis's timers leaves its move alone. -/
theorem State.pass_axis (s : State) (us : Nat) (a : AxisId) :
    ((s.pass us).axis a).st = (s.axis a).st ∧ ((s.pass us).axis a).move = (s.axis a).move := by
  obtain ⟨us', ms, e⟩ := s.pass_aged us
  rw [e]
  cases a <;> exact ⟨rfl, rfl⟩

/-- Moving on a fan's timers leaves the rest of it alone. -/
theorem State.pass_fan (s : State) (us : Nat) (f : FanId) :
    ∃ us' ms, (s.pass us).fan f = (s.fan f).pass us' ms := by
  obtain ⟨us', ms, e⟩ := s.pass_aged us
  rw [e]
  refine ⟨us', ms, ?_⟩
  cases f <;> rfl

theorem State.pass_meshClaim {s : State} (us : Nat) (h : s.meshClaim = none) : (s.pass us).meshClaim = none := by
  obtain ⟨us', ms, e⟩ := s.pass_aged us
  rw [e]
  exact State.meshClaim_none_of_same (s := s) rfl rfl rfl rfl h

/-! ### One event out of a ready state (R175, R176) -/

theorem State.eventClaim_events {s t : State} (events : t.events = s.events) (h : s.eventClaim = none) : t.eventClaim = none := by
  rw [State.eventClaim_none_iff] at h ⊢
  rwa [events]

/-- The one law of an event that is placed out of a ready state: whatever else the command does, the record stands whole in the
buffer when the part has settled. -/
theorem State.Ready.settle_recorded {s x : State} (h : s.Ready) {code : Half} {va vb : Word}
    (events : x.events = (State.placeRecord { s with clock := x.clock } code va vb).events) (hold : x.hold = s.hold)
    (slots : x.slots = s.slots) (noMesh : x.meshClaim = none) (path : x.path = s.path) :
    SettleKeeps x x.settle ∧ x.settle.mesh = x.mesh ∧ x.settle.slots = s.slots ∧ s.Records x.settle code va vb := by
  have buffer : x.path.buffer = [] := by rw [path]; exact h.buffer
  have only : x.OnlyWriter :=
    ⟨by rw [slots]; exact h.queue, noMesh, .inl (by rw [path]; exact h.host), by simp [buffer]⟩
  have traffic : x.ringTraffic = s.recordEntries x.clock.uptime code va vb := by
    have placed := State.placeRecord_traffic (s := { s with clock := x.clock }) h.fedOk code va vb
    rw [show State.ringTraffic { s with clock := x.clock } = [] from h.traffic, List.nil_append] at placed
    unfold State.ringTraffic at placed ⊢
    rw [events, buffer]
    rwa [show (State.placeRecord { s with clock := x.clock } code va vb).path.buffer = [] from h.buffer] at placed
  have fed : x.events.FedOk := by
    rw [events]
    exact State.placeRecord_fedOk (s := { s with clock := x.clock }) h.fedOk code va vb
  obtain ⟨whole, done⟩ := only.settle_buffer (hold.trans h.running) fed (by rw [traffic]; exact (by decide : 5 < Config.bufferSize))
  have keeps := State.settle_keeps x only.quiet
  obtain ⟨_, ⟨clock, _⟩, _, _, _, p, c, _⟩ := keeps.blocks
  refine ⟨keeps, State.settle_mesh _ only.quiet only.mesh, (State.settle_slots _ only.quiet only.queue).trans slots, ?_, ?_, ?_, done⟩
  · rw [whole, traffic, clock]
  · rw [p, events]
    rfl
  · rw [c, events]
    rfl

/-! ### Stop causes that reach both axes (R53) -/

theorem State.axis_stopCause_other (s : State) {a b : AxisId} (c : ResCode) (other : b ≠ a) :
    (s.axis b).SameButDrive ((s.stopCause a c).axis b) := by
  cases active : (s.axis a).st.active with
  | true =>
    rw [State.stopCause_active active]
    exact (s.axis_enterStopping a _).2 b other
  | false => rw [State.stopCause_still active]; exact .refl _

/-- The drive of an axis that does not run is left alone by what happens to the other. -/
theorem State.axis_stopCause_still (s : State) {a b : AxisId} (c : ResCode) (other : b ≠ a)
    (still : (s.axis b).st.driving = false) : (s.stopCause a c).axis b = s.axis b := by
  cases active : (s.axis a).st.active with
  | false => rw [State.stopCause_still active]
  | true =>
    have rebudgets : ∃ d, (s.enterStopping a (endedWith c)).axis b
        = ((s.setAxis a ((s.axis a).toStopping (endedWith c))).axis b).takeAllotment d := by
      cases b <;> exact ⟨_, rfl⟩
    obtain ⟨d, e⟩ := rebudgets
    rw [State.stopCause_active active, e, State.axis_setAxis_other _ _ _ _ other, Axis.takeAllotment_of_still still]

theorem Axis.toStopping_stopped {s t : State} {a : AxisId} {c : ResCode} {x : Axis} (same : (s.axis a).SameButDrive x)
    (stops : t.axis a = x.toStopping (endedWith c)) : s.Stopped t a c := by
  unfold State.Stopped
  rw [stops, same.eq]
  refine ⟨rfl, rfl, fun m move => ⟨_, congrArg (Option.map _) move, rfl, rfl, rfl⟩⟩

theorem State.stopCause_stopped {s : State} {a : AxisId} (active : (s.axis a).st.active = true) (c : ResCode) :
    s.Stopped (s.stopCause a c) a c := by
  refine Axis.toStopping_stopped (.refl _) ?_
  rw [State.stopCause_active active]
  exact (s.axis_enterStopping a _).1

theorem Axis.SameButDrive.active {x y : Axis} (h : x.SameButDrive y) : y.st.active = x.st.active := by rw [h.eq]

/-- A cause that reaches both axes stops those that are moving, and leaves the others alone but for the drive (R53, R123). -/
theorem State.stopBoth_axis (s : State) (c : ResCode) (a : AxisId) :
    ((s.axis a).st.active = true → s.Stopped (s.stopBoth c) a c)
      ∧ ((s.axis a).st.active = false → (s.axis a).SameButDrive ((s.stopBoth c).axis a)) := by
  cases a with
  | h =>
    have other : AxisId.h ≠ .v := by decide
    refine ⟨fun active => Axis.toStopping_stopped (x := s.axis .h) (.refl _) ?_, fun still => ?_⟩
    · have first : (s.stopCause .h c).axis .h = (s.axis .h).toStopping (endedWith c) := by
        rw [State.stopCause_active active]
        exact (s.axis_enterStopping .h _).1
      exact ((s.stopCause .h c).axis_stopCause_still c other (by rw [first]; rfl)).trans first
    · unfold State.stopBoth
      rw [State.stopCause_still still]
      exact s.axis_stopCause_other c other
  | v =>
    have same := s.axis_stopCause_other (a := .h) (b := .v) c (by decide)
    refine ⟨fun active => Axis.toStopping_stopped same ?_, fun still => ?_⟩
    · unfold State.stopBoth
      rw [State.stopCause_active (same.active.trans active)]
      exact (State.axis_enterStopping _ .v _).1
    · unfold State.stopBoth
      rw [State.stopCause_still (same.active.trans still)]
      exact same

/-- The form in which the rules of lines and timers say what a cause does to the axes. -/
def State.StoppedBoth (s t : State) (c : ResCode) : Prop :=
  (∀ a, (s.axis a).st.active = true → (t.axis a).st = .stopping ∧ (t.axis a).drive.duty = 0
      ∧ ∀ m, (s.axis a).move = some m → ∃ n, (t.axis a).move = some n ∧ n.owner = m.owner
          ∧ n.result = some (m.result.getD { cls := .ended, code := c }))
    ∧ (∀ a, (s.axis a).st.active = false → (t.axis a).st = (s.axis a).st ∧ (t.axis a).move = (s.axis a).move)

theorem State.stoppedBoth {s u t : State} {c : ResCode} (from_ : ∀ a, (u.axis a).st = (s.axis a).st ∧ (u.axis a).move = (s.axis a).move)
    (axes : t.axes = (u.stopBoth c).axes) : s.StoppedBoth t c := by
  have axis (a : AxisId) : t.axis a = (u.stopBoth c).axis a := congrArg (fun q : PerAxis Axis => q.get a) axes
  refine ⟨fun a active => ?_, fun a still => ?_⟩
  · obtain ⟨st, move⟩ := from_ a
    obtain ⟨stops, off, result⟩ := (u.stopBoth_axis c a).1 (st ▸ active)
    rw [axis]
    refine ⟨stops, off, fun m e => ?_⟩
    obtain ⟨n, moves, _, owner, result⟩ := result m (move.trans e)
    exact ⟨n, moves, owner, result⟩
  · obtain ⟨st, move⟩ := from_ a
    rw [axis, ((u.stopBoth_axis c a).2 (st ▸ still)).eq]
    exact ⟨st, move⟩

end Sys2Proof.Machine
end

section
/-! SUPPORT for O46, O47 and O50. The lines INTERLOCK and SUPPLY_LOW, the fan timers, and the loss of the host (R56, R84, R87, R92,
R113, R117). -/

namespace Sys2Proof.Machine

theorem State.AxesOnly.lens {s t : State} (h : s.AxesOnly t) : s.LensOnly t := by
  unfold State.AxesOnly at h
  rw [h]
  rfl

/-! ### Lines (O46) -/

/-- An edge of INTERLOCK while it is seen, before its event. -/
def State.interlocked (s : State) : State := State.stopBoth { s with pins := { s.pins with interlock := true } } .interlocked

theorem State.interlockEdge_asserted {s : State} (run : s.hold = .running) (low : s.pins.interlock = false) :
    s.interlockEdge true = s.interlocked.raiseCode (eventCode .interlockOn 0) (natWord s.activeCount) 0 := by
  unfold State.interlockEdge
  rw [if_neg (by simp [low])]
  dsimp only
  rw [if_neg (by simp [run])]
  rfl

theorem State.interlockEdge_released {s : State} (run : s.hold = .running) (high : s.pins.interlock = true) :
    s.interlockEdge false
      = State.raiseCode { s with pins := { s.pins with interlock := false } } (eventCode .interlockOff 0) 0 0 := by
  unfold State.interlockEdge
  rw [if_neg (by simp [high])]
  dsimp only
  rw [if_neg (by simp [run])]
  rfl

theorem State.interlockEdge_same {s : State} {level : Bool} (same : s.pins.interlock = level) : s.interlockEdge level = s := if_pos same

/-- SUPPLY_LOW has moved, and the allotments are those of the other capacity (R117). -/
def State.supplied (s : State) (low : Bool) : State :=
  State.rebudget { s with pins := { s.pins with supplyLow := low }, budget := { s.budget with capacity := Config.capacity low } }

theorem State.supplyEdge_eq {s : State} {low : Bool} (run : s.hold = .running) (moved : s.pins.supplyLow = !low) :
    s.supplyEdge low
      = (s.supplied low).raiseCode (eventCode (if low then .supplyLow else .supplyOk) 0) (natWord (Config.capacity low))
          (natWord s.totalDraw) := by
  unfold State.supplyEdge
  rw [if_neg (by rw [moved]; cases low <;> decide)]
  dsimp only
  rw [if_neg (by simp [run])]
  rfl

/-- A change of SUPPLY_LOW out of a ready state: the capacity, the allotments formed anew, and one event. -/
theorem State.Ready.supplyEdge {s : State} (h : s.Ready) (room : s.RingOpen) {low : Bool} (moved : s.pins.supplyLow = !low) :
    let t := (s.supplyEdge low).settle
    t.pins = { s.pins with supplyLow := low } ∧ t.budget.capacity = Config.capacity low
      ∧ t.budget.desire = s.budget.desire ∧ t.budget.order = s.budget.order ∧ t.budget.allot = t.allotNow
      ∧ s.Records t (eventCode (if low then .supplyLow else .supplyOk) 0) (natWord (Config.capacity low)) (natWord s.totalDraw)
      ∧ s.AxesSameButDrive t ∧ t.mem = s.mem ∧ t.clock = s.clock ∧ t.slots = s.slots ∧ t.placement = s.placement
      ∧ s.SameCooling t ∧ s.SameMesh t ∧ t.notice = s.notice := by
  intro t
  have eq : t = ((s.supplied low).placeRecord (eventCode (if low then .supplyLow else .supplyOk) 0) (natWord (Config.capacity low))
      (natWord s.totalDraw)).settle := by
    show (s.supplyEdge low).settle = _
    rw [State.supplyEdge_eq h.running moved, State.raiseCode_open (s := s.supplied low) h.running room]
  obtain ⟨keeps, mesh, slots, records⟩ := h.settle_recorded
    (x := (s.supplied low).placeRecord (eventCode (if low then .supplyLow else .supplyOk) 0) (natWord (Config.capacity low))
      (natWord s.totalDraw)) rfl rfl rfl (h.noMesh rfl) rfl
  rw [← eq] at keeps mesh slots records
  obtain ⟨mem, ⟨clock, pins, _⟩, ⟨axes, placement, budget⟩, cooling, notice, _⟩ := keeps.blocks
  have allot : t.AllotInv :=
    State.AllotInv.of_same (s := s.supplied low) rfl budget (by rw [cooling.1]; rfl)
  refine ⟨pins, by rw [budget]; rfl, by rw [budget]; rfl, by rw [budget]; rfl, allot, records, ?_, mem, clock, slots, placement,
    cooling, mesh, notice⟩
  unfold State.AxesSameButDrive
  rw [axes]
  exact State.rebudget_axes _

/-- Settles O46: each edge is one event out of the ready state, with the stops or the new allotments that come with it. -/
theorem lineEdges : Obligations.LineEdges := by
  refine ⟨fun s h room => ⟨fun low => ?_, fun high => ?_, fun high => ?_, fun low => ?_⟩,
    fun s h room => ⟨fun low => ⟨_, rfl, h.supplyEdge (low := true) room low⟩, fun high => ⟨_, rfl, h.supplyEdge (low := false) room high⟩⟩⟩
  · have only := State.stopBoth_only { s with pins := { s.pins with interlock := true } } .interlocked
    obtain ⟨_, _, _, placement, _⟩ := only.blocks
    obtain ⟨outer, slots, events, notice, mesh, fans, thermal, power⟩ := only.lens.blocks
    obtain ⟨_, _, clock, hold, pins, mem, path, _⟩ := (State.outer_iff _ _).mp outer
    have eq := State.interlockEdge_asserted h.running low
    rw [State.raiseCode_open (s := s.interlocked) (hold.trans h.running) (by
      unfold State.RingOpen; rw [show s.interlocked.events = s.events from events]; exact room)] at eq
    obtain ⟨keeps, mesh', slots', records⟩ := h.settle_recorded
      (x := s.interlocked.placeRecord (eventCode .interlockOn 0) (natWord s.activeCount) 0)
      (code := eventCode .interlockOn 0) (va := natWord s.activeCount) (vb := 0)
      (by unfold State.placeRecord; rw [show s.interlocked.events = s.events from events]) hold slots
      (h.noMesh mesh) path
    obtain ⟨mem', ⟨clock', pins', _⟩, ⟨axes', placement', _⟩, ⟨fans', thermal', power'⟩, notice', _⟩ := keeps.blocks
    have stops := State.stoppedBoth (s := s) (u := { s with pins := { s.pins with interlock := true } })
      (fun _ => ⟨rfl, rfl⟩) axes'
    exact ⟨_, congrArg (fun x : State => Host.Outcome.next x.settle) eq, pins'.trans pins, stops.1, stops.2, records,
      mem'.trans mem, clock'.trans clock, slots', placement'.trans placement,
      ⟨fans'.trans fans, thermal'.trans thermal, power'.trans power⟩, mesh'.trans mesh, notice'.trans notice⟩
  · have eq := State.interlockEdge_released h.running high
    rw [State.raiseCode_open (s := { s with pins := { s.pins with interlock := false } }) h.running room] at eq
    obtain ⟨keeps, mesh, slots, records⟩ := h.settle_recorded
      (x := State.placeRecord { s with pins := { s.pins with interlock := false } } (eventCode .interlockOff 0) 0 0) rfl rfl rfl
      (h.noMesh rfl) rfl
    obtain ⟨mem, ⟨clock, pins, _⟩, lens, cooling, notice, _⟩ := keeps.blocks
    exact ⟨_, congrArg (fun x : State => Host.Outcome.next x.settle) eq, pins, records, mem, clock, slots, lens, cooling, mesh, notice⟩
  · exact congrArg Host.Outcome.next ((congrArg State.settle (State.interlockEdge_same high)).trans
      (State.settle_still s (Option.isNone_iff_eq_none.mp h.still)))
  · exact congrArg Host.Outcome.next ((congrArg State.settle (State.interlockEdge_same low)).trans
      (State.settle_still s (Option.isNone_iff_eq_none.mp h.still)))

/-! ### The loss of the host (O50) -/

/-- The heartbeat monitor is LOST (R113). -/
def State.lost (s : State) : State :=
  { s with thermal := { s.thermal with hb := .lost, hbTimer := none, lostAt := s.clock.uptime } }

theorem State.hostLost_eq (s : State) :
    s.hostLost = State.stopBoth (State.refreshFans (s.lost.raiseCode (eventCode .hostLost 0) s.thermal.lastBeat 0)) .hostLost := rfl

theorem State.hundred_le_largestTerm {s : State} (lost : s.thermal.hb = .lost) (f : FanId) : 100 ≤ s.largestTerm f :=
  le_foldl_max (.inr (by simp [State.autonomous, lost]))

/-- Settles O50: the host is lost, one event is placed, every demand is formed anew, and both axes stop. -/
theorem heartbeatTimeout : Obligations.HeartbeatTimeout := by
  intro s left h room armed timer
  have running : s.hold = .running := h.running
  obtain ⟨hold, _, mem, slots, placement, _, notice, events⟩ := s.pass_blocks (1000 * left)
  have path := h.pass_path (1000 * left)
  have noMesh := State.pass_meshClaim (1000 * left) (h.noMesh rfl)
  obtain ⟨mode, _⟩ := s.pass_power (1000 * left)
  have beat : (s.pass (1000 * left)).thermal.lastBeat = s.thermal.lastBeat := by
    obtain ⟨us', ms, e⟩ := s.pass_aged (1000 * left)
    rw [e]
    rfl
  have axis := s.pass_axis (1000 * left)
  have eq : s.heartbeatExpiry = (s.passMs left).hostLost := by
    unfold State.heartbeatExpiry
    rw [timer]
    exact if_pos armed
  have clock : (s.pass (1000 * left)).clock = (s.passMs left).clock := rfl
  rw [State.passMs, State.hostLost_eq, beat] at eq
  generalize s.pass (1000 * left) = u at *
  rw [State.raiseCode_open (s := u.lost) (hold.trans running) (by unfold State.RingOpen; rw [show u.lost.events = s.events from events]; exact room)]
    at eq
  have fansOnly := (u.lost.placeRecord (eventCode .hostLost 0) s.thermal.lastBeat 0).refreshFans_only
  have demands := (u.lost.placeRecord (eventCode .hostLost 0) s.thermal.lastBeat 0).refreshFans_commanded
  have lens := (State.stopBoth_only (u.lost.placeRecord (eventCode .hostLost 0) s.thermal.lastBeat 0).refreshFans .hostLost)
  obtain ⟨outer, slots', events', notice', mesh', fans', thermal', power'⟩ := lens.lens.blocks
  obtain ⟨_, _, clock', hold', _, mem', path', _⟩ := (State.outer_iff _ _).mp (outer.trans fansOnly.outer)
  obtain ⟨_, _, _, placement', _⟩ := lens.blocks
  obtain ⟨keeps, _, slots'', records⟩ := h.settle_recorded (code := eventCode .hostLost 0) (va := s.thermal.lastBeat) (vb := 0)
    (x := (u.lost.placeRecord (eventCode .hostLost 0) s.thermal.lastBeat 0).refreshFans.stopBoth .hostLost)
    (by
      rw [events', fansOnly.events, clock']
      unfold State.placeRecord
      rw [show u.lost.events = s.events from events])
    (hold'.trans hold) ((slots'.trans fansOnly.slots).trans slots)
    (State.meshClaim_none_congr u _ (mesh'.trans fansOnly.mesh) noMesh) (path'.trans path)
  obtain ⟨mem'', ⟨clock'', _⟩, ⟨axes, placement'', _⟩, ⟨fans, thermal, power⟩, notice'', _⟩ := keeps.blocks
  have time := clock''.trans clock'
  have heat := (thermal.trans thermal').trans fansOnly.thermal
  have stops := State.stoppedBoth (s := s) (fun a => by
    have same : (u.axis a).SameButDrive ((u.lost.placeRecord (eventCode .hostLost 0) s.thermal.lastBeat 0).refreshFans.axis a) := by
      cases a
      · exact fansOnly.axes.1
      · exact fansOnly.axes.2
    rw [same.eq]
    exact axis a) axes
  refine ⟨_, congrArg (fun x : State => Host.Outcome.next x.settle) eq, by rw [heat]; rfl, by rw [heat]; rfl, ?_, ?_, time.trans clock,
    records, stops.1, stops.2, fun awake f => ?_, (mem''.trans mem').trans mem, slots'',
    placement''.trans (placement'.trans (fansOnly.placement.trans placement)), notice''.trans (notice'.trans (fansOnly.notice.trans notice))⟩
  · exact (State.dim_iff _).mpr (.inr (.inr (by rw [heat]; rfl)))
  · rw [heat, time]
    rfl
  · have awake' : (u.lost.placeRecord (eventCode .hostLost 0) s.thermal.lastBeat 0).power.mode ≠ .standby := fun q => awake (mode.symm.trans q)
    have enough := State.le_demandOf awake'
      (State.hundred_le_largestTerm (s := u.lost.placeRecord (eventCode .hostLost 0) s.thermal.lastBeat 0) rfl f)
    obtain ⟨demand, commanded, _⟩ := demands f
    rw [State.fan_congr (fans.trans fans'), demand, commanded, if_neg awake']
    exact ⟨enough, enough.trans (Nat.le_max_right _ _)⟩

end Sys2Proof.Machine
end

section
/-! SUPPORT for O47. The fan tick, the whole seconds of uptime, and the kick and clean timers (R84, R87, R92). -/

namespace Sys2Proof.Machine

/-! ### Uptime (R146) -/

theorem State.pass_uptime {s : State} (held : s.hold ≠ .powerOn) (us : Nat) (inv : s.ClockInv) :
    (s.pass us).clock.uptime = s.clock.uptime + natWord ((s.clock.usInMs + us) / 1000)
      ∧ (s.pass us).clock.fanTick = fanTickAfter s.clock.fanTick ((s.clock.usInMs + us) / 1000) := by
  by_cases zero : us = 0
  · have still : (s.clock.usInMs + us) / 1000 = 0 := by
      unfold State.ClockInv at inv
      omega
    rw [still, zero, State.pass_zero]
    exact ⟨(BitVec.add_zero _).symm, rfl⟩
  · rw [State.pass_eq_moved us zero held]
    exact ⟨rfl, rfl⟩

theorem toNat_add_natWord {u : Word} {n : Nat} (fits : u.toNat + n < 2 ^ 32) : (u + natWord n).toNat = u.toNat + n := by
  simp only [natWord, BitVec.toNat_add, BitVec.toNat_ofNat]
  omega

/-! ### One fan at a tick (R84) -/

theorem Fan.follow_fields (standby : Bool) (x : Fan) :
    (Fan.follow standby x).commanded = x.commanded ∧ (Fan.follow standby x).demand = x.demand
      ∧ (Fan.follow standby x).retries = x.retries := by
  rw [Fan.follow_keeps]
  exact ⟨rfl, rfl, rfl⟩

/-- The commanded duty that a fan falls to at a tick. -/
def Fan.fall (x : Fan) : Nat :=
  if max (x.commanded - Config.fallStep) x.demand < Config.minRunningDuty then 0 else max (x.commanded - Config.fallStep) x.demand

theorem Fan.tick_falls {x : Fan} (above : ¬ x.commanded ≤ x.demand) (standby : Bool) :
    x.tick standby = Fan.follow standby { x with commanded := x.fall } := if_neg above

theorem Fan.tick_commanded (standby : Bool) (x : Fan) :
    (x.tick standby).commanded = (if x.commanded ≤ x.demand then x.commanded else x.fall)
      ∧ (x.tick standby).demand = x.demand ∧ (x.tick standby).retries = x.retries := by
  by_cases above : x.commanded ≤ x.demand
  · rw [Fan.tick, if_pos above, if_pos above]
    exact ⟨rfl, rfl, rfl⟩
  · rw [Fan.tick_falls above, if_neg above]
    exact Fan.follow_fields _ _

theorem Fan.follow_run {standby : Bool} {x : Fan} (run : x.st = .run) (running : 0 < x.commanded) :
    (Fan.follow standby x).st = .run ∧ (Fan.follow standby x).drive = x.commanded := by
  unfold Fan.follow
  rw [run]
  dsimp only
  rw [if_neg (Nat.ne_of_gt running)]
  exact ⟨rfl, rfl⟩

/-- A running fan whose duty falls keeps running at it, and a failed one stays failed (R84, R86). -/
theorem Fan.tick_state (standby : Bool) (x : Fan) :
    (x.st = .failed → (x.tick standby).st = .failed)
      ∧ ((x.tick standby).commanded < x.commanded → x.st = .run → 0 < (x.tick standby).commanded →
          (x.tick standby).st = .run ∧ (x.tick standby).drive = (x.tick standby).commanded) := by
  by_cases above : x.commanded ≤ x.demand
  · rw [Fan.tick, if_pos above]
    exact ⟨id, fun falls => absurd falls (Nat.lt_irrefl _)⟩
  · rw [Fan.tick_falls above, (Fan.follow_fields standby { x with commanded := x.fall }).1]
    exact ⟨fun failed => (Fan.follow_failed_iff standby { x with commanded := x.fall }).mpr failed,
      fun _ run running => Fan.follow_run (x := { x with commanded := x.fall }) run running⟩

/-! ### O47 -/

/-- The whole second that is reached, before the fans tick. -/
def State.atSecond (s : State) : State :=
  { s.passMs s.clock.fanTick with clock := { (s.passMs s.clock.fanTick).clock with fanTick := 1000 } }

theorem State.wholeSecond_eq {s : State} (run : s.hold = .running) : s.wholeSecond = s.atSecond.tickFans := by
  unfold State.wholeSecond
  rw [if_neg (by simp [run])]
  dsimp only
  rw [if_pos run]
  rfl

/-- The next tick of a clock on whole seconds is at one, as long as uptime does not wrap (R84). -/
theorem State.onSeconds_pass {s : State} (us : Nat) (on : s.OnSeconds) (held : s.hold ≠ .powerOn)
    (fits : s.clock.uptime.toNat + (s.clock.usInMs + us) / 1000 < 2 ^ 32) : (s.pass us).OnSeconds := by
  by_cases zero : us = 0
  · rw [zero, State.pass_zero]
    exact on
  · unfold State.OnSeconds at on ⊢
    rw [State.pass_eq_moved us zero held]
    show ((s.clock.uptime + natWord _).toNat + fanTickAfter _ _) % 1000 = 0
    rw [toNat_add_natWord fits]
    have tick := fanTickAfter_mod s.clock.fanTick ((s.clock.usInMs + us) / 1000)
    omega

/-- Settles O47: each is time that passes and a change of the fans' own records, with the allotments formed anew. -/
theorem fanTickAndTimers : Obligations.FanTickAndTimers := by
  refine ⟨fun s h => ?_, fun s us => State.onSeconds_pass us, fun s f left h => ⟨fun timer => ?_, fun timer => ?_⟩⟩
  · have only := s.atSecond.tickFans_only
    obtain ⟨_, _, clock, _, _, mem, _⟩ := (State.outer_iff _ _).mp only.outer
    obtain ⟨_, _, mem', slots, placement, _, notice, events⟩ := s.pass_blocks (1000 * s.clock.fanTick)
    have fan (f : FanId) : ∃ us ms, (s.atSecond.tickFans).fan f = ((s.fan f).pass us ms).tick s.atSecond.standby := by
      obtain ⟨us, ms, e⟩ := s.pass_fan (1000 * s.clock.fanTick) f
      exact ⟨us, ms, by rw [State.tickFans_fan, ← e]; rfl⟩
    refine ⟨_, congrArg Host.Outcome.next (State.wholeSecond_eq h.running), fun f => ?_, fun f => ?_, by rw [clock]; rfl,
      by rw [clock]; rfl, fun inv on fits => ?_, mem.trans mem', only.slots.trans slots, only.placement.trans placement,
      only.events.trans events, only.notice.trans notice⟩
    · obtain ⟨us, ms, e⟩ := fan f
      rw [e, (Fan.tick_commanded _ _).1]
      rfl
    · obtain ⟨us, ms, e⟩ := fan f
      rw [e]
      exact ⟨(Fan.tick_commanded _ _).2.1, (Fan.tick_commanded _ _).2.2, Fan.tick_state s.atSecond.standby ((s.fan f).pass us ms)⟩
    · rw [clock]
      show (s.pass (1000 * s.clock.fanTick)).clock.uptime.toNat % 1000 = 0
      have ms : (s.clock.usInMs + 1000 * s.clock.fanTick) / 1000 = s.clock.fanTick := by
        unfold State.ClockInv at inv
        omega
      rw [(State.pass_uptime (by rw [h.running]; decide) _ inv).1, ms, toNat_add_natWord fits]
      exact on
  · have eq : s.kickExpiry f = (s.passMs left).drawFan f ((s.passMs left).fan f).kickEnd := by
      unfold State.kickExpiry
      rw [timer]
    have only := (s.passMs left).drawFan_only f ((s.passMs left).fan f).kickEnd
    obtain ⟨_, _, clock, _, _, mem, _⟩ := (State.outer_iff _ _).mp only.outer
    obtain ⟨_, _, mem', slots, placement, _, notice, events⟩ := s.pass_blocks (1000 * left)
    obtain ⟨us, ms, fan⟩ := s.pass_fan (1000 * left) f
    refine ⟨_, congrArg Host.Outcome.next eq, ?_⟩
    rw [State.fan_drawFan_self, State.passMs, fan]
    refine ⟨rfl, rfl, rfl, rfl, rfl, rfl, rfl, rfl, fun g other => ?_, clock, mem.trans mem', only.slots.trans slots,
      only.placement.trans placement, only.events.trans events, only.notice.trans notice⟩
    obtain ⟨us', ms', same⟩ := s.pass_fan (1000 * left) g
    rw [State.fan_drawFan_other _ _ _ _ other, same]
    exact ⟨rfl, rfl⟩
  · have eq : s.cleanExpiry f
        = (s.passMs left).setFan f { (s.passMs left).fan f with retries := 0, cleanTimer := none } := by
      unfold State.cleanExpiry
      rw [timer]
    obtain ⟨_, _, mem, slots, placement, budget, notice, events⟩ := s.pass_blocks (1000 * left)
    obtain ⟨us, ms, fan⟩ := s.pass_fan (1000 * left) f
    refine ⟨_, congrArg Host.Outcome.next eq, ?_⟩
    rw [State.fan_setFan_self, State.passMs, fan]
    exact ⟨rfl, rfl, rfl, rfl, rfl, rfl, mem, slots, placement, budget, events, notice⟩

end Sys2Proof.Machine
end

section
/-! SUPPORT for O52. The mesh generator's banks when one is freed, and an event that is placed while a build begins (R71, R74). -/

namespace Sys2Proof.Machine

/-! ### What the generator's own step changes (R71) -/

/-- The generator's record alone differs. -/
theorem State.meshRun_eq (s : State) : s.meshRun = { s with mesh := s.meshRun.mesh } := by
  unfold State.meshRun State.takeSnapshot
  dsimp only
  split
  · split <;> rfl
  · rfl

theorem State.SameLens.trans {s t u : State} (a : s.SameLens t) (b : t.SameLens u) : s.SameLens u :=
  ⟨b.1.trans a.1, b.2.1.trans a.2.1, b.2.2.trans a.2.2⟩

theorem State.meshRun_blocks (s : State) :
    s.meshRun.mem = s.mem ∧ s.SameTime s.meshRun ∧ s.SameLens s.meshRun ∧ s.SameCooling s.meshRun ∧ s.SameNews s.meshRun := by
  rw [s.meshRun_eq]
  exact ⟨rfl, ⟨rfl, rfl, rfl⟩, ⟨rfl, rfl, rfl⟩, ⟨rfl, rfl, rfl⟩, rfl, rfl, rfl, rfl, rfl⟩

theorem State.meshRun_missingRun (s : State) : s.meshRun.mesh.missingRun = s.mesh.missingRun := by
  unfold State.meshRun State.takeSnapshot
  dsimp only
  split
  · split <;> rfl
  · rfl

/-- In WAIT_RETIRE with the dirty flag set and a FREE target the build begins (R71). -/
theorem State.meshRun_waitRetire {s : State} (waits : s.mesh.st = .waitRetire) (dirty : s.mesh.dirty = true)
    (read : s.mesh.awaitRead = false) (free : s.mesh.mark s.mesh.target = .free) : s.meshRun = s.takeSnapshot := by
  simp [State.meshRun, waits, dirty, read, free]

/-! ### A bank that is freed (R74) -/

/-- The generator's record once its RETIRING bank is FREE. -/
def Mesh.freed (m : Mesh) (missing : Bool) : Mesh := { m.retire with missingRun := missing }

theorem Mesh.freed_mark (m : Mesh) (missing : Bool) (bank : Bank) :
    (m.freed missing).mark bank = if m.mark bank = .retiring then .free else m.mark bank := by
  cases bank <;> rfl

/-- Freeing a bank leaves the SELECTED one alone, and so the target of a build. -/
theorem Mesh.freed_target (m : Mesh) (missing : Bool) : (m.freed missing).target = m.target := by
  unfold Mesh.freed Mesh.retire Mesh.target
  dsimp only
  by_cases retiring : m.markA = .retiring
  · rw [if_pos retiring, if_neg (by decide), if_neg (by rw [retiring]; decide)]
  · rw [if_neg retiring]

theorem Mesh.retiringCode_of_bank {m : Mesh} {bank : Bank} (retiring : m.mark bank = .retiring)
    (other : m.mark (otherBank bank) ≠ .retiring) : m.anyRetiring = true ∧ m.retiringCode = bank.number := by
  cases bank with
  | a =>
    have a : m.markA = .retiring := retiring
    exact ⟨by simp [Mesh.anyRetiring, a], if_pos a⟩
  | b =>
    have b : m.markB = .retiring := retiring
    exact ⟨by simp [Mesh.anyRetiring, b], if_neg other⟩

/-- What a freed bank does to the generator and to nothing else, once the part has settled. -/
structure State.Freed (s x t : State) (missing : Bool) : Prop where
  timer : t.mesh.retireTimer = none
  run : t.mesh.missingRun = missing
  mark : ∀ bank, t.mesh.mark bank = if s.mesh.mark bank = .retiring then .free else s.mesh.mark bank
  gen : t.mesh.gen = s.mesh.gen
  builds : s.mesh.st = .waitRetire → s.mesh.dirty = true → s.mesh.awaitRead = false → s.mesh.mark s.mesh.target = .retiring →
    t.mesh.st = .building ∧ t.mesh.snapshot = some { params := x.meshParams, gen := s.mesh.gen + 1, bank := s.mesh.target }
  mem : t.mem = x.mem
  time : x.SameTime t
  lens : x.SameLens t
  cooling : x.SameCooling t
  news : x.SameNews t
  slots : t.slots = x.slots

/-- The generator acts on its freed record: a build that waited for the bank begins (R71, R74). -/
theorem State.settle_freed {s x : State} {missing : Bool} {timer : Option Nat} (host : x.path.host = none)
    (queue : x.slots.queue = []) (mesh : x.mesh = Mesh.freed { s.mesh with retireTimer := timer } missing) :
    s.Freed x x.meshRun.settle missing := by
  have only := x.meshRun_eq
  have quiet : x.meshRun.HostQuiet := .inl (by rw [only]; exact host)
  have keeps := State.settle_keeps _ quiet
  obtain ⟨mem, time, lens, cooling, news⟩ := keeps.blocks
  obtain ⟨mem', time', lens', cooling', news'⟩ := x.meshRun_blocks
  have banks : x.meshRun.settle.mesh.banks = x.mesh.banks := (State.settle_banks _).trans x.meshRun_banks
  obtain ⟨_, gen, _, _, timer'⟩ := (Mesh.banks_iff _ _).mp banks
  have missing' : x.meshRun.settle.mesh.missingRun = x.mesh.missingRun := by
    have core : x.meshRun.settle.mesh.core = x.meshRun.mesh.core := by
      have inner := keeps.inner
      simp only [State.inner, Prod.mk.injEq] at inner
      obtain ⟨_, _, _, _, _, _, _, _, core, _⟩ := inner
      exact core
    exact (congrArg Mesh.missingRun core).trans x.meshRun_missingRun
  refine ⟨timer'.trans (by rw [mesh]; rfl), missing'.trans (by rw [mesh]; rfl), fun bank => ?_, gen.trans (by rw [mesh]; rfl),
    fun waits dirty read retiring => ?_, mem.trans mem', time'.trans time, lens'.trans lens, cooling'.trans cooling, news'.trans news,
    ?_⟩
  · rw [Mesh.mark_of_banks banks, mesh]
    cases bank <;> rfl
  · have target : x.mesh.target = s.mesh.target := by
      rw [mesh, Mesh.freed_target]
      rfl
    have begun : x.meshRun = x.takeSnapshot := by
      refine State.meshRun_waitRetire (by rw [mesh]; exact waits) (by rw [mesh]; exact dirty) (by rw [mesh]; exact read) ?_
      rw [target, mesh, Mesh.freed_mark]
      exact if_pos (by cases e : s.mesh.target <;> rw [e] at retiring <;> exact retiring)
    have filling : x.meshRun.settle.mesh.Filling { params := x.meshParams, gen := x.mesh.gen + 1, bank := x.mesh.target } := by
      rw [begun]
      exact State.settle_filling ⟨rfl, rfl, rfl⟩
    refine ⟨filling.building, ?_⟩
    rw [filling.snapshot, target, show x.mesh.gen = s.mesh.gen by rw [mesh]; rfl]
  · rw [State.settle_slots _ quiet (by rw [only]; exact queue), only]

/-! ### An event that is placed while other claims wait (R148, R175) -/

/-- The record stands behind what the event writer has on its way, whatever other producers queue as the part settles. -/
theorem State.Ready.settle_raised {s x : State} (h : s.Ready) {code : Half} {va vb : Word}
    (events : x.events = (State.placeRecord { s with clock := x.clock } code va vb).events) (path : x.path = s.path) :
    s.Raises x.settle code va vb := by
  have quiet : x.HostQuiet := .inl (by rw [path]; exact h.host)
  have placed := State.placeRecord_traffic (s := { s with clock := x.clock }) h.fedOk code va vb
  have fed : x.events.FedOk := by
    rw [events]
    exact State.placeRecord_fedOk (s := { s with clock := x.clock }) h.fedOk code va vb
  obtain ⟨_, ⟨clock, _⟩, _, _, _, p, c, _⟩ := (State.settle_keeps x quiet).blocks
  refine ⟨?_, ?_, ?_⟩
  · rw [(State.settle_ring x quiet fed).1, clock]
    unfold State.ringTraffic at placed ⊢
    rw [events, path]
    exact placed
  · rw [p, events]
    rfl
  · rw [c, events]
    rfl

/-! ### O52 -/

/-- Time passes to the end of the retirement timer, and the bank is freed. -/
def State.retired (s : State) (left : Nat) : State :=
  { s.passMs left with mesh := (s.passMs left).mesh.freed true }

theorem State.retirementTimer_eq {s : State} {left : Nat} {bank : Bank} (timer : s.mesh.retireTimer = some left)
    (retiring : s.mesh.mark bank = .retiring) (other : s.mesh.mark (otherBank bank) ≠ .retiring) :
    s.retirementTimer
      = State.meshRun (if s.mesh.missingRun then s.retired left
          else (s.retired left).raiseCode (eventCode .frameSyncMissing 0) (natWord bank.number) (s.mesh.gen.setWidth 32)) := by
  obtain ⟨any, code⟩ := Mesh.retiringCode_of_bank retiring other
  obtain ⟨us, ms, aged⟩ := s.pass_aged (1000 * left)
  unfold State.retirementTimer
  rw [timer]
  dsimp only
  rw [if_pos any]
  unfold State.retireExpiry
  dsimp only
  rw [show (s.passMs left).mesh.missingRun = s.mesh.missingRun by rw [State.passMs, aged]; rfl,
    show (s.passMs left).mesh.gen = s.mesh.gen by rw [State.passMs, aged]; rfl,
    show (s.passMs left).mesh.retiringCode = bank.number by rw [State.passMs, aged]; exact code]
  rfl

/-- Settles O52: the freed record, the build that waited for it, and the one event of a run of missing syncs. -/
theorem retiringBankIsFreed : Obligations.RetiringBankIsFreed := by
  intro s h room
  refine ⟨?_, fun left bank timer retiring other => ?_⟩
  · have eq : exec .fsync s = .next (State.meshRun { s with mesh := s.mesh.freed false }).settle :=
      congrArg Host.Outcome.next (if_pos h.running)
    have f := State.settle_freed (s := s) (x := { s with mesh := s.mesh.freed false }) (timer := s.mesh.retireTimer) h.host h.queue rfl
    obtain ⟨clock, pins, hold⟩ := f.time
    exact ⟨_, eq, f.timer, f.run, f.mark, f.builds, f.gen, ⟨f.mem, clock, pins, hold⟩, f.lens, f.cooling, f.news, f.slots⟩
  · have eq := State.retirementTimer_eq timer retiring other
    obtain ⟨hold, _, mem, slots, placement, _, notice, events⟩ := s.pass_blocks (1000 * left)
    have path := h.pass_path (1000 * left)
    obtain ⟨us, ms, aged⟩ := s.pass_aged (1000 * left)
    have mesh : (s.retired left).mesh = Mesh.freed { s.mesh with retireTimer := countDown ms s.mesh.retireTimer } true := by
      unfold State.retired State.passMs
      rw [aged]
      rfl
    have params : (s.retired left).meshParams = s.meshParams := by
      unfold State.retired State.passMs
      rw [aged]
      rfl
    cases missing : s.mesh.missingRun with
    | true =>
      rw [missing, if_pos rfl] at eq
      have f := State.settle_freed (s := s) (x := s.retired left) (by rw [show (s.retired left).path = s.path from path]; exact h.host)
        (by rw [show (s.retired left).slots = s.slots from slots]; exact h.queue) mesh
      have builds := f.builds
      rw [params] at builds
      obtain ⟨news, p, c, lost, full⟩ := f.news
      refine ⟨_, congrArg (fun x : State => Host.Outcome.next x.settle) eq, f.timer, f.run, f.mark, fun _ => ⟨news.trans notice, ?_⟩, nofun,
        builds, f.gen, f.time.1, f.mem.trans mem, f.slots.trans slots, f.lens.2.1.trans placement⟩
      rw [← events]
      exact ⟨p, c, lost, full⟩
    | false =>
      rw [missing, if_neg (by decide)] at eq
      have placed := State.raiseCode_open (s := s.retired left) (hold.trans h.running)
        (by unfold State.RingOpen; rw [show (s.retired left).events = s.events from events]; exact room)
        (eventCode .frameSyncMissing 0) (natWord bank.number) (s.mesh.gen.setWidth 32)
      rw [placed] at eq
      generalize made : (s.retired left).placeRecord (eventCode .frameSyncMissing 0) (natWord bank.number) (s.mesh.gen.setWidth 32) = x at eq
      have f := State.settle_freed (s := s) (x := x) (by rw [← made]; exact (congrArg PathUnit.host path).trans h.host)
        (by rw [← made]; exact (congrArg SlotUnit.queue slots).trans h.queue) (by rw [← made]; exact mesh)
      have builds := f.builds
      rw [show x.meshParams = s.meshParams by rw [← made]; exact params] at builds
      have raises : s.Raises x.meshRun.settle (eventCode .frameSyncMissing 0) (natWord bank.number) (s.mesh.gen.setWidth 32) := by
        refine h.settle_raised ?_ ?_
        · rw [x.meshRun_eq, ← made]
          unfold State.placeRecord
          rw [show (s.retired left).events = s.events from events]
        · rw [x.meshRun_eq, ← made]
          exact path
      refine ⟨_, congrArg (fun x : State => Host.Outcome.next x.settle) eq, f.timer, f.run, f.mark, nofun, fun _ => ⟨raises, ?_⟩,
        builds, f.gen, ?_, ?_, ?_, ?_⟩
      · rw [f.news.1, ← made]; exact notice
      · rw [f.time.1, ← made]; rfl
      · rw [f.mem, ← made]; exact mem
      · rw [f.slots, ← made]; exact slots
      · rw [f.lens.2.1, ← made]; exact placement

end Sys2Proof.Machine
end

section
/-! SUPPORT for O51 and O35. The end of a cool-down: what the budget unit does to the axes, the parks that are ended, and the elapsed
time (R123, R131, R132, R133, R134). -/

namespace Sys2Proof.Machine

/-! ### What the budget unit does to an axis (R123) -/

/-- The budget unit may lower the drive of an axis that drives, and changes nothing else. -/
def Axis.Redriven (x y : Axis) : Prop := x.SameButDrive y ∧ (x.st.driving = false → y = x)

theorem Axis.Redriven.refl (x : Axis) : x.Redriven x := ⟨.refl x, fun _ => rfl⟩

theorem Axis.Redriven.trans {x y z : Axis} (a : x.Redriven y) (b : y.Redriven z) : x.Redriven z :=
  ⟨a.1.trans b.1, fun still => by
    have same := a.2 still
    exact (b.2 (same ▸ still)).trans same⟩

theorem Axis.takeAllotment_redriven (x : Axis) (c : Machine.Class) : x.Redriven (x.takeAllotment c) :=
  ⟨x.takeAllotment_sameButDrive c, fun still => Axis.takeAllotment_of_still still c⟩

theorem State.rebudget_redriven (s : State) (b : AxisId) : (s.axis b).Redriven (s.rebudget.axis b) := by
  cases b <;> exact Axis.takeAllotment_redriven _ _

theorem State.drawFan_redriven (s : State) (f : FanId) (x : Fan) (b : AxisId) : (s.axis b).Redriven ((s.drawFan f x).axis b) :=
  State.rebudget_redriven (s.setFan f x) b

theorem State.refreshFans_redriven (s : State) (b : AxisId) : (s.axis b).Redriven (s.refreshFans.axis b) :=
  ((s.drawFan_redriven _ _ b).trans (State.drawFan_redriven _ _ _ b)).trans (State.drawFan_redriven _ _ _ b)

theorem State.stopCause_redriven (s : State) {a b : AxisId} (c : ResCode) (other : b ≠ a) :
    (s.axis b).Redriven ((s.stopCause a c).axis b) :=
  ⟨s.axis_stopCause_other c other, s.axis_stopCause_still c other⟩

/-! ### Parks that the sequencer ends (R132, R135) -/

/-- What the end of a park does to an axis, whether or not it was waited for. -/
def Axis.ParkEnded (x y : Axis) (waits : Prop) (c : ResCode) : Prop :=
  (waits → y.pendingPark = false) ∧ (¬ waits → y.pendingPark = x.pendingPark)
    ∧ (waits → x.runsPark = true → x.st.active = true → y.st = .stopping ∧ y.drive.duty = 0
        ∧ ∀ m, x.move = some m → ∃ n, y.move = some n ∧ n.kind = m.kind ∧ n.owner = m.owner
            ∧ n.result = some (m.result.getD { cls := .ended, code := c }))
    ∧ (¬ (waits ∧ x.runsPark = true ∧ x.st.active = true) → y.st = x.st ∧ y.move = x.move)

theorem Axis.ParkEnded.parkEnds {s t : State} {a : AxisId} {c : ResCode}
    (h : (s.axis a).ParkEnded (t.axis a) (s.power.park.get a = .waiting) c) : s.ParkEnds t a c := h

theorem Axis.ParkEnded.redriven {x y z : Axis} {waits : Prop} {c : ResCode} (h : x.ParkEnded y waits c) (r : y.Redriven z) :
    x.ParkEnded z waits c := by
  obtain ⟨drops, keeps, stops, goes⟩ := h
  have eq := r.1.eq
  refine ⟨fun w => by rw [eq]; exact drops w, fun n => by rw [eq]; exact keeps n, fun w runs active => ?_, fun n => by
    rw [eq]; exact goes n⟩
  have stopped := stops w runs active
  rw [r.2 (by rw [stopped.1]; rfl)]
  exact stopped

/-- Only the pending park, the state and the move of the axis before count. -/
theorem Axis.ParkEnded.of_same {x x' y : Axis} {waits : Prop} {c : ResCode} (h : x'.ParkEnded y waits c)
    (pending : x'.pendingPark = x.pendingPark) (st : x'.st = x.st) (move : x'.move = x.move) : x.ParkEnded y waits c := by
  have runs : x'.runsPark = x.runsPark := by unfold Axis.runsPark; rw [move]
  unfold Axis.ParkEnded at h
  rw [pending, st, move, runs] at h
  exact h

theorem Axis.parkEnded_refl {x : Axis} {waits : Prop} (n : ¬ waits) (c : ResCode) : x.ParkEnded x waits c :=
  ⟨fun w => absurd w n, fun _ => rfl, fun w => absurd w n, fun _ => ⟨rfl, rfl⟩⟩

/-- The axis without its pending park. -/
def Axis.unparked (x : Axis) : Axis := { x with pendingPark := false }

theorem PerAxis.set_get_self {α : Type} (p : PerAxis α) (a : AxisId) : p.set a (p.get a) = p := by cases a <;> rfl

theorem State.settlePark_waits {s : State} {a : AxisId} (waits : s.power.park.get a = .waiting) (c : ResCode) :
    s.settlePark a c
      = (if (s.axis a).runsPark then (s.setAxis a (s.axis a).unparked).stopCause a c else s.setAxis a (s.axis a).unparked).setPark a
          (.result (endedWith c)) := by
  unfold State.settlePark
  rw [if_pos waits]
  dsimp only
  rw [State.axis_setAxis_self]
  rfl

/-- The end of a park reaches the axes, the budget, and the sequencer's park progress. -/
theorem State.settlePark_eq (s : State) (a : AxisId) (c : ResCode) :
    s.settlePark a c = { s with
      axes := (s.settlePark a c).axes
      budget := (s.settlePark a c).budget
      power := { s.power with park := s.power.park.set a (endedPark (s.power.park.get a) c) } } := by
  by_cases waits : s.power.park.get a = .waiting
  · have only : (s.setAxis a (s.axis a).unparked).AxesOnly
        (if (s.axis a).runsPark then (s.setAxis a (s.axis a).unparked).stopCause a c else s.setAxis a (s.axis a).unparked) := by
      split
      · exact State.stopCause_only _ a c
      · exact .refl _
    rw [State.settlePark_waits waits, endedPark, if_pos waits]
    generalize (if (s.axis a).runsPark then (s.setAxis a (s.axis a).unparked).stopCause a c else s.setAxis a (s.axis a).unparked) = u
      at only
    unfold State.AxesOnly at only
    rw [only]
    rfl
  · rw [show s.settlePark a c = s from if_neg waits, endedPark, if_neg waits, PerAxis.set_get_self]

theorem State.settlePark_axis (s : State) (a : AxisId) (c : ResCode) :
    (s.axis a).ParkEnded ((s.settlePark a c).axis a) (s.power.park.get a = .waiting) c
      ∧ ∀ b, b ≠ a → (s.axis b).Redriven ((s.settlePark a c).axis b) := by
  by_cases waits : s.power.park.get a = .waiting
  · rw [State.settlePark_waits waits]
    show (s.axis a).ParkEnded (State.axis (ite _ _ _) a) _ c ∧ ∀ b, b ≠ a → (s.axis b).Redriven (State.axis (ite _ _ _) b)
    by_cases runs : (s.axis a).runsPark = true
    · rw [if_pos runs]
      refine ⟨?_, fun b other => ?_⟩
      · cases active : (s.axis a).st.active with
        | true =>
          have stops : ((s.setAxis a (s.axis a).unparked).stopCause a c).axis a = (s.axis a).unparked.toStopping (endedWith c) := by
            rw [State.stopCause_active (by rw [State.axis_setAxis_self]; exact active), (State.axis_enterStopping _ a _).1,
              State.axis_setAxis_self]
          rw [stops]
          exact ⟨fun _ => rfl, fun n => absurd waits n,
            fun _ _ _ => ⟨rfl, rfl, fun m move => ⟨_, congrArg (Option.map _) move, rfl, rfl, rfl⟩⟩,
            fun n => absurd ⟨waits, runs, active⟩ n⟩
        | false =>
          rw [State.stopCause_still (by rw [State.axis_setAxis_self]; exact active), State.axis_setAxis_self]
          exact ⟨fun _ => rfl, fun n => absurd waits n, fun _ _ q => absurd (active.symm.trans q) (by decide), fun _ => ⟨rfl, rfl⟩⟩
      · have other' := (s.setAxis a (s.axis a).unparked).stopCause_redriven c other
        rwa [State.axis_setAxis_other _ _ _ _ other] at other'
    · rw [if_neg runs]
      refine ⟨?_, fun b other => ?_⟩
      · rw [State.axis_setAxis_self]
        exact ⟨fun _ => rfl, fun n => absurd waits n, fun _ q => absurd q runs, fun _ => ⟨rfl, rfl⟩⟩
      · rw [State.axis_setAxis_other _ _ _ _ other]
        exact .refl _
  · rw [show s.settlePark a c = s from if_neg waits]
    exact ⟨Axis.parkEnded_refl waits c, fun b _ => .refl _⟩

/-- The parks that the sequencer waits for are ended, H first. -/
def State.parksEnded (s : State) (c : ResCode) : State := (s.settlePark .h c).settlePark .v c

def Power.parksEnded (q : Power) (c : ResCode) : Power :=
  { q with park := { h := endedPark q.park.h c, v := endedPark q.park.v c } }

theorem State.parksEnded_eq (s : State) (c : ResCode) :
    s.parksEnded c = { s with
      axes := (s.parksEnded c).axes
      budget := (s.parksEnded c).budget
      power := s.power.parksEnded c } := by
  have first := s.settlePark_eq .h c
  have second := (s.settlePark .h c).settlePark_eq .v c
  unfold State.parksEnded
  rw [second, first]
  rfl

theorem State.parksEnded_axis (s : State) (c : ResCode) (a : AxisId) :
    (s.axis a).ParkEnded ((s.parksEnded c).axis a) (s.power.park.get a = .waiting) c := by
  obtain ⟨self, other⟩ := s.settlePark_axis .h c
  obtain ⟨self', other'⟩ := (s.settlePark .h c).settlePark_axis .v c
  cases a with
  | h => exact self.redriven (other' .h (by decide))
  | v =>
    have park : (s.settlePark .h c).power.park.get .v = s.power.park.get .v := by
      rw [s.settlePark_eq]
      rfl
    rw [park] at self'
    have eq := (other .v (by decide)).1.eq
    exact self'.of_same (by rw [eq]) (by rw [eq]) (by rw [eq])

end Sys2Proof.Machine
end

section
/-! SUPPORT for O51 and O35. The end of a cool-down and its clock, and POWER_UP (R98, R131 to R135). -/

namespace Sys2Proof.Machine

/-! ### The clock of a cool-down (R129, R131) -/

/-- In a cool-down the elapsed time is the time that passes, up to its end. -/
theorem State.passMs_power {s : State} (mode : s.power.mode = .cooldown) (held : s.hold ≠ .powerOn) (inv : s.ClockInv) {at_ : Nat}
    (from_ : s.power.elapsed ≤ at_) (fits : at_ ≤ 300000) :
    (s.passMs (at_ - s.power.elapsed)).power = { s.power with elapsed := at_ } := by
  unfold State.passMs
  by_cases zero : 1000 * (at_ - s.power.elapsed) = 0
  · have same : s.power.elapsed = at_ := by omega
    rw [zero, State.pass_zero, ← same]
  · have ms : (s.clock.usInMs + 1000 * (at_ - s.power.elapsed)) / 1000 = at_ - s.power.elapsed := by
      unfold State.ClockInv at inv
      omega
    rw [State.pass_eq_moved _ zero held]
    show s.power.pass ((s.clock.usInMs + 1000 * (at_ - s.power.elapsed)) / 1000) = _
    rw [ms, Power.pass, if_pos mode, show min Config.cooldownMaxMs (s.power.elapsed + (at_ - s.power.elapsed)) = at_ by
      simp only [Config.cooldownMaxMs]
      omega]

/-- The time of a cool-down's check or end has come. -/
def State.cooledTo (s : State) (at_ : Nat) : State := (s.passMs (at_ - s.power.elapsed)).setMinMet

theorem State.cooledTo_power {s : State} (mode : s.power.mode = .cooldown) (held : s.hold ≠ .powerOn) (inv : s.ClockInv) {at_ : Nat}
    (from_ : s.power.elapsed ≤ at_) (fits : at_ ≤ 300000) :
    (s.cooledTo at_).power = { s.power with elapsed := at_, minMet := true } :=
  congrArg (fun q : Power => { q with minMet := true }) (State.passMs_power mode held inv from_ fits)

theorem State.cooledTo_blocks (s : State) (at_ : Nat) :
    (s.cooledTo at_).hold = s.hold ∧ (s.cooledTo at_).pins = s.pins ∧ (s.cooledTo at_).mem = s.mem
      ∧ (s.cooledTo at_).slots = s.slots ∧ (s.cooledTo at_).placement = s.placement ∧ (s.cooledTo at_).budget = s.budget
      ∧ (s.cooledTo at_).notice = s.notice ∧ (s.cooledTo at_).events = s.events :=
  s.pass_blocks _

/-- Time that passes leaves the levels, readings and faults of the channels alone. -/
theorem State.cooledTo_channel (s : State) (at_ : Nat) (d : ChannelId) :
    ((s.cooledTo at_).channel d).reading = (s.channel d).reading ∧ ((s.cooledTo at_).channel d).fault = (s.channel d).fault
      ∧ ((s.cooledTo at_).channel d).level = (s.channel d).level := by
  obtain ⟨us, ms, aged⟩ := s.pass_aged (1000 * (at_ - s.power.elapsed))
  show ((s.pass _).channel d).reading = _ ∧ ((s.pass _).channel d).fault = _ ∧ ((s.pass _).channel d).level = _
  rw [aged]
  cases d <;> exact ⟨rfl, rfl, rfl⟩

theorem State.cooledTo_axis (s : State) (at_ : Nat) (a : AxisId) :
    ((s.cooledTo at_).axis a).pendingPark = (s.axis a).pendingPark ∧ ((s.cooledTo at_).axis a).st = (s.axis a).st
      ∧ ((s.cooledTo at_).axis a).move = (s.axis a).move := by
  obtain ⟨us, ms, aged⟩ := s.pass_aged (1000 * (at_ - s.power.elapsed))
  show ((s.pass _).axis a).pendingPark = _ ∧ ((s.pass _).axis a).st = _ ∧ ((s.pass _).axis a).move = _
  rw [aged]
  cases a <;> exact ⟨rfl, rfl, rfl⟩

theorem State.highestLevel_congr {s t : State} (level : ∀ d, (t.channel d).level = (s.channel d).level) :
    t.highestLevel = s.highestLevel := by
  have source := level .source
  have panel := level .panel
  have board := level .board
  have inlet := level .inlet
  simp only [State.channel, PerChannel.get] at source panel board inlet
  simp only [State.highestLevel, source, panel, board, inlet]

/-! ### The end of a cool-down (R133, R134) -/

/-- The power sequencer after a cool-down: STANDBY, or a re-cool at once. -/
def State.cooledPower (s : State) : Power :=
  if Level.hot.rank ≤ s.highestLevel.rank then recoolPower else { s.power with mode := .standby, ref := none }

/-- The thermal monitor after a cool-down: disarmed, and in STANDBY with slower readings. -/
def State.cooledThermal (s : State) : Thermal :=
  { s.thermal with
    hb := .disarmed
    hbTimer := none
    channels :=
      if Level.hot.rank ≤ s.highestLevel.rank then s.thermal.channels
      else s.thermal.channels.map (fun c => { c with timer := Config.readingStandbyMs }) }

/-- The cool-down has ended and its POWER_DOWN is completed; the fans have not yet taken their demand. -/
def State.cooled (s : State) (k : SlotId) (r : Result) : State :=
  { s with slots := (s.complete k r s.coolBody).slots, power := s.cooledPower, thermal := s.cooledThermal }

theorem State.endCooldown_eq {s : State} {k : SlotId} (ref : s.power.ref = some k) (r : Result) :
    s.endCooldown r = (s.cooled k r).refreshFans.raiseNotice .power := by
  have level : State.highestLevel { s.complete k r s.coolBody with power := { (s.complete k r s.coolBody).power with ref := none } }
      = s.highestLevel := by
    rw [s.complete_eq]
    rfl
  unfold State.endCooldown State.cooled State.cooledPower State.cooledThermal
  rw [ref]
  dsimp only [State.completeRef]
  rw [level]
  by_cases hot : Level.hot.rank ≤ s.highestLevel.rank
  · rw [if_pos hot, if_pos hot, if_pos hot, s.complete_eq]
    rfl
  · rw [if_neg hot, if_neg hot, if_neg hot, s.complete_eq]
    rfl

theorem State.raiseNotice_running {s : State} (run : s.hold = .running) (n : NoticeSource) :
    s.raiseNotice n = { s with notice := { s.notice with pend := s.notice.pend ||| n.bit } } := if_pos run

/-- What the end of a cool-down leaves of the state before it, once the part has settled. -/
structure State.CooledDown (y t : State) (k : SlotId) (r : Result) : Prop where
  queue : t.slots.queue = [{ slot := k, result := r, body := y.coolBody }]
  power : t.power = y.cooledPower
  thermal : t.thermal = y.cooledThermal
  fan : ∀ f, t.fan f = (y.fan f).takeDemand (y.cooled k r).standby ((y.cooled k r).demandOf f)
  axis : ∀ a, (y.axis a).Redriven (t.axis a)
  notice : t.notice = { y.notice with pend := y.notice.pend ||| NoticeSource.power.bit }
  time : y.SameTime t
  mem : t.mem = y.mem
  placement : t.placement = y.placement
  mark : t.events.p = y.events.p

theorem State.settle_endCooldown {y : State} {k : SlotId} (r : Result) (ref : y.power.ref = some k) (run : y.hold = .running)
    (host : y.path.host = none) (queue : y.slots.queue = []) (writer : y.slots.writer = Initial.progress) :
    y.CooledDown (y.endCooldown r).settle k r := by
  have only := (y.cooled k r).refreshFans_only
  obtain ⟨_, _, clock, hold, pins, mem, path, _⟩ := (State.outer_iff _ _).mp only.outer
  have raised := State.raiseNotice_running (s := (y.cooled k r).refreshFans) (hold.trans run) .power
  have slots : (y.endCooldown r).slots = (y.complete k r y.coolBody).slots := by
    rw [State.endCooldown_eq ref, raised]
    exact only.slots
  have head : (y.endCooldown r).slots.queue = [{ slot := k, result := r, body := y.coolBody }] := by
    rw [slots]
    show (y.setHolder k .completing).slots.queue ++ _ = _
    rw [State.setHolder_queue, queue]
    rfl
  have quiet : (y.endCooldown r).HostQuiet := by
    refine .inl ?_
    rw [State.endCooldown_eq ref, raised]
    exact (congrArg PathUnit.host path).trans host
  have waits := State.settle_headWaits head (List.cons_ne_nil _ _)
    ((congrArg SlotUnit.writer slots).trans ((y.setHolder_writer k .completing).trans writer)) quiet
  obtain ⟨mem', ⟨clock', pins', hold'⟩, ⟨axes', placement', _⟩, ⟨fans', thermal', power'⟩, notice', p', _⟩ :=
    (State.settle_keeps _ quiet).blocks
  have queued := waits.queue.trans head
  rw [State.endCooldown_eq ref, raised] at mem' clock' pins' hold' axes' placement' fans' thermal' power' notice' p' queued ⊢
  refine ⟨queued, power'.trans only.power, thermal'.trans only.thermal, fun f => ?_, fun a => ?_, ?_,
    ⟨clock'.trans clock, pins'.trans pins, hold'.trans hold⟩, mem'.trans mem, placement'.trans only.placement,
    p'.trans (congrArg EventWriter.p only.events)⟩
  · rw [State.fan_congr fans']
    exact (y.cooled k r).refreshFans_fan f
  · rw [show State.axis (State.settle _) a = (y.cooled k r).refreshFans.axis a from congrArg (fun q : PerAxis Axis => q.get a) axes']
    exact (y.cooled k r).refreshFans_redriven a
  · rw [notice', only.notice]
    rfl

theorem State.parksEnded_of_none {s : State} (h : s.power.park.h ≠ .waiting) (v : s.power.park.v ≠ .waiting) (c : ResCode) :
    s.parksEnded c = s := by
  unfold State.parksEnded
  rw [show s.settlePark .h c = s from if_neg h]
  exact if_neg v

/-! ### The commands of the cool-down's clock (O51) -/

theorem State.coolDone_eq_false {s : State}
    (why : 90 < s.thermal.channels.source.reading ∨ s.thermal.channels.source.fault = true ∨ s.power.park.h = .waiting
      ∨ s.power.park.v = .waiting) : s.coolDone = false := by
  unfold State.coolDone
  rcases why with hot | fault | h | v
  · have above : ¬ s.thermal.channels.source.reading ≤ Config.cooledCode := by
      simp only [Config.cooledCode]
      omega
    simp [above]
  · simp [fault]
  · simp [h]
  · simp [v]

theorem State.coolDone_eq_true {s : State} (mode : s.power.mode = .cooldown) (minMet : s.power.minMet = true)
    (cool : s.thermal.channels.source.reading ≤ 90) (sound : s.thermal.channels.source.fault = false)
    (h : s.power.park.h ≠ .waiting) (v : s.power.park.v ≠ .waiting) : s.coolDone = true := by
  have cooled : s.thermal.channels.source.reading ≤ Config.cooledCode := cool
  simp [State.coolDone, mode, minMet, cooled, sound, h, v]

/-- The state in which the commands of the cool-down's clock end it. -/
theorem State.exec_endsCooldown {s : State} {c : Instr} {r : Result} {at_ : Nat} (run : s.hold = .running) (inv : s.ClockInv)
    (mode : s.power.mode = .cooldown) (from_ : s.power.elapsed ≤ at_)
    (which : (c = .minimumMet ∧ s.power.minMet = false ∧ at_ = 60000 ∧ s.thermal.channels.source.reading ≤ 90
        ∧ s.thermal.channels.source.fault = false ∧ s.power.park.h ≠ .waiting ∧ s.power.park.v ≠ .waiting
        ∧ r = { cls := .done, code := .ok })
      ∨ (c = .cooldownTimeout ∧ at_ = 300000 ∧ r = { cls := .ended, code := .cooldownTimeout })) :
    exec c s = .next (((s.cooledTo at_).parksEnded .cooldownTimeout).endCooldown r).settle ∧ at_ ≤ 300000 := by
  have running : (s.cooledTo at_).hold = .running := (s.cooledTo_blocks at_).1.trans run
  rcases which with ⟨rfl, minMet, rfl, cool, sound, h, v, rfl⟩ | ⟨rfl, rfl, rfl⟩
  · have power := State.cooledTo_power mode (by rw [run]; decide) inv from_ (by decide)
    obtain ⟨reading, fault, _⟩ := s.cooledTo_channel 60000 .source
    have done : (s.cooledTo 60000).coolDone = true :=
      State.coolDone_eq_true (by rw [power]; exact mode) (by rw [power])
        (show ((s.cooledTo 60000).channel .source).reading ≤ 90 from reading ▸ cool)
        (show ((s.cooledTo 60000).channel .source).fault = false from fault ▸ sound)
        (by rw [power]; exact h) (by rw [power]; exact v)
    have ends : (s.cooledTo 60000).checkCooldown = (s.cooledTo 60000).endCooldown doneOk := if_pos ⟨running, done⟩
    rw [State.parksEnded_of_none (by rw [power]; exact h) (by rw [power]; exact v)]
    refine ⟨?_, by decide⟩
    show Host.Outcome.next s.minimumExpiry.settle = _
    rw [show s.minimumExpiry = (s.cooledTo 60000).checkCooldown from if_pos ⟨mode, minMet⟩, ends]
    rfl
  · refine ⟨?_, by decide⟩
    show Host.Outcome.next s.elapsedExpiry.settle = _
    have ends : s.elapsedExpiry = (s.cooledTo 300000).cooldownExpiry := by
      unfold State.elapsedExpiry
      rw [if_pos mode]
      exact if_pos run
    rw [ends]
    rfl

/-- Settles O51: the minimum that ends nothing is time and a flag; an end is the parks ended, one completion, and the demands
of the mode that follows. -/
theorem cooldownClock : Obligations.CooldownClock := by
  refine ⟨fun s h inv mode minMet from_ why => ?_, fun s c k r at_ h inv mode ref from_ which => ?_⟩
  · have power := State.cooledTo_power mode (by rw [h.running]; decide) inv from_ (by decide)
    obtain ⟨_, _, mem, slots, placement, budget, notice, events⟩ := s.cooledTo_blocks 60000
    obtain ⟨reading, fault, _⟩ := s.cooledTo_channel 60000 .source
    have notDone : (s.cooledTo 60000).coolDone = false := by
      refine State.coolDone_eq_false ?_
      rw [power]
      exact why.imp (fun q => lt_of_lt_of_eq q reading.symm) (Or.imp_left fun q => fault.trans q)
    have eq : s.minimumExpiry = s.cooledTo 60000 := by
      rw [show s.minimumExpiry = (s.cooledTo 60000).checkCooldown from if_pos ⟨mode, minMet⟩]
      exact if_neg (by simp [notDone])
    have waits : s.WaitsAlike (s.cooledTo 60000) := by
      have passed := s.pass_waits (1000 * (60000 - s.power.elapsed))
      exact ⟨passed.hold, passed.port, passed.selPending, passed.buffer, passed.host, passed.slots, passed.events, passed.st,
        passed.snapshot, passed.progress, passed.requeue⟩
    have still : (s.cooledTo 60000).settle = s.cooledTo 60000 :=
      State.settle_still _ (waits.nextAction h.running (Option.isNone_iff_eq_none.mp h.still))
    refine ⟨_, congrArg Host.Outcome.next ((congrArg State.settle eq).trans still), power, rfl, mem, slots, placement, budget, notice, ?_⟩
    rw [events]
    exact ⟨rfl, rfl, rfl, rfl⟩
  · intro park
    obtain ⟨eq, fits⟩ := State.exec_endsCooldown h.running inv mode from_ which
    have power := State.cooledTo_power mode (by rw [h.running]; decide) inv from_ fits
    obtain ⟨hold, pins, mem, slots, placement, budget, notice, events⟩ := s.cooledTo_blocks at_
    have path : (s.cooledTo at_).path = s.path := h.pass_path _
    have ends := (s.cooledTo at_).parksEnded_axis .cooldownTimeout
    have ended := (s.cooledTo at_).parksEnded_eq .cooldownTimeout
    have level : ((s.cooledTo at_).parksEnded .cooldownTimeout).highestLevel = s.highestLevel := by
      rw [ended]
      exact State.highestLevel_congr (t := s.cooledTo at_) fun d => (s.cooledTo_channel at_ d).2.2
    have channels (d : ChannelId) : (((s.cooledTo at_).parksEnded .cooldownTimeout).channel d).reading = (s.channel d).reading := by
      rw [ended]
      exact (s.cooledTo_channel at_ d).1
    have power' : ((s.cooledTo at_).parksEnded .cooldownTimeout).power = { s.power with elapsed := at_, minMet := true, park := park } := by
      rw [ended, power]
      rfl
    have cools := State.settle_endCooldown (y := (s.cooledTo at_).parksEnded .cooldownTimeout) (k := k) r (by rw [power']; exact ref)
      (by rw [ended]; exact hold.trans h.running) (by rw [ended]; exact (congrArg PathUnit.host path).trans h.host)
      (by rw [ended]; exact (congrArg SlotUnit.queue slots).trans h.queue)
      (by rw [ended]; exact (congrArg SlotUnit.writer slots).trans h.writer)
    generalize (s.cooledTo at_).parksEnded .cooldownTimeout = y at *
    have thermal : (y.endCooldown r).settle.thermal = y.cooledThermal := cools.thermal
    refine ⟨_, eq, ?_, ?_, fun a => ?_, fun cold => ?_, fun hot => ?_, by rw [thermal]; rfl, ?_, ?_, ?_, ?_, ?_⟩
    · rw [cools.power]
      unfold State.cooledPower
      split <;> rfl
    · rw [cools.queue, State.coolBody, power']
    · obtain ⟨pending, st, move⟩ := s.cooledTo_axis at_ a
      have ended' := ends a
      rw [power] at ended'
      exact ((ended'.redriven (cools.axis a)).of_same pending st move).parkEnds
    · have notHot : ¬ Level.hot.rank ≤ y.highestLevel.rank := by rw [level]; omega
      have standby : y.cooledPower = { y.power with mode := .standby, ref := none } := if_neg notHot
      have slow : y.cooledThermal.channels = y.thermal.channels.map (fun c => { c with timer := Config.readingStandbyMs }) := if_neg notHot
      rw [cools.power, standby, power']
      refine ⟨rfl, rfl, rfl, ?_, fun f => ?_, fun d => ?_⟩
      · exact (State.release_iff _).mpr (by rw [cools.power, standby])
      · have mode' : (y.cooled k r).power.mode = .standby := congrArg Power.mode standby
        have atRest : (y.cooled k r).standby = true := (State.standby_iff _).mpr mode'
        rw [cools.fan, atRest]
        obtain ⟨commanded, drive⟩ := Fan.takeDemand_atRest ((y.cooled k r).demandOf f) (y.fan f)
        refine ⟨?_, commanded, drive⟩
        rw [Fan.takeDemand_keeps]
        exact State.demandOf_standby mode'
      · have channel : (y.endCooldown r).settle.channel d = { y.channel d with timer := 2000 } := by
          unfold State.channel
          rw [thermal, slow]
          cases d <;> rfl
        rw [channel]
        exact ⟨rfl, channels d⟩
    · have isHot : Level.hot.rank ≤ y.highestLevel.rank := by rw [level]; exact hot
      have recool : y.cooledPower = recoolPower := if_pos isHot
      refine ⟨cools.power.trans recool, ?_, ?_, fun f => ?_⟩
      · rw [State.release, cools.power, recool]
        rfl
      · refine (State.cut_iff _).mpr (.inr ?_)
        rw [cools.power, recool]
        decide
      · have mode' : (y.cooled k r).power.mode = .cooldown := congrArg Power.mode recool
        have enough : 60 ≤ (y.cooled k r).demandOf f :=
          State.le_demandOf (by rw [mode']; decide) (le_foldl_max (.inr (by simp [mode', Config.cooldownDuty])))
        have awake : ¬ (y.cooled k r).standby = true := fun q => by
          rw [State.standby_iff, mode'] at q
          cases q
        obtain ⟨_, commanded, _⟩ := Fan.takeDemand_commanded (y.cooled k r).standby ((y.cooled k r).demandOf f) (y.fan f)
        rw [cools.fan, commanded, if_neg awake]
        exact enough.trans (Nat.le_max_right _ _)
    · rw [cools.notice, ended, notice]
    · exact cools.time.1.trans (by rw [ended]; rfl)
    · exact cools.mem.trans (by rw [ended]; exact mem)
    · exact cools.placement.trans (by rw [ended]; exact placement)
    · exact cools.mark.trans (by rw [ended, events])

/-! ### POWER_UP (O35) -/

theorem State.standby_of_run {s : State} (mode : s.power.mode = .run) : s.standby = false := by
  cases e : s.standby with
  | false => rfl
  | true => rw [State.standby_iff, mode] at e; cases e

/-- A POWER_UP that leaves the mode RUN: what it changes before the fans take their demand. -/
def State.woken (s : State) : State :=
  { s with
    power := { s.power with mode := .run }
    thermal := { s.thermal with channels := s.thermal.channels.map (fun c => { c with timer := 250 }) } }

theorem State.Holds.of_fans {s u x : State} {kind : Kind} {p : Post} (holds : s.Holds u kind p) (only : FansOnly u x) :
    s.Holds x kind p := holds.of_blocks only.outer only.slots only.mesh

/-- The mode is RUN, and no POWER_DOWN is under way. -/
def State.backToRun (s : State) : State := { s with power := { s.power with ref := none, mode := .run } }

/-- The cool-down is cancelled: its POWER_DOWN is completed and the mode is RUN; the fans have not yet taken their demand. -/
def State.cancelled (s : State) (k : SlotId) : State :=
  { s with
    slots := (s.complete k (endedWith .cancelled) s.coolBody).slots
    power := { s.power with ref := none, mode := .run } }

theorem State.takePowerUp_cancels {s : State} {k : SlotId} (mode : s.power.mode = .cooldown) (ref : s.power.ref = some k)
    (j : SlotId) :
    s.takePowerUp j = (((s.parksEnded .cancelled).cancelled k).refreshFans).complete j doneOk [] := by
  have ref' : (s.parksEnded .cancelled).power.ref = some k := by
    rw [s.parksEnded_eq]
    exact ref
  have cancelled : ((s.parksEnded .cancelled).completeRef (s.parksEnded .cancelled).power.ref (endedWith .cancelled)
      (s.parksEnded .cancelled).coolBody).backToRun = (s.parksEnded .cancelled).cancelled k := by
    rw [ref']
    dsimp only [State.completeRef]
    unfold State.backToRun
    rw [State.complete_eq]
    rfl
  unfold State.takePowerUp
  rw [mode]
  exact congrArg (fun u => (State.refreshFans u).complete j doneOk []) cancelled

/-- Settles O35: each mode's answer is one completion, or that of the cancelled POWER_DOWN before it. -/
theorem powerUp : Obligations.PowerUp := by
  intro s p h posted
  have good : postCheck .powerUp false [] = none := rfl
  refine ⟨fun mode => ?_, fun mode => ?_, fun k mode ref => ?_⟩
  · have routes : (s.taken .powerUp p).route p.slot .powerUp [] = (s.taken .powerUp p).complete p.slot doneAlready [] := by
      show (s.taken .powerUp p).takePowerUp p.slot = _
      unfold State.takePowerUp
      rw [show (s.taken .powerUp p).power.mode = .run from mode]
    have t := h.answer posted good (.of_taken s .powerUp p) routes (by simp)
    obtain ⟨_, time, lens, cooling, news⟩ := t.keeps.blocks
    exact ⟨_, rfl, t.handsOver, t.ends, time, lens, cooling, t.mesh, news⟩
  · have routes : (s.taken .powerUp p).route p.slot .powerUp []
        = (s.taken .powerUp p).woken.refreshFans.complete p.slot doneOk [] := by
      show (s.taken .powerUp p).takePowerUp p.slot = _
      unfold State.takePowerUp
      rw [show (s.taken .powerUp p).power.mode = .standby from mode]
      rfl
    have only := (s.taken .powerUp p).woken.refreshFans_only
    have holds : s.Holds (s.taken .powerUp p).woken .powerUp p := ⟨rfl, rfl, rfl, rfl, rfl⟩
    have t := h.answer posted good (holds.of_fans only) routes (by simp)
    obtain ⟨_, ⟨clock, pins, hold⟩, ⟨axes, placement, _⟩, ⟨fans, thermal, power⟩, news⟩ := t.keeps.blocks
    obtain ⟨_, _, clock', hold', pins', _⟩ := (State.outer_iff _ _).mp only.outer
    have heat := thermal.trans only.thermal
    have mode' := power.trans only.power
    refine ⟨_, rfl, t.handsOver, t.ends, mode', fun c => ?_, fun f => ?_, ?_, by rw [heat]; rfl, by rw [heat]; rfl, by rw [heat]; rfl,
      placement.trans only.placement, ?_, ⟨clock.trans clock', pins.trans pins', hold.trans hold'⟩, t.mesh.trans only.mesh, ?_⟩
    · unfold State.channel
      rw [heat]
      cases c <;> rfl
    · obtain ⟨demand, commanded, _⟩ := (s.taken .powerUp p).woken.refreshFans_commanded f
      rw [State.fan_congr fans, commanded, demand]
      exact if_neg (show ¬ Mode.run = .standby by decide)
    · rw [State.release, mode']
      rfl
    · unfold State.AxesSameButDrive
      rw [axes]
      exact only.axes
    · obtain ⟨notice, p', c, lost, full⟩ := news
      rw [only.events] at p' c lost full
      exact ⟨notice.trans only.notice, p', c, lost, full⟩
  · intro park
    have cancels := State.takePowerUp_cancels (s := s.taken .powerUp p) mode ref p.slot
    have ended := (s.taken .powerUp p).parksEnded_eq .cancelled
    have ends := (s.taken .powerUp p).parksEnded_axis .cancelled
    have quietParks := State.parksEnded_of_none (s := s.taken .powerUp p) (c := .cancelled)
    generalize (s.taken .powerUp p).parksEnded .cancelled = y at *
    have only := (y.cancelled k).refreshFans_only
    have redriven := (y.cancelled k).refreshFans_redriven
    have head : (y.cancelled k).slots.queue = [{ slot := k, result := endedWith .cancelled, body := y.coolBody }] := by
      show (y.setHolder k .completing).slots.queue ++ _ = _
      rw [State.setHolder_queue, ended, show (s.taken .powerUp p).slots.queue = [] from h.queue]
      rfl
    have writer : (y.cancelled k).slots.writer = Initial.progress := by
      refine (y.setHolder_writer k .completing).trans ?_
      rw [ended]
      exact h.writer
    have body : y.coolBody = [parkWord park.h, parkWord park.v, natWord s.power.elapsed] := by
      rw [ended]
      rfl
    have power : (y.cancelled k).power = { s.power with mode := .run, ref := none, park := park } := by
      show { y.power with ref := none, mode := .run } = _
      rw [ended]
      rfl
    have rest : (y.cancelled k).outer = (s.taken .powerUp p).outer ∧ (y.cancelled k).thermal = s.thermal
        ∧ (y.cancelled k).placement = s.placement ∧ (y.cancelled k).mesh = s.mesh ∧ (y.cancelled k).events = s.events
        ∧ (y.cancelled k).notice = s.notice := by
      unfold State.cancelled
      rw [ended]
      exact ⟨rfl, rfl, rfl, rfl, rfl, rfl⟩
    have axes (a : AxisId) : (y.cancelled k).axis a = y.axis a := rfl
    generalize y.cancelled k = w at *
    obtain ⟨outer, thermal, placement, mesh, events, notice⟩ := rest
    generalize w.refreshFans = v at *
    have routes : (s.taken .powerUp p).route p.slot .powerUp [] = v.complete p.slot doneOk [] := cancels
    have outer' : (v.complete p.slot doneOk []).outer = (s.taken .powerUp p).outer := by
      rw [State.complete_outer, only.outer, outer]
    obtain ⟨run, _, _, _, host, mem, time⟩ := h.takenPath outer'
    have queue : (v.complete p.slot doneOk []).slots.queue
        = [{ slot := k, result := endedWith .cancelled, body := y.coolBody }, { slot := p.slot, result := doneOk, body := [] }] := by
      show (v.setHolder p.slot .completing).slots.queue ++ _ = _
      rw [State.setHolder_queue, only.slots, head]
      rfl
    have waits := State.settle_headWaits queue (by rw [body]; exact List.cons_ne_nil _ _)
      ((v.setHolder_writer p.slot .completing).trans ((congrArg SlotUnit.writer only.slots).trans writer)) (.inl host)
    have mesh' : (v.complete p.slot doneOk []).mesh = s.mesh := by rw [State.complete_mesh, only.mesh, mesh]
    have meshed := (State.settle_mesh _ (.inl host) (h.noMesh mesh')).trans mesh'
    obtain ⟨mem', time', ⟨axes', placement', _⟩, ⟨_, thermal', power'⟩, news⟩ := (State.settle_keeps _ (.inl host)).blocks
    obtain ⟨axes₁, placement₁, thermal₁, power₁, news₁⟩ : (v.complete p.slot doneOk []).axes = v.axes
        ∧ (v.complete p.slot doneOk []).placement = v.placement ∧ (v.complete p.slot doneOk []).thermal = v.thermal
        ∧ (v.complete p.slot doneOk []).power = v.power ∧ v.SameNews (v.complete p.slot doneOk []) := by
      rw [State.complete_eq]
      exact ⟨rfl, rfl, rfl, rfl, rfl, rfl, rfl, rfl, rfl⟩
    have row : s.postRow Kind.powerUp.number p false = (v.complete p.slot doneOk []).settle := by
      rw [State.postRow_routed .powerUp h posted good, routes]
    have axis (a : AxisId) : (y.axis a).Redriven ((v.complete p.slot doneOk []).settle.axis a) := by
      rw [show (v.complete p.slot doneOk []).settle.axis a = v.axis a from
        congrArg (fun q : PerAxis Axis => q.get a) (axes'.trans axes₁), ← axes]
      exact redriven a
    refine ⟨_, congrArg Host.Outcome.next row, h.handsOver (mem'.trans mem), waits.queue.trans (queue.trans (by rw [body]; rfl)),
      power'.trans (power₁.trans (only.power.trans power)), fun a => ?_, fun h v => ?_,
      thermal'.trans (thermal₁.trans (only.thermal.trans thermal)), placement'.trans (placement₁.trans (only.placement.trans placement)),
      time.trans time', meshed, ?_⟩
    · exact ((ends a).redriven (axis a)).parkEnds
    · rw [quietParks h v] at axis
      exact ⟨(axis .h).1, (axis .v).1⟩
    · have same : s.SameNews v := by
        unfold State.SameNews
        rw [only.notice, only.events, notice, events]
        exact ⟨rfl, rfl, rfl, rfl, rfl⟩
      exact (same.trans news₁).trans news

end Sys2Proof.Machine
end

section
/-! SUPPORT for O40. Classes by distance and heat, and the allotments of one and of two axes on the budget order (R45, R46, R121). -/

namespace Sys2Proof.Machine

theorem Class.slower_rules (x y : Machine.Class) :
    ((x.slower y).rank ≤ x.rank ∧ (x.slower y).rank ≤ y.rank) ∧ (x.slower y = x ∨ x.slower y = y) := by
  unfold Class.slower
  split
  · next less => exact ⟨⟨Nat.le_of_lt less, Nat.le_refl _⟩, .inr rfl⟩
  · next more => exact ⟨⟨Nat.le_refl _, Nat.le_of_not_lt more⟩, .inl rfl⟩

theorem State.thermalCap_rules (s : State) (kind : MoveKind) :
    (s.thermalCap kind = .near ↔
        s.thermal.overall = .hot ∨ s.thermal.overall = .critical ∨ (kind = .park ∧ s.power.mode = .cooldown))
      ∧ (s.thermalCap kind = .near ∨ s.thermalCap kind = .far) := by
  unfold State.thermalCap
  by_cases heat : s.thermal.overall = .hot ∨ s.thermal.overall = .critical
  · rw [if_pos heat]
    exact ⟨⟨fun _ => or_assoc.mp (.inl heat), fun _ => rfl⟩, .inl rfl⟩
  · rw [if_neg heat]
    by_cases park : kind = .park ∧ s.power.mode = .cooldown
    · rw [if_pos park]
      exact ⟨⟨fun _ => .inr (.inr park), fun _ => rfl⟩, .inl rfl⟩
    · rw [if_neg park]
      exact ⟨⟨nofun, fun why => ((or_assoc.mpr why).elim heat park).elim⟩, .inr rfl⟩

/-- The class that an axis is allotted is the largest within its desire whose reservation is left (R121). -/
structure Largest (g desire : Machine.Class) (left : Nat) : Prop where
  within : g.rank ≤ desire.rank
  fits : g.reserve ≤ left
  largest : ∀ c : Machine.Class, c.rank ≤ desire.rank → c.reserve ≤ left → c.rank ≤ g.rank

theorem grantClass_largest (desire : Machine.Class) (left : Nat) : Largest (grantClass desire left) desire left := by
  unfold grantClass
  have most (c : Machine.Class) : c.rank ≤ 3 := by cases c <;> decide
  have costs (c : Machine.Class) : (3 ≤ c.rank → 16 ≤ c.reserve) ∧ (2 ≤ c.rank → 8 ≤ c.reserve) ∧ (1 ≤ c.rank → 4 ≤ c.reserve) := by
    cases c <;> decide
  by_cases far : 3 ≤ desire.rank ∧ 16 ≤ left
  · rw [if_pos far]
    exact ⟨far.1, far.2, fun c _ _ => most c⟩
  · rw [if_neg far]
    by_cases near : 2 ≤ desire.rank ∧ 8 ≤ left
    · rw [if_pos near]
      refine ⟨near.1, near.2, fun c within fits => Nat.le_of_not_lt fun more => far ⟨Nat.le_trans more within, ?_⟩⟩
      exact Nat.le_trans ((costs c).1 more) fits
    · rw [if_neg near]
      by_cases creep : 1 ≤ desire.rank ∧ 4 ≤ left
      · rw [if_pos creep]
        refine ⟨creep.1, creep.2, fun c within fits => Nat.le_of_not_lt fun more => near ⟨Nat.le_trans more within, ?_⟩⟩
        exact Nat.le_trans ((costs c).2.1 more) fits
      · rw [if_neg creep]
        refine ⟨Nat.zero_le _, Nat.zero_le _, fun c within fits => Nat.le_of_not_lt fun more => creep ⟨Nat.le_trans more within, ?_⟩⟩
        exact Nat.le_trans ((costs c).2.2 more) fits

/-- With two axes on the order the older is served first, and the younger from what it leaves (R121). -/
theorem State.allotNow_two {s : State} {a : AxisId} (order : s.budget.order = [otherAxis a, a]) :
    s.allotNow.get (otherAxis a) = grantClass (s.budget.desire.get (otherAxis a)) (s.budget.capacity - s.totalDraw)
      ∧ s.allotNow.get a = grantClass (s.budget.desire.get a)
          (s.budget.capacity - s.totalDraw - (s.allotNow.get (otherAxis a)).reserve) := by
  unfold State.allotNow
  rw [order]
  cases a <;> exact ⟨rfl, rfl⟩

theorem State.allotNow_one {s : State} {a : AxisId} (order : s.budget.order = [a]) :
    s.allotNow.get (otherAxis a) = .zero
      ∧ s.allotNow.get a = grantClass (s.budget.desire.get a) (s.budget.capacity - s.totalDraw) := by
  unfold State.allotNow
  rw [order]
  cases a <;> exact ⟨rfl, rfl⟩

/-- Settles O40: bands, cap and slower are their case distinctions; each axis on the order is granted the largest class that is
left for it. -/
theorem classesAndAllotments : Obligations.ClassesAndAllotments := by
  refine ⟨fun bands d s kind => ?_, fun s a order => ?_, fun s a order => ?_, fun s order => ?_⟩
  · obtain ⟨cap, range⟩ := s.thermalCap_rules kind
    exact ⟨fun far => if_pos far, fun notFar near => (if_neg (Nat.not_lt.mpr notFar)).trans (if_pos near),
      fun notFar notNear => (if_neg (Nat.not_lt.mpr notFar)).trans (if_neg (Nat.not_lt.mpr notNear)), cap, range, Class.slower_rules⟩
  · obtain ⟨none, one⟩ := State.allotNow_one order
    rw [none, one]
    have g := grantClass_largest (s.budget.desire.get a) (s.budget.capacity - s.totalDraw)
    exact ⟨rfl, g.within, g.fits, g.largest⟩
  · intro older younger whole
    obtain ⟨first, second⟩ := State.allotNow_two order
    have g : Largest older (s.budget.desire.get (otherAxis a)) whole :=
      (show older = _ from first) ▸ grantClass_largest _ _
    have f : Largest younger (s.budget.desire.get a) (whole - older.reserve) :=
      (show younger = _ from second) ▸ grantClass_largest _ _
    exact ⟨g.within, g.fits, g.largest, f.within, f.fits, f.largest⟩
  · unfold State.allotNow
    rw [order]
    rfl

end Sys2Proof.Machine
end

section
/-! SUPPORT for O37, O38 and O45. One event out of a quiet state, and noise (R21, R51). -/

namespace Sys2Proof.Machine

/-! ### Settling out of a quiet state (log 10) -/

theorem State.Quiet.settle_waits {s x : State} (h : s.Quiet) (waits : s.WaitsAlike x) : x.settle = x :=
  State.settle_still x (waits.nextAction h.running (Option.isNone_iff_eq_none.mp h.still))

theorem State.LensOnly.waits {s t : State} (h : s.LensOnly t) : s.WaitsAlike t := by
  unfold State.LensOnly at h
  rw [h]
  exact .of_blocks rfl rfl rfl rfl rfl

theorem State.WaitsAlike.trans {s t u : State} (a : s.WaitsAlike t) (b : t.WaitsAlike u) : s.WaitsAlike u :=
  ⟨b.hold.trans a.hold, b.port.trans a.port, b.selPending.trans a.selPending, b.buffer.trans a.buffer, b.host.trans a.host,
    b.slots.trans a.slots, b.events.trans a.events, b.st.trans a.st, b.snapshot.trans a.snapshot, b.progress.trans a.progress,
    b.requeue.trans a.requeue⟩

/-- The state with another event writer. -/
def State.withEvents (s : State) (e : EventWriter) : State := { s with events := e }

/-- What one event out of a quiet state leaves behind: it is placed, and settling moves nothing but the paths to memory. -/
structure State.Told (s x t : State) (code : Half) (va vb : Word) : Prop where
  raises : s.Raises t code va vb
  keeps : SettleKeeps x t
  slots : t.slots = s.slots
  mesh : t.mesh = x.mesh

/-- The one law of an event out of a quiet state: where the buffer has room for nothing, it waits in the event writer. -/
theorem State.Quiet.settle_told {s x : State} (h : s.Quiet) (fed : s.events.FedOk) {code : Half} {va vb : Word}
    (events : x.events = (State.placeRecord { s with clock := x.clock } code va vb).events)
    (waits : s.WaitsAlike (x.withEvents s.events)) : s.Told x x.settle code va vb := by
  have run : x.hold = .running := waits.hold.trans h.running
  have buffer : x.path.buffer = s.path.buffer := waits.buffer
  have quiet : x.HostQuiet := by
    rcases h.hostQuiet with host | port
    · exact .inl (waits.host.trans host)
    · exact .inr (waits.port.trans port)
  have placed := State.placeRecord_traffic (s := { s with clock := x.clock }) fed code va vb
  have fed' : x.events.FedOk := by
    rw [events]
    exact State.placeRecord_fedOk (s := { s with clock := x.clock }) fed code va vb
  have noAction := waits.nextAction h.running (Option.isNone_iff_eq_none.mp h.still)
  obtain ⟨noClaim, noGrant⟩ := (State.nextAction_none_iff (s := x.withEvents s.events) run).mp noAction
  have keeps := State.settle_keeps x quiet
  obtain ⟨_, ⟨clock, _⟩, _, _, _, p, c, _⟩ := keeps.blocks
  have raises : s.Raises x.settle code va vb := by
    refine ⟨?_, by rw [p, events]; rfl, by rw [c, events]; rfl⟩
    rw [(State.settle_ring x quiet fed').1, clock]
    unfold State.ringTraffic at placed ⊢
    rw [events, buffer]
    exact placed
  rcases (State.nextClaim_none_iff _).mp noClaim with full | ⟨slotClaim, _, meshClaim⟩
  · have still : x.settle = x := State.settle_still x ((State.nextAction_none_iff run).mpr
      ⟨x.nextClaim_none_iff.mpr (.inl full), x.nextGrant_none_iff.mpr ((State.nextGrant_none_iff (x.withEvents s.events)).mp noGrant)⟩)
    exact ⟨raises, keeps, by rw [still]; exact waits.slots, by rw [still]⟩
  · have noSlot : x.slotClaim = none := State.slotClaim_none_congr (x.withEvents s.events) x rfl slotClaim
    have noMesh : x.meshClaim = none := State.meshClaim_none_congr (x.withEvents s.events) x rfl meshClaim
    exact ⟨raises, keeps, (State.settleFor_slots x 24 quiet noSlot).trans waits.slots, State.settle_mesh x quiet noMesh⟩

theorem State.noEvent_of_same {s t : State} (buffer : t.path.buffer = s.path.buffer) (events : t.events = s.events) : s.NoEvent t := by
  unfold State.NoEvent State.ringTraffic
  rw [buffer, events]
  exact ⟨rfl, rfl, rfl⟩

/-! ### Noise (R21, R51) -/

/-- The move record after one more rejected edge or phase error. -/
def Move.noised (m : Move) : Move :=
  if m.result.isSome then m
  else if m.kind ≠ .home ∧ Config.noisyTally ≤ m.tally + 1 ∧ m.noiseReported = false then
    { m with tally := m.tally + 1, noiseReported := true }
  else { m with tally := m.tally + 1 }

/-- The noise of a move is told. -/
def Move.tellsNoise (m : Move) : Bool :=
  !m.result.isSome && decide (m.kind ≠ .home ∧ Config.noisyTally ≤ m.tally + 1 ∧ m.noiseReported = false)

def Axis.noised (x : Axis) : Axis := { x with move := x.move.map Move.noised }

theorem State.setAxis_axis (s : State) (a : AxisId) : s.setAxis a (s.axis a) = s := by cases a <;> rfl

theorem State.addNoise_none {s : State} {a : AxisId} (move : (s.axis a).move = none) : s.addNoise a = s := by
  unfold State.addNoise
  dsimp only
  rw [move]

/-- Noise reaches the move's record, and is told once for a move whose tally comes to 64 (R51). -/
theorem State.addNoise_eq {s : State} {a : AxisId} {m : Move} (move : (s.axis a).move = some m) :
    s.addNoise a
      = if m.tellsNoise then
          (s.setAxis a (s.axis a).noised).raiseCode (eventCode .encoderNoise (axisNumber a)) (natWord (m.tally + 1)) (signedWord m.target)
        else s.setAxis a (s.axis a).noised := by
  have same (n : Move) (e : m.noised = n) : (s.axis a).noised = { s.axis a with move := some n } := by
    unfold Axis.noised
    rw [move, ← e]
    rfl
  unfold State.addNoise
  dsimp only
  rw [move]
  dsimp only
  by_cases result : m.result.isSome = true
  · rw [if_pos result, if_neg (by simp [Move.tellsNoise, result]), same m (if_pos result), ← move]
    exact (s.setAxis_axis a).symm
  · rw [if_neg result]
    by_cases tells : m.kind ≠ .home ∧ Config.noisyTally ≤ m.tally + 1 ∧ m.noiseReported = false
    · rw [if_pos tells, if_pos (by simp only [Move.tellsNoise, Bool.and_eq_true, decide_eq_true_eq]; exact ⟨by simp [result], tells⟩),
        same _ ((if_neg result).trans (if_pos tells))]
      rfl
    · rw [if_neg tells, if_neg (by simp only [Move.tellsNoise, Bool.and_eq_true, decide_eq_true_eq]; exact fun q => tells q.2),
        same _ ((if_neg result).trans (if_neg tells))]

/-- One rejected edge or phase error out of a quiet state, as the rule says it, with what else it does to the axis. -/
theorem State.Quiet.settle_noise {s : State} (h : s.Quiet) (room : s.RingOpen) (inv : s.RingInv) {a : AxisId} {m : Move} {y : Axis}
    (move : y.move = some m) :
    let t := ((s.setAxis a y).addNoise a).settle
    s.TallyRises t a m ∧ t.axis a = { y with move := (t.axis a).move } ∧ t.axis (otherAxis a) = s.axis (otherAxis a)
      ∧ s.SameGround t ∧ s.SameCooling t ∧ s.SameMesh t ∧ t.slots = s.slots ∧ t.notice = s.notice := by
  intro t
  have eq := State.addNoise_eq (s := s.setAxis a y) (a := a) (m := m) (by rw [State.axis_setAxis_self]; exact move)
  rw [State.axis_setAxis_self, State.setAxis_setAxis] at eq
  have axis (u : State) (axes : u.axes = (s.setAxis a y.noised).axes) :
      u.axis a = y.noised ∧ u.axis (otherAxis a) = s.axis (otherAxis a) := by
    refine ⟨?_, ?_⟩
    · exact (congrArg (fun q : PerAxis Axis => q.get a) axes).trans (s.axis_setAxis_self a _)
    · exact (congrArg (fun q : PerAxis Axis => q.get (otherAxis a)) axes).trans (s.axis_setAxis_other a _ _ (otherAxis_ne a))
  have moved : y.noised.move = some m.noised := congrArg (Option.map Move.noised) move
  cases tells : m.tellsNoise with
  | false =>
    rw [tells, if_neg (by decide)] at eq
    have still : t = s.setAxis a y.noised := by
      show State.settle _ = _
      rw [eq]
      exact h.settle_waits (s.setAxis_lens a _).waits
    obtain ⟨self, other⟩ := axis (s.setAxis a y.noised) rfl
    have none_ : s.NoEvent (s.setAxis a y.noised) := State.noEvent_of_same rfl rfl
    rw [still]
    refine ⟨⟨fun result => ⟨?_, none_⟩, fun unset quiet => ⟨?_, none_⟩, fun unset kind many unreported => ?_⟩, by rw [self]; rfl, other,
      ⟨rfl, rfl, rfl, rfl⟩, ⟨rfl, rfl, rfl⟩, rfl, rfl, rfl⟩
    · rw [self, moved, Move.noised, if_pos (Option.isSome_iff_ne_none.mpr result)]
    · rw [self, moved, Move.noised, if_neg (by simp [unset]), if_neg ?_]
      rintro ⟨kind, many, unreported⟩
      rcases quiet with home | few | reported
      · exact kind home
      · exact absurd (show 64 ≤ m.tally + 1 from many) (Nat.not_le.mpr few)
      · exact absurd (reported.symm.trans unreported) (by decide)
    · have all : m.kind ≠ .home ∧ Config.noisyTally ≤ m.tally + 1 ∧ m.noiseReported = false := ⟨kind, many, unreported⟩
      simp [Move.tellsNoise, unset, all] at tells
  | true =>
    rw [tells, if_pos rfl, State.raiseCode_open (s := s.setAxis a y.noised) h.running room] at eq
    simp only [Move.tellsNoise, Bool.and_eq_true, decide_eq_true_eq, Bool.not_eq_true', Option.isSome_eq_false_iff,
      Option.isNone_iff_eq_none] at tells
    obtain ⟨unset, kind, many, unreported⟩ := tells
    have told := h.settle_told (x := (s.setAxis a y.noised).placeRecord (eventCode .encoderNoise (axisNumber a)) (natWord (m.tally + 1))
      (signedWord m.target)) inv.fedOk rfl (.of_blocks rfl rfl rfl rfl rfl)
    rw [← eq] at told
    obtain ⟨mem, ⟨clock, pins, hold⟩, ⟨axes, _, _⟩, ⟨fans, thermal, power⟩, notice, _⟩ := told.keeps.blocks
    obtain ⟨self, other⟩ := axis t (by rw [show t.axes = _ from axes, eq]; rfl)
    have ground : s.SameGround ((s.setAxis a y).addNoise a) ∧ s.SameCooling ((s.setAxis a y).addNoise a)
        ∧ ((s.setAxis a y).addNoise a).mesh = s.mesh ∧ ((s.setAxis a y).addNoise a).notice = s.notice := by
      rw [eq]
      exact ⟨⟨rfl, rfl, rfl, rfl⟩, ⟨rfl, rfl, rfl⟩, rfl, rfl⟩
    obtain ⟨⟨mem', clock', pins', hold'⟩, cooling', mesh', notice'⟩ := ground
    refine ⟨⟨fun set => absurd unset set, fun _ quiet => ?_, fun _ _ _ _ => ⟨?_, told.raises⟩⟩, by rw [self]; rfl, other,
      ⟨mem.trans mem', clock.trans clock', pins.trans pins', hold.trans hold'⟩, cooling'.trans ⟨fans, thermal, power⟩,
      told.mesh.trans mesh', told.slots, notice.trans notice'⟩
    · rcases quiet with home | few | reported
      · exact absurd home kind
      · exact absurd many (Nat.not_le.mpr few)
      · exact absurd (reported.symm.trans unreported) (by decide)
    · rw [self, moved, Move.noised, if_neg (by simp [unset]), if_pos ⟨kind, many, unreported⟩]

end Sys2Proof.Machine
end

section
/-! SUPPORT for O37, O38 and O45. The decoder (R17 to R20, R22). -/

namespace Sys2Proof.Machine

/-- The encoder with its filtered levels. -/
def Encoder.filteredAs (e : Encoder) (l : EncLevels) : Encoder :=
  { a := { e.a with filtered := l.a }, b := { e.b with filtered := l.b }, i := { e.i with filtered := l.i } }

/-- The transition that new filtered levels are (R17). -/
def Axis.transition (x : Axis) (l : EncLevels) : Transition := classify (x.enc.a.filtered, x.enc.b.filtered) (l.a, l.b)

/-- What the counter moves by at new filtered levels (R18). -/
def Axis.delta (x : Axis) (l : EncLevels) : Int :=
  countDelta x.cfg.encoder.mode (x.enc.a.filtered, x.enc.b.filtered) (l.a, l.b)

/-- The axis with new filtered levels. -/
def Axis.filteredAs (x : Axis) (l : EncLevels) : Axis := { x with enc := x.enc.filteredAs l }

/-- The axis after a decoder update without a phase error (R18, R22). -/
def Axis.decoded (x : Axis) (l : EncLevels) (now : Word) : Axis :=
  { x with
    enc := x.enc.filteredAs l
    counter := x.counter + signedWord (x.delta l)
    posTime := if x.delta l = 0 then x.posTime else now }

def State.decoded (s : State) (a : AxisId) (l : EncLevels) : State := s.setAxis a ((s.axis a).decoded l s.clock.uptime)

/-- The index condition arises with new filtered levels (R23). -/
def Axis.indexRises (x : Axis) (l : EncLevels) : Bool := (x.filteredAs l).indexCondition && !x.indexCondition

theorem Axis.indexRises_eq_false {x : Axis} {l : EncLevels} (low : l.i = false) : x.indexRises l = false := by
  show ((l.i && _ && _) && _) = false
  rw [low]
  rfl

theorem State.decoded_axis (s : State) (a : AxisId) (l : EncLevels) : (s.decoded a l).axis a = (s.axis a).decoded l s.clock.uptime :=
  s.axis_setAxis_self a _

/-- A phase error counts nothing and compares no span (R20). -/
theorem State.decoderUpdate_phaseError {s : State} {a : AxisId} {l : EncLevels} (bad : (s.axis a).transition l = .phaseError)
    (rises : (s.axis a).indexRises l = false) : s.decoderUpdate a l = (s.setAxis a ((s.axis a).filteredAs l)).phaseError a := by
  have bad' : classify ((s.axis a).enc.a.filtered, (s.axis a).enc.b.filtered) (l.a, l.b) = .phaseError := bad
  have zero : countDelta (s.axis a).cfg.encoder.mode ((s.axis a).enc.a.filtered, (s.axis a).enc.b.filtered) (l.a, l.b) = 0 := by
    unfold countDelta
    rw [bad']
  unfold State.decoderUpdate
  dsimp only
  rw [if_pos bad', if_pos zero]
  refine if_neg ?_
  rw [State.axis_setAxis_self]
  exact Bool.eq_false_iff.mp rises

/-- A decoder update without a phase error: the transition is counted, then an index event is taken, then the span compared. -/
theorem State.decoderUpdate_eq {s : State} {a : AxisId} {l : EncLevels} (good : (s.axis a).transition l ≠ .phaseError) :
    s.decoderUpdate a l
      = if (s.axis a).delta l = 0 then (if (s.axis a).indexRises l then (s.decoded a l).indexEvent a else s.decoded a l)
        else (if (s.axis a).indexRises l then (s.decoded a l).indexEvent a else s.decoded a l).spanCheck a := by
  have axis := s.axis_setAxis_self a ((s.axis a).filteredAs l)
  have counted : (if (s.axis a).delta l = 0 then s.setAxis a ((s.axis a).filteredAs l)
      else (s.setAxis a ((s.axis a).filteredAs l)).setCounter a ((s.axis a).counter + signedWord ((s.axis a).delta l)))
        = s.decoded a l := by
    unfold State.decoded Axis.decoded State.setCounter
    by_cases zero : (s.axis a).delta l = 0
    · rw [if_pos zero, if_pos zero, zero, show signedWord 0 = 0#32 from rfl, BitVec.add_zero]
      rfl
    · rw [if_neg zero, if_neg zero, axis, State.setAxis_setAxis]
      rfl
  unfold State.decoderUpdate
  dsimp only
  rw [if_neg (show ¬ classify ((s.axis a).enc.a.filtered, (s.axis a).enc.b.filtered) (l.a, l.b) = .phaseError from good)]
  rw [← counted, State.axis_setAxis_self]
  rfl

theorem classify_one_kept : ∀ a b c : Bool, classify (a, b) (c, b) ≠ .phaseError ∧ classify (a, b) (a, c) ≠ .phaseError := by decide

theorem classify_both_changed : ∀ a b : Bool, classify (a, b) (!a, !b) = .phaseError := by decide

/-- One input that changes is never a phase error (R20). -/
theorem Axis.transition_ne_phaseError {x : Axis} {l : EncLevels} (kept : l.a = x.enc.a.filtered ∨ l.b = x.enc.b.filtered) :
    x.transition l ≠ .phaseError := by
  unfold Axis.transition
  rcases kept with kept | kept <;> rw [kept]
  · exact (classify_one_kept _ _ _).2
  · exact (classify_one_kept _ _ _).1

/-- Both inputs that change are a phase error (R20). -/
theorem Axis.transition_phaseError {x : Axis} {l : EncLevels} (a : l.a ≠ x.enc.a.filtered) (b : l.b ≠ x.enc.b.filtered) :
    x.transition l = .phaseError := by
  unfold Axis.transition
  rw [Bool.eq_not.mpr a, Bool.eq_not.mpr b]
  exact classify_both_changed _ _

theorem State.spanCheck_of_not_homing {s : State} {a : AxisId} (h : (s.axis a).st ≠ .homing) : s.spanCheck a = s :=
  if_neg (fun q => h q.1)

/-- Away from a search and where no index event acts, a decoder update only counts (R18, R23). -/
theorem State.decoderUpdate_counts {s : State} {a : AxisId} {l : EncLevels} (good : (s.axis a).transition l ≠ .phaseError)
    (index : (s.axis a).indexRises l = true → (s.decoded a l).indexEvent a = s.decoded a l) (away : (s.axis a).st ≠ .homing) :
    s.decoderUpdate a l = s.decoded a l := by
  have same : (if (s.axis a).indexRises l then (s.decoded a l).indexEvent a else s.decoded a l) = s.decoded a l := by
    by_cases rises : (s.axis a).indexRises l = true
    · rw [if_pos rises, index rises]
    · rw [if_neg rises]
  rw [State.decoderUpdate_eq good, same,
    State.spanCheck_of_not_homing (s := s.decoded a l) (by rw [State.decoded_axis]; exact away)]
  exact ite_self _

/-- At rest an index event changes nothing (R23). -/
theorem State.indexEvent_idle {s : State} {a : AxisId} (idle : (s.axis a).st = .idle) : s.indexEvent a = s := by
  unfold State.indexEvent
  rw [idle]
  exact ite_self _

/-! ### Level changes (R19) -/

/-- The pin level of input A changes, and what is timed of it is as given. -/
def Axis.levelled (x : Axis) (level : Bool) (timing : Option Nat) : Axis :=
  { x with enc := { x.enc with a := { raw := level, filtered := x.enc.a.filtered, timing := timing } } }

theorem EncInput.edge_same {x : EncInput} {level : Bool} (same : level = x.raw) (filter : Nat) : x.edge filter level = (x, false, false) :=
  if_pos same

theorem EncInput.edge_timed {x : EncInput} {level : Bool} (moved : level ≠ x.raw) (timed : x.timing.isSome = true) (filter : Nat) :
    x.edge filter level = ({ x with raw := level, timing := none }, true, false) := by
  obtain ⟨left, timing⟩ := Option.isSome_iff_exists.mp timed
  unfold EncInput.edge
  rw [if_neg moved, timing]

theorem EncInput.edge_fresh {x : EncInput} {level : Bool} (moved : level ≠ x.raw) (fresh : x.timing = none) (filter : Nat) :
    x.edge filter level
      = if filter = 0 then ({ raw := level, filtered := x.filtered, timing := none }, false, true)
        else ({ raw := level, filtered := x.filtered, timing := some filter }, false, false) := by
  unfold EncInput.edge
  rw [if_neg moved, fresh]

/-- A level change on input A alone, by what becomes of the edge. -/
theorem State.encoderLevels_a {s : State} {a : AxisId} {l : EncLevels} (run : s.hold = .running) (b : l.b = (s.axis a).enc.b.raw)
    (i : l.i = (s.axis a).enc.i.raw) {ea : EncInput × Bool × Bool} (edge : (s.axis a).enc.a.edge (s.axis a).cfg.encoder.filter l.a = ea) :
    s.encoderLevels a l
      = let t := (s.setAxis a { s.axis a with enc := { (s.axis a).enc with a := ea.1 } }).rejectEdges a (boolNat ea.2.1)
        if ea.2.2 then t.decoderUpdate a { a := l.a, b := (s.axis a).enc.b.filtered, i := (s.axis a).enc.i.filtered } else t := by
  unfold State.encoderLevels
  dsimp only
  rw [if_neg (by simp [run]), edge, EncInput.edge_same b, EncInput.edge_same i]
  obtain ⟨e, rejected, accepted⟩ := ea
  cases accepted <;> rfl

/-! ### Rejected edges (R19, R21) -/

theorem State.rejectEdge_setAxis (s : State) (a : AxisId) (x : Axis) :
    (s.setAxis a x).rejectEdge a = (s.setAxis a { x with rejected := min 65535 (x.rejected + 1) }).addNoise a := by
  unfold State.rejectEdge
  dsimp only
  rw [State.axis_setAxis_self, State.setAxis_setAxis]
  rfl

theorem State.phaseError_setAxis (s : State) (a : AxisId) (x : Axis) :
    (s.setAxis a x).phaseError a = (s.setAxis a { x with phaseErrors := min 65535 (x.phaseErrors + 1) }).addNoise a := by
  unfold State.phaseError
  dsimp only
  rw [State.axis_setAxis_self, State.setAxis_setAxis]
  rfl

/-- Input A goes back while its change is timed: a rejected edge (R19). -/
theorem State.encoderLevels_rejected {s : State} {a : AxisId} {l : EncLevels} (run : s.hold = .running)
    (moved : l.a ≠ (s.axis a).enc.a.raw) (b : l.b = (s.axis a).enc.b.raw) (i : l.i = (s.axis a).enc.i.raw)
    (timed : (s.axis a).enc.a.timing.isSome = true) :
    s.encoderLevels a l
      = (s.setAxis a { (s.axis a).levelled l.a none with rejected := min 65535 ((s.axis a).rejected + 1) }).addNoise a := by
  rw [State.encoderLevels_a run b i (EncInput.edge_timed moved timed _)]
  exact s.rejectEdge_setAxis a ((s.axis a).levelled l.a none)

/-- Both inputs of an unfiltered encoder change at once: a phase error (R20). -/
theorem State.encoderLevels_phaseError {s : State} {a : AxisId} {l : EncLevels} (run : s.hold = .running)
    (movedA : l.a ≠ (s.axis a).enc.a.raw) (movedB : l.b ≠ (s.axis a).enc.b.raw) (i : l.i = (s.axis a).enc.i.raw)
    (freshA : (s.axis a).enc.a.timing = none) (freshB : (s.axis a).enc.b.timing = none) (off : (s.axis a).cfg.encoder.filter = 0)
    (newA : l.a ≠ (s.axis a).enc.a.filtered) (newB : l.b ≠ (s.axis a).enc.b.filtered) (low : (s.axis a).enc.i.filtered = false) :
    s.encoderLevels a l
      = (s.setAxis a
          { s.axis a with
            enc := { (s.axis a).enc with
              a := { raw := l.a, filtered := l.a, timing := none }, b := { raw := l.b, filtered := l.b, timing := none } }
            phaseErrors := min 65535 ((s.axis a).phaseErrors + 1) }).addNoise a := by
  have taken : s.encoderLevels a l
      = (s.setAxis a
          { s.axis a with
            enc := { (s.axis a).enc with
              a := { raw := l.a, filtered := (s.axis a).enc.a.filtered, timing := none }
              b := { raw := l.b, filtered := (s.axis a).enc.b.filtered, timing := none } } }).decoderUpdate a
          { a := l.a, b := l.b, i := (s.axis a).enc.i.filtered } := by
    unfold State.encoderLevels
    dsimp only
    rw [if_neg (by simp [run]), EncInput.edge_fresh movedA freshA, EncInput.edge_fresh movedB freshB, if_pos off, if_pos off,
      EncInput.edge_same i]
    rfl
  rw [taken, State.decoderUpdate_phaseError (by rw [State.axis_setAxis_self]; exact Axis.transition_phaseError newA newB)
    (Axis.indexRises_eq_false low), State.axis_setAxis_self, State.setAxis_setAxis, State.phaseError_setAxis]
  rfl

/-- An unfiltered level change on input A of an axis at rest: it is decoded at once, and nothing else happens (R18, R19). -/
theorem State.encoderLevels_decoded {s : State} {a : AxisId} {l : EncLevels} (run : s.hold = .running)
    (moved : l.a ≠ (s.axis a).enc.a.raw) (b : l.b = (s.axis a).enc.b.raw) (i : l.i = (s.axis a).enc.i.raw)
    (fresh : (s.axis a).enc.a.timing = none) (off : (s.axis a).cfg.encoder.filter = 0) (idle : (s.axis a).st = .idle) :
    s.encoderLevels a l
      = (s.setAxis a ((s.axis a).levelled l.a none)).decoded a
          { a := l.a, b := (s.axis a).enc.b.filtered, i := (s.axis a).enc.i.filtered } := by
  rw [State.encoderLevels_a run b i (EncInput.edge_fresh moved fresh _), if_pos off]
  have self := s.axis_setAxis_self a ((s.axis a).levelled l.a none)
  refine State.decoderUpdate_counts (s := s.setAxis a ((s.axis a).levelled l.a none)) ?_ (fun _ => State.indexEvent_idle ?_) ?_
  · rw [self]
    exact Axis.transition_ne_phaseError (.inr rfl)
  · rw [State.decoded_axis, self]
    exact idle
  · rw [self, show ((s.axis a).levelled l.a none).st = (s.axis a).st from rfl, idle]
    decide

/-- The counting rules by mode (R17, R18). -/
theorem countDelta_rules (a b : Bool) :
    countDelta .x4 (a, b) (!a, b) = (if a = b then 1 else -1) ∧ countDelta .x4 (a, b) (a, !b) = (if a = b then -1 else 1)
      ∧ countDelta .x2 (a, b) (!a, b) = (if a = b then 1 else -1) ∧ countDelta .x2 (a, b) (a, !b) = 0
      ∧ countDelta .x1 (a, b) (!a, b) = (if b then 0 else if a then -1 else 1) ∧ countDelta .x1 (a, b) (a, !b) = 0
      ∧ ∀ m, countDelta m (a, b) (!a, !b) = 0 ∧ countDelta m (a, b) (a, b) = 0 := by
  refine ⟨?_, ?_, ?_, ?_, ?_, ?_, fun m => ?_⟩
  case refine_7 => cases a <;> cases b <;> exact ⟨rfl, rfl⟩
  all_goals cases a <;> cases b <;> rfl

/-- Settles O37: what an edge does by its timing and the filter; noise reaches the move; the counting tables. -/
theorem encoderEdges : Obligations.EncoderEdges := by
  refine ⟨fun s a l h moved b i => ⟨fun fresh on => ?_, fun timed still => ?_, fun fresh off _ idle => ?_⟩,
    fun s a l m h room inv move moved i => ⟨fun timed b => ?_, fun freshA freshB off movedB newA newB low => ?_⟩, countDelta_rules⟩
  · have eq : s.encoderLevels a l = s.setAxis a ((s.axis a).levelled l.a (some (s.axis a).cfg.encoder.filter)) := by
      rw [State.encoderLevels_a h.running b i (EncInput.edge_fresh moved fresh _), if_neg on]
      rfl
    show Host.Outcome.next (s.encoderLevels a l).settle = _
    rw [eq, h.settle_waits (s.setAxis_lens a _).waits]
    rfl
  · show Host.Outcome.next (s.encoderLevels a l).settle = _
    rw [State.encoderLevels_rejected h.running moved b i timed, State.addNoise_none (by rw [State.axis_setAxis_self]; exact still),
      h.settle_waits (s.setAxis_lens a _).waits]
    rfl
  · refine ⟨_, rfl, ?_⟩
    have eq := State.encoderLevels_decoded h.running moved b i fresh off idle
    rw [State.decoded, State.setAxis_setAxis, State.axis_setAxis_self] at eq
    rw [eq, h.settle_waits (s.setAxis_lens a _).waits, State.axis_setAxis_self]
    exact ⟨rfl, rfl, s.axis_setAxis_other a _ _ (otherAxis_ne a), ⟨rfl, rfl, rfl, rfl⟩, ⟨rfl, rfl, rfl⟩, rfl, ⟨rfl, rfl, rfl, rfl, rfl⟩, rfl⟩
  · refine ⟨_, rfl, ?_⟩
    rw [State.encoderLevels_rejected h.running moved b i timed]
    obtain ⟨rises, self, other, ground, cooling, mesh, slots, notice⟩ := h.settle_noise room inv
      (a := a) (m := m) (y := { (s.axis a).levelled l.a none with rejected := min 65535 ((s.axis a).rejected + 1) }) move
    exact ⟨rises, self, other, ground, cooling, mesh, slots, notice⟩
  · refine ⟨_, rfl, ?_⟩
    rw [State.encoderLevels_phaseError h.running moved movedB i freshA freshB off newA newB low]
    exact h.settle_noise room inv (a := a) (m := m) (by exact move)

end Sys2Proof.Machine
end

section
/-! SUPPORT for O38 and O45. Accepted levels, index events and the span of a search (R17 to R19, R22, R23, R26, R27, R30). -/

namespace Sys2Proof.Machine

/-! ### Accepted levels (R19) -/

theorem State.pass_axis_aged (s : State) (us : Nat) (b : AxisId) : ∃ us' ms, (s.pass us).axis b = (s.axis b).pass us' ms := by
  obtain ⟨us', ms, e⟩ := s.pass_aged us
  rw [e]
  exact ⟨us', ms, by cases b <;> rfl⟩

/-- Time has passed, and an axis stands before the decoder update of inputs that have held their level. -/
structure State.Accepting (s x : State) (a : AxisId) (left : Nat) : Prop where
  waits : s.WaitsAlike x
  clock : x.clock = (s.pass left).clock
  blocks : x.mem = s.mem ∧ x.placement = s.placement ∧ x.budget = s.budget ∧ x.notice = s.notice
  st : (x.axis a).st = (s.axis a).st
  move : (x.axis a).move = (s.axis a).move
  cfg : (x.axis a).cfg = (s.axis a).cfg
  homed : (x.axis a).homed = (s.axis a).homed
  counter : ∀ b, (x.axis b).counter = (s.axis b).counter
  posTime : (x.axis a).posTime = (s.axis a).posTime
  filtered : (x.axis a).enc.a.filtered = (s.axis a).enc.a.filtered ∧ (x.axis a).enc.b.filtered = (s.axis a).enc.b.filtered
    ∧ (x.axis a).enc.i.filtered = (s.axis a).enc.i.filtered

/-- Nothing but the encoder of an axis differs from what passing time leaves. -/
theorem State.accepting {s : State} {a : AxisId} {left : Nat} {e : Encoder} {y : Axis}
    (axis : y = { (s.pass left).axis a with enc := e })
    (filtered : e.a.filtered = (s.axis a).enc.a.filtered ∧ e.b.filtered = (s.axis a).enc.b.filtered
      ∧ e.i.filtered = (s.axis a).enc.i.filtered) : s.Accepting ((s.pass left).setAxis a y) a left := by
  obtain ⟨_, _, mem, _, placement, budget, notice, _⟩ := s.pass_blocks left
  obtain ⟨us, ms, self⟩ := s.pass_axis_aged left a
  have same : ((s.pass left).setAxis a y).axis a = { (s.axis a).pass us ms with enc := e } := by
    rw [State.axis_setAxis_self, axis, self]
  refine ⟨(s.pass_waits left).trans ((s.pass left).setAxis_lens a y).waits, rfl, ⟨mem, placement, budget, notice⟩, ?_, ?_, ?_, ?_,
    fun b => ?_, ?_, ?_⟩
  case refine_5 =>
    by_cases eq : b = a
    · rw [eq, same]
      rfl
    · obtain ⟨us', ms', other⟩ := s.pass_axis_aged left b
      rw [State.axis_setAxis_other _ _ _ _ eq, other]
      rfl
  case refine_7 =>
    rw [same]
    exact filtered
  all_goals rw [same]; rfl

/-- The levels with which one input is accepted alone. -/
def Axis.acceptingA (x : Axis) : EncLevels := { a := x.enc.a.raw, b := x.enc.b.filtered, i := x.enc.i.filtered }
def Axis.acceptingI (x : Axis) : EncLevels := { a := x.enc.a.filtered, b := x.enc.b.filtered, i := x.enc.i.raw }

theorem State.acceptInputs_a {s : State} {a : AxisId} (timed : (s.axis a).enc.a.timing.isSome = true) :
    s.acceptInputs a { a := true, b := false, i := false }
      = (s.setAxis a ((s.axis a).levelled (s.axis a).enc.a.raw none)).decoderUpdate a (s.axis a).acceptingA := by
  unfold State.acceptInputs
  simp only [timed, Bool.true_and, Bool.false_and, Bool.or_false, if_true, if_false, Bool.true_eq_false, Bool.false_eq_true]
  rfl

theorem State.acceptInputs_i {s : State} {a : AxisId} (timed : (s.axis a).enc.i.timing.isSome = true) :
    s.acceptInputs a { a := false, b := false, i := true }
      = (s.setAxis a { s.axis a with enc := { (s.axis a).enc with i := { (s.axis a).enc.i with timing := none } } }).decoderUpdate a
          (s.axis a).acceptingI := by
  unfold State.acceptInputs
  simp only [timed, Bool.true_and, Bool.false_and, Bool.false_or, if_true, if_false, Bool.true_eq_false, Bool.false_eq_true]
  rfl

/-- FILTER_ACCEPT of input A alone: the time it had left passes, and the decoder takes its pin level (R17, R19). -/
theorem State.filterAccept_a {s : State} {a : AxisId} {left : Nat} (timing : (s.axis a).enc.a.timing = some left) :
    ∃ x, s.Accepting x a left ∧ s.filterAccept a { a := true, b := false, i := false } = x.decoderUpdate a (s.axis a).acceptingA
      ∧ (x.axis a).enc.a = { raw := (s.axis a).enc.a.raw, filtered := (s.axis a).enc.a.filtered, timing := none } := by
  obtain ⟨us, ms, aged⟩ := s.pass_axis_aged left a
  have timed : ((s.pass left).axis a).enc.a.timing.isSome = true := by
    rw [aged]
    show (countDown us (s.axis a).enc.a.timing).isSome = true
    rw [timing]
    rfl
  have left_ : (s.axis a).enc.leftOf { a := true, b := false, i := false } = left := by
    unfold Encoder.leftOf
    simp [timing]
  refine ⟨(s.pass left).setAxis a (((s.pass left).axis a).levelled ((s.pass left).axis a).enc.a.raw none), State.accepting rfl ?_, ?_, ?_⟩
  · rw [aged]
    exact ⟨rfl, rfl, rfl⟩
  · unfold State.filterAccept
    rw [left_, State.acceptInputs_a timed, aged]
    rfl
  · rw [State.axis_setAxis_self, aged]
    rfl

/-- FILTER_ACCEPT of the index input alone. -/
theorem State.filterAccept_i {s : State} {a : AxisId} {left : Nat} (timing : (s.axis a).enc.i.timing = some left) :
    ∃ x, s.Accepting x a left ∧ s.filterAccept a { a := false, b := false, i := true } = x.decoderUpdate a (s.axis a).acceptingI := by
  obtain ⟨us, ms, aged⟩ := s.pass_axis_aged left a
  have timed : ((s.pass left).axis a).enc.i.timing.isSome = true := by
    rw [aged]
    show (countDown us (s.axis a).enc.i.timing).isSome = true
    rw [timing]
    rfl
  have left_ : (s.axis a).enc.leftOf { a := false, b := false, i := true } = left := by
    unfold Encoder.leftOf
    simp [timing]
  refine ⟨(s.pass left).setAxis a { (s.pass left).axis a with
    enc := { ((s.pass left).axis a).enc with i := { ((s.pass left).axis a).enc.i with timing := none } } }, State.accepting rfl ?_, ?_⟩
  · rw [aged]
    exact ⟨rfl, rfl, rfl⟩
  · unfold State.filterAccept
    rw [left_, State.acceptInputs_i timed, aged]
    rfl

/-! ### Index events (R23, R26, R30) -/

/-- The axis whose home is found (R26). -/
def Axis.found (x : Axis) (now : Word) : Axis := { x with counter := signedWord x.cfg.homeValue, posTime := now, homed := true }

theorem State.indexEvent_homing {s : State} {a : AxisId} (run : s.hold = .running) (homing : (s.axis a).st = .homing) :
    s.indexEvent a = (s.setAxis a ((s.axis a).found s.clock.uptime)).enterStopping a doneOk := by
  unfold State.indexEvent
  rw [if_neg (by simp [run]), homing]
  show s.homeFound a = _
  unfold State.homeFound State.setCounter
  dsimp only
  rw [State.axis_setAxis_self, State.setAxis_setAxis]
  rfl

/-- The slip of R30: HOMED is cleared, the event raised, the move stopped. -/
def State.slipped (s : State) (a : AxisId) : State :=
  ((s.setAxis a { s.axis a with homed := false }).raiseCode (eventCode .slip (axisNumber a)) (s.axis a).counter
    (signedWord (s.axis a).cfg.homeValue)).enterStopping a (endedWith .slip)

theorem State.indexEvent_moving {s : State} {a : AxisId} (run : s.hold = .running)
    (moves : (s.axis a).st = .moving ∨ (s.axis a).st = .settling) (homed : (s.axis a).homed = true) :
    s.indexEvent a
      = if ((s.axis a).counter.toInt - (s.axis a).cfg.homeValue).natAbs ≤ 2 * (s.axis a).cfg.bands.2.2 then s else s.slipped a := by
  unfold State.indexEvent
  rw [if_neg (by simp [run])]
  rcases moves with st | st <;> rw [st] <;> exact if_pos homed

theorem State.enterStopping_lens (s : State) (a : AxisId) (r : Result) : s.LensOnly (s.enterStopping a r) := rfl

/-- An index event leaves no search running (R26). -/
theorem State.indexEvent_not_homing {s : State} {a : AxisId} (run : s.hold = .running) : ((s.indexEvent a).axis a).st ≠ .homing := by
  by_cases homing : (s.axis a).st = .homing
  · rw [State.indexEvent_homing run homing, (State.axis_enterStopping _ a _).1]
    exact (nomatch ·)
  · unfold State.indexEvent
    rw [if_neg (by simp [run])]
    have slip : ((s.slipCheck a).axis a).st ≠ .homing := by
      unfold State.slipCheck
      dsimp only
      split
      · exact homing
      · rw [(State.axis_enterStopping _ a _).1]
        exact (nomatch ·)
    split
    · exact absurd ‹_› homing
    · split
      · exact slip
      · exact homing
    · split
      · exact slip
      · exact homing
    all_goals exact homing

/-- A decoder update into the index phase: counted first, then the index event is taken (R23). -/
theorem State.decoderUpdate_index {s : State} {a : AxisId} {l : EncLevels} (run : s.hold = .running)
    (good : (s.axis a).transition l ≠ .phaseError) (rises : (s.axis a).indexRises l = true) :
    s.decoderUpdate a l = (s.decoded a l).indexEvent a := by
  rw [State.decoderUpdate_eq good, rises, if_pos rfl, State.spanCheck_of_not_homing (State.indexEvent_not_homing (s := s.decoded a l) run)]
  exact ite_self _

end Sys2Proof.Machine
end

section
/-! SUPPORT for O38 and O45. What an accepted level comes to: counted, home found, slipped (R18, R22, R26, R30). -/

namespace Sys2Proof.Machine

/-- What every accepted level leaves alone, out of a quiet state. -/
structure State.Accepted (s t : State) (left : Nat) : Prop where
  clock : t.clock = (s.pass left).clock
  mem : t.mem = s.mem
  slots : t.slots = s.slots
  placement : t.placement = s.placement
  notice : t.notice = s.notice

/-- No event was placed either. -/
theorem State.WaitsAlike.quietNews {s t : State} (waits : s.WaitsAlike t) : s.NoEvent t :=
  State.noEvent_of_same waits.buffer waits.events

theorem State.WaitsAlike.sameNews {s t : State} (waits : s.WaitsAlike t) (notice : t.notice = s.notice) : s.SameNews t := by
  unfold State.SameNews
  rw [waits.events]
  exact ⟨notice, rfl, rfl, rfl, rfl⟩

theorem State.decoded_lens (s : State) (a : AxisId) (l : EncLevels) : s.LensOnly (s.decoded a l) := rfl

namespace State.Accepting

variable {s x : State} {a : AxisId} {left : Nat} {l : EncLevels}

theorem hold (h : s.Accepting x a left) (quiet : s.Quiet) : x.hold = .running := h.waits.hold.trans quiet.running

theorem delta (h : s.Accepting x a left) (l : EncLevels) : (x.axis a).delta l = (s.axis a).delta l := by
  unfold Axis.delta
  rw [h.cfg, h.filtered.1, h.filtered.2.1]

theorem transition (h : s.Accepting x a left) (l : EncLevels) : (x.axis a).transition l = (s.axis a).transition l := by
  unfold Axis.transition
  rw [h.filtered.1, h.filtered.2.1]

theorem indexRises (h : s.Accepting x a left) (l : EncLevels) : (x.axis a).indexRises l = (s.axis a).indexRises l := by
  unfold Axis.indexRises Axis.indexCondition Axis.filteredAs Encoder.filteredAs
  dsimp only
  rw [h.cfg, h.filtered.1, h.filtered.2.1, h.filtered.2.2]

/-- An update that changes no more than axes and budget leaves nothing to settle. -/
theorem settle (h : s.Accepting x a left) (quiet : s.Quiet) {t : State} (lens : x.LensOnly t)
    (placement : t.placement = x.placement) : t.settle = t ∧ s.WaitsAlike t ∧ s.Accepted t left := by
  have waits := h.waits.trans lens.waits
  obtain ⟨outer, _, _, notice, _⟩ := lens.blocks
  obtain ⟨_, _, clock, _, _, mem, _⟩ := (State.outer_iff _ _).mp outer
  obtain ⟨mem', placement', _, notice'⟩ := h.blocks
  exact ⟨quiet.settle_waits waits, waits, clock.trans h.clock, mem.trans mem', waits.slots, placement.trans placement',
    notice.trans notice'⟩

/-- The home is found at an accepted level (R26). -/
theorem found (h : s.Accepting x a left) (quiet : s.Quiet) (good : (s.axis a).transition l ≠ .phaseError)
    (rises : (s.axis a).indexRises l = true) (homing : (s.axis a).st = .homing) {m : Move} (move : (s.axis a).move = some m)
    (unset : m.result = none) :
    let t := (x.decoderUpdate a l).settle
    (t.axis a).counter = signedWord (s.axis a).cfg.homeValue ∧ (t.axis a).posTime = t.clock.uptime ∧ (t.axis a).homed = true
      ∧ (t.axis a).st = .stopping ∧ (t.axis a).drive.duty = 0 ∧ (t.axis a).searchTimer = none
      ∧ (∃ n, (t.axis a).move = some n ∧ n.owner = m.owner ∧ n.result = some { cls := .done, code := .ok })
      ∧ t.budget.desire.get a = .zero ∧ s.WaitsAlike t ∧ s.Accepted t left := by
  intro t
  have self := x.decoded_axis a l
  have eq : x.decoderUpdate a l
      = ((x.decoded a l).setAxis a (((x.axis a).decoded l x.clock.uptime).found x.clock.uptime)).enterStopping a doneOk := by
    rw [State.decoderUpdate_index (h.hold quiet) (by rwa [h.transition]) (by rwa [h.indexRises]),
      State.indexEvent_homing (s := x.decoded a l) (h.hold quiet) (by rw [self]; exact h.st.trans homing), self]
    rfl
  obtain ⟨still, waits, accepted⟩ := h.settle quiet (t := x.decoderUpdate a l) (by rw [eq]; rfl) (by rw [eq]; rfl)
  have axis := (State.axis_enterStopping ((x.decoded a l).setAxis a (((x.axis a).decoded l x.clock.uptime).found x.clock.uptime)) a doneOk).1
  rw [← eq, State.axis_setAxis_self] at axis
  have budget : (x.decoderUpdate a l).budget.desire.get a = .zero := by
    rw [eq]
    exact PerAxis.get_set_self _ _ _
  have clock : (x.decoderUpdate a l).clock = x.clock := by
    rw [eq]
    rfl
  rw [show t = x.decoderUpdate a l from still, axis, clock]
  refine ⟨congrArg (fun c : AxisCfg => signedWord c.homeValue) h.cfg, rfl, rfl, rfl, rfl, rfl,
    ⟨_, congrArg (Option.map _) (h.move.trans move), rfl, ?_⟩, budget, waits, accepted⟩
  show some (m.result.getD doneOk) = _
  rw [unset]
  rfl

end State.Accepting

/-- A slip is told and stops the move; the event is the only one (R30). -/
structure State.Slipped (s t : State) (a : AxisId) (counter : Word) : Prop where
  homed : (t.axis a).homed = false
  counted : (t.axis a).counter = counter
  stopped : s.Stopped t a .slip
  desire : t.budget.desire.get a = .zero
  raises : s.Raises t (eventCode .slip (axisNumber a)) counter (signedWord (s.axis a).cfg.homeValue)

theorem State.Accepting.slips {s x z : State} {a : AxisId} {left : Nat} (h : s.Accepting x a left) (quiet : s.Quiet) (room : s.RingOpen)
    (inv : s.RingInv) (lens : x.LensOnly z) (placement : z.placement = x.placement) (cfg : (z.axis a).cfg = (s.axis a).cfg)
    (move : (z.axis a).move = (s.axis a).move) :
    s.Slipped (z.slipped a).settle a (z.axis a).counter ∧ ((z.slipped a).settle.axis a).posTime = (z.axis a).posTime
      ∧ s.Accepted (z.slipped a).settle left := by
  have waits := h.waits.trans lens.waits
  have zRoom : z.RingOpen := by
    unfold State.RingOpen
    rw [waits.events]
    exact room
  have eq : z.slipped a
      = ((z.setAxis a { z.axis a with homed := false }).placeRecord (eventCode .slip (axisNumber a)) (z.axis a).counter
          (signedWord (z.axis a).cfg.homeValue)).enterStopping a (endedWith .slip) := by
    unfold State.slipped
    rw [State.raiseCode_open (s := z.setAxis a _) (waits.hold.trans quiet.running) zRoom]
  have told := quiet.settle_told (x := z.slipped a) (code := eventCode .slip (axisNumber a)) (va := (z.axis a).counter)
    (vb := signedWord (z.axis a).cfg.homeValue) inv.fedOk
    (by
      rw [eq]
      unfold State.placeRecord
      rw [← waits.events]
      rfl)
    (waits.trans (.of_blocks (by rw [eq]; rfl) (by rw [eq]; rfl) (by rw [eq]; rfl) waits.events.symm (by rw [eq]; rfl)))
  obtain ⟨outer, _, _, notice, _⟩ := lens.blocks
  obtain ⟨_, _, clock, _, _, mem, _⟩ := (State.outer_iff _ _).mp outer
  obtain ⟨mem', placement', _, notice'⟩ := h.blocks
  have axis : (z.slipped a).axis a = Axis.toStopping { z.axis a with homed := false } (endedWith .slip) := by
    rw [eq, (State.axis_enterStopping _ a _).1]
    exact congrArg (fun y : Axis => y.toStopping (endedWith .slip)) (z.axis_setAxis_self a _)
  obtain ⟨mem'', ⟨clock'', _⟩, ⟨axes'', placement'', budget''⟩, _, notice'', _⟩ := told.keeps.blocks
  have axis' : (z.slipped a).settle.axis a = (z.slipped a).axis a := congrArg (fun q : PerAxis Axis => q.get a) axes''
  refine ⟨⟨by rw [axis', axis]; rfl, by rw [axis', axis]; rfl, ?_, ?_, cfg ▸ told.raises⟩, by rw [axis', axis]; rfl,
    clock''.trans ?_, mem''.trans ?_, told.slots, placement''.trans ?_, notice''.trans ?_⟩
  · unfold State.Stopped
    rw [axis', axis]
    refine ⟨rfl, rfl, fun m moves => ⟨_, congrArg (Option.map _) (move.trans moves), rfl, rfl, rfl⟩⟩
  · rw [budget'', eq]
    exact PerAxis.get_set_self _ _ _
  · rw [eq]
    exact clock.trans h.clock
  · rw [eq]
    exact mem.trans mem'
  · rw [eq]
    exact placement.trans placement'
  · rw [eq]
    exact notice.trans notice'

/-! ### FILTER_ACCEPT (O38, O45) -/

/-- An accepted level that only counts. -/
theorem State.Accepting.counts {s x : State} {a : AxisId} {left : Nat} {l : EncLevels} (h : s.Accepting x a left) (quiet : s.Quiet)
    (eq : x.decoderUpdate a l = x.decoded a l) :
    let t := (x.decoderUpdate a l).settle
    t.axis a = (x.axis a).decoded l x.clock.uptime ∧ t.axis (otherAxis a) = x.axis (otherAxis a) ∧ t.budget = s.budget
      ∧ s.WaitsAlike t ∧ s.Accepted t left ∧ t.clock = x.clock := by
  obtain ⟨still, waits, accepted⟩ := h.settle quiet (x.decoded_lens a l) rfl
  obtain ⟨_, _, budget, _⟩ := h.blocks
  rw [eq, still]
  exact ⟨x.decoded_axis a l, x.axis_setAxis_other a _ _ (otherAxis_ne a), budget, waits, accepted, rfl⟩

theorem Axis.acceptingA_good (x : Axis) : x.transition x.acceptingA ≠ .phaseError := Axis.transition_ne_phaseError (.inr rfl)

theorem Axis.acceptingI_good (x : Axis) : x.transition x.acceptingI ≠ .phaseError := Axis.transition_ne_phaseError (.inl rfl)

/-- The index input accepted alone counts nothing. -/
theorem Axis.acceptingI_delta (x : Axis) : x.delta x.acceptingI = 0 := ((countDelta_rules _ _).2.2.2.2.2.2 _).2

theorem Axis.acceptingI_rises {x : Axis} {left : Nat} (index : x.enc.i = { raw := true, filtered := false, timing := some left })
    (a : x.enc.a.filtered = x.cfg.encoder.phaseA) (b : x.enc.b.filtered = x.cfg.encoder.phaseB) :
    x.indexRises x.acceptingI = true := by
  show ((x.enc.i.raw && (x.enc.a.filtered == x.cfg.encoder.phaseA) && (x.enc.b.filtered == x.cfg.encoder.phaseB)) && !(x.enc.i.filtered && _ && _)) = true
  rw [index, a, b]
  simp

theorem Axis.acceptingA_rises {x : Axis} (index : x.enc.i.filtered = true) (moved : x.enc.a.raw ≠ x.enc.a.filtered)
    (a : x.enc.a.raw = x.cfg.encoder.phaseA) (b : x.enc.b.filtered = x.cfg.encoder.phaseB) : x.indexRises x.acceptingA = true := by
  have off : x.indexCondition = false := by
    unfold Axis.indexCondition
    rw [show (x.enc.a.filtered == x.cfg.encoder.phaseA) = false from beq_false_of_ne (fun e => moved (a.trans e.symm)), Bool.and_false,
      Bool.false_and]
  show ((x.enc.i.filtered && (x.enc.a.raw == x.cfg.encoder.phaseA) && (x.enc.b.filtered == x.cfg.encoder.phaseB)) && !x.indexCondition) = true
  rw [index, a, b, off]
  simp

/-- An index event in MOVING or SETTLING on a homed axis, within the band of R30 or beyond it. -/
theorem State.Accepting.moves {s x : State} {a : AxisId} {left : Nat} {l : EncLevels} (h : s.Accepting x a left) (quiet : s.Quiet)
    (room : s.RingOpen) (inv : s.RingInv) (good : (s.axis a).transition l ≠ .phaseError) (rises : (s.axis a).indexRises l = true)
    (moves : (s.axis a).st = .moving ∨ (s.axis a).st = .settling) (homed : (s.axis a).homed = true) {c : Word}
    (counted : c = (s.axis a).counter + signedWord ((s.axis a).delta l)) :
    let t := (x.decoderUpdate a l).settle
    (t.axis a).counter = c ∧ (t.axis a).posTime = (if (s.axis a).delta l = 0 then (s.axis a).posTime else t.clock.uptime)
      ∧ ((c.toInt - (s.axis a).cfg.homeValue).natAbs ≤ 2 * (s.axis a).cfg.bands.2.2 →
          (t.axis a).homed = true ∧ (t.axis a).st = (s.axis a).st ∧ (t.axis a).move = (s.axis a).move ∧ s.NoEvent t)
      ∧ (2 * (s.axis a).cfg.bands.2.2 < (c.toInt - (s.axis a).cfg.homeValue).natAbs → s.Slipped t a c)
      ∧ s.Accepted t left := by
  intro t
  have self := x.decoded_axis a l
  have now : ((x.decoded a l).axis a).counter = c := by
    rw [self, counted, ← h.counter a, ← h.delta l]
    rfl
  have cfg : ((x.decoded a l).axis a).cfg = (s.axis a).cfg := by
    rw [self]
    exact h.cfg
  have stamp : ((x.decoded a l).axis a).posTime = if (s.axis a).delta l = 0 then (s.axis a).posTime else x.clock.uptime := by
    rw [self, ← h.delta l, ← h.posTime]
    rfl
  have eq : x.decoderUpdate a l
      = if (c.toInt - (s.axis a).cfg.homeValue).natAbs ≤ 2 * (s.axis a).cfg.bands.2.2 then x.decoded a l
        else (x.decoded a l).slipped a := by
    rw [State.decoderUpdate_index (h.hold quiet) (by rwa [h.transition]) (by rwa [h.indexRises]),
      State.indexEvent_moving (s := x.decoded a l) (h.hold quiet) (by rw [self]; exact h.st.symm ▸ moves)
        (by rw [self]; exact h.homed.trans homed), now, cfg]
  by_cases near : (c.toInt - (s.axis a).cfg.homeValue).natAbs ≤ 2 * (s.axis a).cfg.bands.2.2
  · rw [if_pos near] at eq
    obtain ⟨axis, _, _, waits, accepted, clock⟩ := h.counts quiet eq
    rw [show t.axis a = _ from axis.trans self.symm, show t.clock = _ from clock]
    refine ⟨now, stamp, fun _ => ?_, fun far => absurd near (Nat.not_le.mpr far), accepted⟩
    rw [self]
    exact ⟨h.homed.trans homed, h.st, h.move, waits.quietNews⟩
  · rw [if_neg near] at eq
    obtain ⟨slipped, posTime, accepted⟩ := h.slips quiet room inv (x.decoded_lens a l) rfl cfg (by rw [self]; exact h.move)
    rw [← eq, now] at slipped
    rw [← eq] at posTime accepted
    refine ⟨slipped.counted, ?_, fun q => absurd q near, fun _ => slipped, accepted⟩
    rw [show t.clock = _ from accepted.clock.trans h.clock.symm, ← stamp]
    exact posTime

/-- Out of a search, and where it checks no slip, an index event changes nothing (R23). -/
theorem State.indexEvent_rests {s : State} {a : AxisId} (homing : (s.axis a).st ≠ .homing)
    (still : (s.axis a).st = .moving ∨ (s.axis a).st = .settling → (s.axis a).homed = false) : s.indexEvent a = s := by
  unfold State.indexEvent
  cases st : (s.axis a).st with
  | homing => exact absurd st homing
  | moving => rw [still (.inl st)]; exact ite_self _
  | settling => rw [still (.inr st)]; exact ite_self _
  | idle => exact ite_self _
  | stopping => exact ite_self _
  | fault => exact ite_self _

/-- Whatever the axis does, an accepted level that brings an index event leaves memory, slots, placement and notices alone. -/
theorem State.Accepting.accepted_index {s x : State} {a : AxisId} {left : Nat} {l : EncLevels} (h : s.Accepting x a left) (quiet : s.Quiet)
    (room : s.RingOpen) (inv : s.RingInv) (good : (s.axis a).transition l ≠ .phaseError) (rises : (s.axis a).indexRises l = true) :
    s.Accepted (x.decoderUpdate a l).settle left := by
  have eq := State.decoderUpdate_index (h.hold quiet) (by rwa [h.transition]) (by rwa [h.indexRises])
  have self := x.decoded_axis a l
  by_cases homing : (s.axis a).st = .homing
  · rw [State.indexEvent_homing (s := x.decoded a l) (h.hold quiet) (by rw [self]; exact h.st.trans homing)] at eq
    obtain ⟨still, _, accepted⟩ := h.settle quiet (t := x.decoderUpdate a l) (by rw [eq]; rfl) (by rw [eq]; rfl)
    rwa [still]
  · by_cases checks : ((s.axis a).st = .moving ∨ (s.axis a).st = .settling) ∧ (s.axis a).homed = true
    · obtain ⟨_, _, _, _, accepted⟩ := h.moves quiet room inv good rises checks.1 checks.2 rfl
      exact accepted
    · have still := State.indexEvent_rests (s := x.decoded a l) (by rw [self]; exact h.st.symm ▸ homing) (fun moves => by
        rw [self] at moves ⊢
        exact h.homed.trans (Bool.eq_false_iff.mpr (fun homed => checks ⟨h.st ▸ moves, homed⟩)))
      obtain ⟨_, _, _, _, accepted, _⟩ := h.counts quiet (eq.trans still)
      exact accepted

/-- Settles O38: at rest a level is only counted; in HOMING the index finds the home; on a homed axis in motion it checks for a
slip. -/
theorem filterAccepts : Obligations.FilterAccepts := by
  refine ⟨fun s a left h idle timing _ => ?_, fun s a m left h homing move unset index phaseA phaseB => ?_,
    fun s a m left h room inv move index timing moved phaseA phaseB => ?_⟩
  · obtain ⟨x, acc, eq, input⟩ := State.filterAccept_a timing
    refine ⟨_, congrArg (fun t : State => Host.Outcome.next t.settle) eq, ?_⟩
    have st := acc.st.trans idle
    obtain ⟨self, other, budget, waits, accepted, clock⟩ := acc.counts h
      (State.decoderUpdate_counts (by rw [acc.transition]; exact Axis.acceptingA_good _)
        (fun _ => State.indexEvent_idle (s := x.decoded a _) (by rw [State.decoded_axis]; exact st)) (by rw [st]; decide))
    have delta := acc.delta (s.axis a).acceptingA
    rw [self, other, clock]
    refine ⟨?_, acc.clock, ⟨?_, ?_⟩, acc.homed, st, acc.counter _, accepted.mem, accepted.placement, budget, accepted.slots,
      waits.sameNews accepted.notice⟩
    · show EncInput.mk (x.axis a).enc.a.raw (s.axis a).enc.a.raw (x.axis a).enc.a.timing = _
      rw [input]
    · show (x.axis a).counter + signedWord ((x.axis a).delta _) = _
      rw [acc.counter, delta]
      rfl
    · show (if (x.axis a).delta _ = 0 then (x.axis a).posTime else _) = _
      rw [acc.posTime, delta]
      rfl
  · obtain ⟨x, acc, eq⟩ := State.filterAccept_i (left := left) (congrArg EncInput.timing index)
    refine ⟨_, congrArg (fun t : State => Host.Outcome.next t.settle) eq, ?_⟩
    obtain ⟨counter, posTime, homed, st, duty, timer, result, desire, waits, accepted⟩ := acc.found h (Axis.acceptingI_good _)
      (Axis.acceptingI_rises index phaseA phaseB) homing move unset
    exact ⟨counter, posTime, homed, st, duty, timer, result, desire, accepted.clock, accepted.mem, accepted.placement, accepted.slots,
      waits.sameNews accepted.notice⟩
  · obtain ⟨x, acc, eq, _⟩ := State.filterAccept_a timing
    refine ⟨_, congrArg (fun t : State => Host.Outcome.next t.settle) eq, ?_⟩
    have good := (s.axis a).acceptingA_good
    have rises := Axis.acceptingA_rises index moved phaseA phaseB
    have accepted : s.Accepted (x.decoderUpdate a (s.axis a).acceptingA).settle left :=
      acc.accepted_index h room inv good rises
    refine ⟨fun homing unset => ?_, fun moves homed => ?_, accepted.clock, accepted.mem, accepted.placement, accepted.slots,
      accepted.notice⟩
    · obtain ⟨counter, posTime, homed, st, duty, timer, result, desire, waits, _⟩ := acc.found h good rises homing move unset
      exact ⟨counter, posTime, homed, st, duty, timer, desire, waits.quietNews, result⟩
    · obtain ⟨counter, _, near, far, _⟩ := acc.moves h room inv good rises moves homed rfl
      refine ⟨counter, fun q => ?_, fun q => ?_⟩
      · obtain ⟨homed, st, moves, quiet⟩ := near q
        exact ⟨homed, st, moves.trans move, quiet⟩
      · have slipped := far q
        exact ⟨slipped.homed, slipped.stopped, slipped.raises⟩

end Sys2Proof.Machine
end

section
/-! SUPPORT for O45. Searches that fail (R27, R30). -/

namespace Sys2Proof.Machine

/-- The axis whose search fails, with the travel kept (R27, R28). -/
def Axis.strayed (x : Axis) : Axis := { x with move := x.move.map (fun m => { m with failTravel := x.travel }) }

theorem State.homeFail_eq (s : State) (a : AxisId) :
    s.homeFail a = (s.setAxis a (s.axis a).strayed).enterStopping a (endedWith .homeFail) := rfl

/-- A failed search stops with HOME_FAIL unless a result was set (R27). -/
theorem State.homeFail_axis (s : State) (a : AxisId) : (s.homeFail a).axis a = (s.axis a).strayed.toStopping (endedWith .homeFail) := by
  rw [State.homeFail_eq, (State.axis_enterStopping _ a _).1, State.axis_setAxis_self]

theorem State.homeFail_lens (s : State) (a : AxisId) : s.LensOnly (s.homeFail a) := rfl

theorem Axis.travel_of_move {x : Axis} {m : Move} (move : x.move = some m) :
    x.travel = if x.cfg.encoder.homePositive then x.counter.toInt - m.origin.toInt else m.origin.toInt - x.counter.toInt := by
  unfold Axis.travel
  rw [move]

/-- Out of a quiet state, time passes and a search fails. -/
theorem State.searchExpiry_eq {s : State} {a : AxisId} {left : Nat} (homing : (s.axis a).st = .homing)
    (timer : (s.axis a).searchTimer = some left) : s.searchExpiry a = (s.passMs left).homeFail a := by
  unfold State.searchExpiry
  rw [timer]
  exact if_pos homing

/-- A counted transition in a search, away from the index: the span is compared with the travel that it leaves (R27). -/
theorem State.Accepting.searches {s x : State} {a : AxisId} {left : Nat} {l : EncLevels} (h : s.Accepting x a left)
    (good : (s.axis a).transition l ≠ .phaseError) (rises : (s.axis a).indexRises l = false) (homing : (s.axis a).st = .homing)
    {m : Move} (move : (s.axis a).move = some m) (counted : (s.axis a).delta l ≠ 0) {travel : Int}
    (travels : travel =
      if (s.axis a).cfg.encoder.homePositive then ((s.axis a).counter + signedWord ((s.axis a).delta l)).toInt - m.origin.toInt
      else m.origin.toInt - ((s.axis a).counter + signedWord ((s.axis a).delta l)).toInt) :
    ((x.decoded a l).axis a).travel = travel
      ∧ x.decoderUpdate a l = if ((s.axis a).cfg.span : Int) < travel then (x.decoded a l).homeFail a else x.decoded a l := by
  have self := x.decoded_axis a l
  have far : ((x.decoded a l).axis a).travel = travel := by
    rw [self, Axis.travel_of_move (x := (x.axis a).decoded l _) (h.move.trans move), travels, ← h.delta l, ← h.counter a, ← h.cfg]
    rfl
  refine ⟨far, ?_⟩
  rw [State.decoderUpdate_eq (by rwa [h.transition]), if_neg (by rwa [h.delta]), if_neg (by rw [h.indexRises, rises]; decide)]
  unfold State.spanCheck
  dsimp only
  rw [far, self, show ((x.axis a).decoded l x.clock.uptime).cfg = (s.axis a).cfg from h.cfg]
  exact if_congr (and_iff_right (h.st.trans homing)) rfl rfl

/-- Settles O45: the timer and the span end a search; the index event of an axis in motion finds a slip or nothing. -/
theorem homeTimeout : Obligations.HomeTimeout := by
  refine ⟨fun s a m left h homing move timer => ?_, fun s a m left d travel h homing move low timing moved delta counted travels => ?_,
    fun s a m left h room inv moves move homed index phaseA phaseB => ?_⟩
  · refine ⟨_, congrArg (fun t : State => Host.Outcome.next t.settle) (State.searchExpiry_eq homing timer), ?_⟩
    obtain ⟨us, ms, aged⟩ := s.pass_axis_aged (1000 * left) a
    have waits := (s.pass_waits (1000 * left)).trans ((s.passMs left).homeFail_lens a).waits
    obtain ⟨_, _, mem, _, placement, _, notice, _⟩ := s.pass_blocks (1000 * left)
    have move' : ((s.passMs left).axis a).move = some m := (s.pass_axis (1000 * left) a).2.trans move
    rw [h.settle_waits waits, State.homeFail_axis]
    refine ⟨rfl, rfl, rfl, ?_, ⟨_, congrArg (Option.map _) (congrArg (Option.map _) move'), rfl, rfl⟩, rfl, mem, waits.slots, placement,
      waits.sameNews notice⟩
    show ((s.passMs left).axis a).homed = _
    rw [State.passMs, aged]
    rfl
  · obtain ⟨x, acc, eq, _⟩ := State.filterAccept_a timing
    refine ⟨_, congrArg (fun t : State => Host.Outcome.next t.settle) eq, ?_⟩
    have d_eq : d = (s.axis a).delta (s.axis a).acceptingA := delta
    subst d_eq
    obtain ⟨far, update⟩ := acc.searches (Axis.acceptingA_good _) (Axis.indexRises_eq_false low) homing move counted travels
    have self := x.decoded_axis a (s.axis a).acceptingA
    have counter : ((x.axis a).decoded (s.axis a).acceptingA x.clock.uptime).counter
        = (s.axis a).counter + signedWord ((s.axis a).delta (s.axis a).acceptingA) := by
      rw [← acc.counter a, ← acc.delta]
      rfl
    have moves := acc.move.trans move
    by_cases beyond : ((s.axis a).cfg.span : Int) < travel
    · rw [if_pos beyond] at update
      obtain ⟨still, waits, accepted⟩ := acc.settle h (t := x.decoderUpdate a _) (by rw [update]; rfl) (by rw [update]; rfl)
      have axis := (x.decoded a (s.axis a).acceptingA).homeFail_axis a
      rw [← update] at axis
      have strayed : (((x.decoded a (s.axis a).acceptingA).axis a).strayed.toStopping (endedWith .homeFail)).move
          = some { m with failTravel := travel, result := some (m.result.getD (endedWith .homeFail)), quiet := 0, stops := 0, settleCount := 0 } := by
        rw [← far]
        show Option.map _ (Option.map _ ((x.decoded a (s.axis a).acceptingA).axis a).move) = _
        rw [show ((x.decoded a (s.axis a).acceptingA).axis a).move = some m by rw [self]; exact moves]
        rfl
      unfold State.Stopped
      rw [still, axis]
      refine ⟨by rw [self]; exact counter, by rw [self]; exact acc.homed, fun _ => ⟨⟨rfl, rfl, fun n e => ?_⟩, rfl, _, strayed, rfl⟩,
        fun within => absurd beyond (Int.not_lt.mpr within), accepted.clock, accepted.mem, accepted.slots, accepted.placement,
        waits.sameNews accepted.notice⟩
      cases move.symm.trans e
      exact ⟨_, strayed, rfl, rfl, rfl⟩
    · rw [if_neg beyond] at update
      obtain ⟨axis, _, _, waits, accepted, _⟩ := acc.counts h update
      rw [axis]
      exact ⟨counter, acc.homed, fun q => absurd q beyond, fun _ => ⟨acc.st.trans homing, moves⟩, accepted.clock, accepted.mem,
        accepted.slots, accepted.placement, waits.sameNews accepted.notice⟩
  · obtain ⟨x, acc, eq⟩ := State.filterAccept_i (left := left) (congrArg EncInput.timing index)
    refine ⟨_, congrArg (fun t : State => Host.Outcome.next t.settle) eq, ?_⟩
    have zero := (s.axis a).acceptingI_delta
    obtain ⟨counter, posTime, near, far, accepted⟩ := acc.moves h room inv (Axis.acceptingI_good _)
      (Axis.acceptingI_rises index phaseA phaseB) moves homed (c := (s.axis a).counter)
      (by rw [zero]; exact (BitVec.add_zero _).symm)
    rw [if_pos zero] at posTime
    refine ⟨counter, posTime, fun q => ?_, fun q => ?_, accepted.clock, accepted.mem, congrArg SlotUnit.views accepted.slots,
      congrArg SlotUnit.queue accepted.slots, accepted.placement, accepted.notice⟩
    · obtain ⟨homed, st, moves, quiet⟩ := near q
      exact ⟨homed, st, moves.trans move, quiet⟩
    · have slipped := far q
      exact ⟨slipped.homed, slipped.stopped, slipped.desire, slipped.raises⟩

end Sys2Proof.Machine
end

section
/-! SUPPORT for O39, O41 to O44. One motion period: drive, hold, settle (R45 to R50, R121 to R123). -/

namespace Sys2Proof.Machine

/-! ### What a period does (R45) -/

/-- The axis at the end of a period (R49, R52). -/
def Axis.periodEnded (x : Axis) : Axis := { x with prevCount := x.counter, periodTimer := 1 }

theorem State.motionPeriod_eq {s w : State} {a : AxisId} (run : s.hold = .running)
    (work : (s.passMs (s.axis a).periodTimer).periodWork a = w) : s.motionPeriod a = w.setAxis a (w.axis a).periodEnded := by
  unfold State.motionPeriod
  rw [if_neg (by simp [run])]
  dsimp only
  rw [work]
  rfl

/-- What a period whose work changes no more than axes, placement and budget leaves alone. -/
structure State.Period (s t : State) (a : AxisId) : Prop where
  waits : s.WaitsAlike t
  clock : t.clock = (s.passMs (s.axis a).periodTimer).clock
  mem : t.mem = s.mem
  slots : t.slots = s.slots
  news : s.SameNews t

/-- A period out of a quiet state whose work changes no more than axes, placement and budget: nothing is left to settle. -/
theorem State.Quiet.period {s w : State} {a : AxisId} (h : s.Quiet) (work : (s.passMs (s.axis a).periodTimer).periodWork a = w)
    (lens : (s.passMs (s.axis a).periodTimer).LensOnly w) :
    (s.motionPeriod a).settle = w.setAxis a (w.axis a).periodEnded ∧ s.Period (w.setAxis a (w.axis a).periodEnded) a := by
  have lens' := lens.trans (w.setAxis_lens a (w.axis a).periodEnded)
  have waits := (s.pass_waits (1000 * (s.axis a).periodTimer)).trans lens'.waits
  obtain ⟨outer, _, _, notice, _⟩ := lens'.blocks
  obtain ⟨_, _, clock, _, _, mem, _⟩ := (State.outer_iff _ _).mp outer
  obtain ⟨_, _, mem', _, _, _, notice', _⟩ := s.pass_blocks (1000 * (s.axis a).periodTimer)
  rw [State.motionPeriod_eq h.running work]
  exact ⟨h.settle_waits waits, waits, clock, mem.trans mem', waits.slots, waits.sameNews (notice.trans notice')⟩

theorem State.periodWork_eq {s : State} {a : AxisId} {m : Move} (move : (s.axis a).move = some m) :
    ((s.axis a).st = .homing → s.periodWork a = s.drivePeriod a m .creep (s.axis a).cfg.encoder.homePositive)
      ∧ ((s.axis a).st = .moving → s.periodWork a = s.movingPeriod a m)
      ∧ ((s.axis a).st = .settling → s.periodWork a = s.settlingPeriod a m)
      ∧ ((s.axis a).st = .stopping → s.periodWork a = s.stoppingPeriod a m) := by
  unfold State.periodWork
  rw [move]
  refine ⟨fun st => ?_, fun st => ?_, fun st => ?_, fun st => ?_⟩ <;> rw [st]

/-! ### Allotments (R121, R122) -/

theorem State.axis_setDesire (s : State) (a : AxisId) (c : Machine.Class) (b : AxisId) :
    (s.setDesire a c).axis b = (s.axis b).takeAllotment ((s.setDesire a c).budget.allot.get b) := by
  cases b <;> rfl

theorem State.setDesire_lens (s : State) (a : AxisId) (c : Machine.Class) : s.LensOnly (s.setDesire a c) := rfl

theorem Class.rank_inj {c d : Machine.Class} (h : c.rank = d.rank) : c = d := by
  revert h
  cases c <;> cases d <;> decide

/-- A class whose share is left is granted (R121). -/
theorem grantClass_of_fits {c : Machine.Class} {left : Nat} (fits : c.reserve ≤ left) : grantClass c left = c := by
  have g := grantClass_largest c left
  exact Class.rank_inj (Nat.le_antisymm g.within (g.largest c (Nat.le_refl _) fits))

/-- Less than a CREEP share grants nothing (R121). -/
theorem grantClass_of_less {c : Machine.Class} {left : Nat} (less : left < 4) : grantClass c left = .zero := by
  have fits := (grantClass_largest c left).fits
  cases g : grantClass c left with
  | zero => rfl
  | creep => rw [g] at fits; exact absurd (Nat.lt_of_le_of_lt fits less) (by decide)
  | near => rw [g] at fits; exact absurd (Nat.lt_of_le_of_lt fits less) (by decide)
  | far => rw [g] at fits; exact absurd (Nat.lt_of_le_of_lt fits less) (by decide)

/-- An axis alone on the order gets what it desires where its share is there (R121). -/
theorem State.setDesire_alone {s : State} {a : AxisId} {c : Machine.Class} (order : s.budget.order = [a])
    (fits : c.reserve ≤ s.budget.capacity - s.totalDraw) : (s.setDesire a c).budget.allot.get a = c := by
  have one := (State.allotNow_one (s := { s with budget := { s.budget with desire := s.budget.desire.set a c } }) order).2
  refine Eq.trans one ?_
  rw [show (s.budget.desire.set a c).get a = c from PerAxis.get_set_self _ _ _]
  exact grantClass_of_fits fits

/-- The younger of two axes gets nothing where the older leaves less than a CREEP share, and the older keeps its own (R121). -/
theorem State.setDesire_starved {s : State} {a : AxisId} (c : Machine.Class) (inv : s.AllotInv) (order : s.budget.order = [otherAxis a, a])
    (less : s.budget.capacity - s.totalDraw - (s.budget.allot.get (otherAxis a)).reserve < 4) :
    (s.setDesire a c).budget.allot.get a = .zero
      ∧ (s.setDesire a c).budget.allot.get (otherAxis a) = s.budget.allot.get (otherAxis a) := by
  have before := (State.allotNow_two order).1
  obtain ⟨older, younger⟩ := State.allotNow_two (s := { s with budget := { s.budget with desire := s.budget.desire.set a c } }) order
  have kept : (s.setDesire a c).budget.allot.get (otherAxis a) = s.budget.allot.get (otherAxis a) := by
    rw [show s.budget.allot = s.allotNow from inv, before]
    refine Eq.trans older ?_
    rw [show (s.budget.desire.set a c).get (otherAxis a) = s.budget.desire.get (otherAxis a) from
      PerAxis.get_set_other _ _ _ _ (otherAxis_ne a)]
    rfl
  refine ⟨Eq.trans younger (grantClass_of_less ?_), kept⟩
  rw [← kept] at less
  exact less

/-! ### Driving and holding (R46 to R49) -/

/-- The axis in a driven period (R47, R48). -/
def Axis.driven (x : Axis) (m : Move) (desire grant : Machine.Class) (positive lift : Bool) : Axis :=
  { x with
    drive := { positive := positive, duty := (x.cfg.duties lift).get grant, cls := grant, lift := lift }
    lastDuty := (x.cfg.duties lift).get grant
    move := some
      { m with
        holdTime := 0
        limited := if grant.rank < desire.rank then satSucc m.limited else m.limited
        stallCount := stallCountAfter x m ((x.cfg.duties lift).get grant) } }

theorem Axis.SameButDrive.driven {x y : Axis} (h : x.SameButDrive y) (m : Move) (desire grant : Machine.Class) (positive lift : Bool) :
    y.driven m desire grant positive lift = x.driven m desire grant positive lift := by
  rw [h.eq]
  rfl

theorem stallCountAfter_le (x : Axis) (m : Move) (duty : Nat) : stallCountAfter x m duty ≤ m.stallCount + 1 := by
  unfold stallCountAfter
  split
  · exact Nat.le_succ _
  · split
    · exact Nat.le_refl _
    · exact Nat.zero_le _

/-- A period with a class: the drive is set, and fifty driven periods without a count stall the axis (R47, R49). -/
theorem State.drivePeriod_driven {s : State} {a : AxisId} {m : Move} {desire grant : Machine.Class} {positive lift : Bool}
    (granted : (s.setDesire a desire).budget.allot.get a = grant) (some_ : grant ≠ .zero)
    (lifts : liftSet a s.placement.orientation positive = lift) :
    s.drivePeriod a m desire positive
      = if 50 ≤ stallCountAfter (s.axis a) m (((s.axis a).cfg.duties lift).get grant) then
          ((s.setDesire a desire).setAxis a ((s.axis a).driven m desire grant positive lift)).stallEnd a
        else (s.setDesire a desire).setAxis a ((s.axis a).driven m desire grant positive lift) := by
  have same : (s.axis a).SameButDrive ((s.setDesire a desire).axis a) := by
    rw [State.axis_setDesire]
    exact Axis.takeAllotment_sameButDrive _ _
  have driven : (s.setDesire a desire).drivenPeriod a m desire grant positive
      = if 50 ≤ stallCountAfter ((s.setDesire a desire).axis a) m ((((s.setDesire a desire).axis a).cfg.duties lift).get grant) then
          ((s.setDesire a desire).setAxis a (((s.setDesire a desire).axis a).driven m desire grant positive lift)).stallEnd a
        else (s.setDesire a desire).setAxis a (((s.setDesire a desire).axis a).driven m desire grant positive lift) := by
    unfold State.drivenPeriod
    dsimp only
    rw [show liftSet a (s.setDesire a desire).placement.orientation positive = lift from lifts]
    unfold Axis.driveAt
    rw [if_neg some_]
    rfl
  unfold State.drivePeriod
  dsimp only
  rw [granted, if_neg some_, driven, same.driven]
  rw [same.eq]
  rfl

/-- The axis in a hold period (R48). -/
def Axis.heldBack (x : Axis) (m : Move) : Axis :=
  { x with drive := x.drive.off, move := some { m with holdTime := m.holdTime + 1, limited := satSucc m.limited } }

/-- A period without a class: the axis holds, for 2000 ms at most (R48). -/
theorem State.drivePeriod_hold {s : State} {a : AxisId} {m : Move} {desire : Machine.Class} {positive : Bool}
    (granted : (s.setDesire a desire).budget.allot.get a = .zero) :
    s.drivePeriod a m desire positive
      = if 2000 ≤ m.holdTime + 1 then
          ((s.setDesire a desire).setAxis a (((s.setDesire a desire).axis a).heldBack m)).enterStopping a (endedWith .budgetTimeout)
        else (s.setDesire a desire).setAxis a (((s.setDesire a desire).axis a).heldBack m) := by
  unfold State.drivePeriod
  dsimp only
  rw [if_pos granted]
  rfl

end Sys2Proof.Machine
end

section
/-! SUPPORT for O39. Motion periods that settle, drive, hold and give up (R26, R45 to R48). -/

namespace Sys2Proof.Machine

/-! ### What passing time leaves of the supply and of the classes (R46, R121) -/

theorem State.pass_totalDraw (s : State) (us : Nat) : (s.pass us).totalDraw = s.totalDraw := by
  obtain ⟨us', ms, e⟩ := s.pass_aged us
  rw [e]
  rfl

theorem State.pass_allotNow (s : State) (us : Nat) : (s.pass us).allotNow = s.allotNow := by
  obtain ⟨_, _, _, _, _, budget, _⟩ := s.pass_blocks us
  unfold State.allotNow
  rw [budget, s.pass_totalDraw us]

theorem State.pass_thermalCap (s : State) (us : Nat) (kind : MoveKind) : (s.pass us).thermalCap kind = s.thermalCap kind := by
  obtain ⟨mode, _⟩ := s.pass_power us
  have overall : (s.pass us).thermal.overall = s.thermal.overall := by
    obtain ⟨us', ms, e⟩ := s.pass_aged us
    rw [e]
    rfl
  unfold State.thermalCap
  rw [mode, overall]

/-! ### The outcomes of a period out of a quiet state -/

section Outcomes

variable {s : State} {a : AxisId} {m : Move} {desire : Machine.Class} {positive : Bool}

/-- The axis drives at the class that it desires (R46, R47). -/
structure State.Drives (s t : State) (a : AxisId) (m : Move) (desire : Machine.Class) (positive : Bool) : Prop where
  axis : t.axis a = (((s.passMs (s.axis a).periodTimer).axis a).driven m desire desire positive
    (liftSet a s.placement.orientation positive)).periodEnded
  desire_ : t.budget.desire.get a = desire
  allot : t.budget.allot.get a = desire
  placement : t.placement = s.placement
  period : s.Period t a

theorem State.Quiet.drives (h : s.Quiet)
    (work : (s.passMs (s.axis a).periodTimer).periodWork a = (s.passMs (s.axis a).periodTimer).drivePeriod a m desire positive)
    (order : s.budget.order = [a]) (fits : desire.reserve ≤ s.budget.capacity - s.totalDraw) (some_ : desire ≠ .zero)
    (few : m.stallCount + 1 < 50) : s.Drives (s.motionPeriod a).settle a m desire positive := by
  obtain ⟨_, _, _, _, placement, budget, _⟩ := s.pass_blocks (1000 * (s.axis a).periodTimer)
  have allot : ((s.passMs (s.axis a).periodTimer).setDesire a desire).budget.allot.get a = desire := by
    refine State.setDesire_alone (budget.symm ▸ order) ?_
    rw [show (s.passMs (s.axis a).periodTimer).totalDraw = s.totalDraw from s.pass_totalDraw _,
      show (s.passMs (s.axis a).periodTimer).budget = s.budget from budget]
    exact fits
  rw [State.drivePeriod_driven allot some_ (lift := liftSet a s.placement.orientation positive)
    (by rw [show (s.passMs (s.axis a).periodTimer).placement = s.placement from placement]),
    if_neg (Nat.not_le.mpr (Nat.lt_of_le_of_lt (stallCountAfter_le _ _ _) few))] at work
  obtain ⟨still, period⟩ := h.period work rfl
  rw [State.axis_setAxis_self] at still period
  rw [still]
  exact ⟨State.axis_setAxis_self _ _ _, PerAxis.get_set_self _ _ _, allot, placement, period⟩

/-- The younger of two axes finds less than a CREEP share (R121). -/
structure State.Starved (s : State) (a : AxisId) : Prop where
  inv : s.AllotInv
  order : s.budget.order = [otherAxis a, a]
  less : s.budget.capacity - s.totalDraw - (s.budget.allot.get (otherAxis a)).reserve < 4

theorem State.Starved.pass (h : s.Starved a) (us : Nat) : (s.pass us).Starved a := by
  obtain ⟨_, _, _, _, _, budget, _⟩ := s.pass_blocks us
  refine ⟨?_, budget.symm ▸ h.order, by rw [budget, s.pass_totalDraw us]; exact h.less⟩
  unfold State.AllotInv
  rw [budget, s.pass_allotNow us]
  exact h.inv

/-- What a period without a share does to the budget (R48, R122). -/
structure State.GoesWithout (s t : State) (a : AxisId) : Prop where
  allot : t.budget.allot.get a = .zero
  other : t.budget.allot.get (otherAxis a) = s.budget.allot.get (otherAxis a)
  placement : t.placement = s.placement
  period : s.Period t a

/-- The axis holds with the drive off (R48). -/
theorem State.Quiet.holdsBack (h : s.Quiet)
    (work : (s.passMs (s.axis a).periodTimer).periodWork a = (s.passMs (s.axis a).periodTimer).drivePeriod a m desire positive)
    (starved : s.Starved a) (few : m.holdTime + 1 < 2000) :
    let t := (s.motionPeriod a).settle
    (∃ y, ((s.passMs (s.axis a).periodTimer).axis a).SameButDrive y ∧ t.axis a = (y.heldBack m).periodEnded) ∧ s.GoesWithout t a := by
  intro t
  obtain ⟨_, _, _, _, placement, budget, _⟩ := s.pass_blocks (1000 * (s.axis a).periodTimer)
  have aged : (s.passMs (s.axis a).periodTimer).Starved a := starved.pass _
  obtain ⟨allot, other⟩ := State.setDesire_starved desire aged.inv aged.order aged.less
  rw [State.drivePeriod_hold allot, if_neg (Nat.not_le.mpr few)] at work
  obtain ⟨still, period⟩ := h.period work rfl
  rw [State.axis_setAxis_self] at still period
  rw [show t = _ from still]
  refine ⟨⟨((s.passMs (s.axis a).periodTimer).setDesire a desire).axis a, ?_, State.axis_setAxis_self _ _ _⟩, allot, ?_, placement, period⟩
  · rw [State.axis_setDesire]
    exact Axis.takeAllotment_sameButDrive _ _
  · exact other.trans (congrArg (fun q : Budget => q.allot.get (otherAxis a)) budget)

/-- A hold time of 2000 ms ends the move (R48). -/
structure State.TimesOut (s t : State) (a : AxisId) (m : Move) : Prop where
  axis : ∃ y, ((s.passMs (s.axis a).periodTimer).axis a).SameButDrive y
    ∧ t.axis a = ((y.heldBack m).toStopping (endedWith .budgetTimeout)).periodEnded
  other : ((s.passMs (s.axis a).periodTimer).axis (otherAxis a)).SameButDrive (t.axis (otherAxis a))
  desire : t.budget.desire.get a = .zero
  placement : t.placement = s.placement
  period : s.Period t a

/-- The axis whose hold has timed out, and the other. -/
theorem State.holdOut_axes (u : State) (a : AxisId) (m : Move) (desire : Machine.Class) :
    let w := ((u.setDesire a desire).setAxis a (((u.setDesire a desire).axis a).heldBack m)).enterStopping a (endedWith .budgetTimeout)
    (∃ y, (u.axis a).SameButDrive y ∧ w.axis a = (y.heldBack m).toStopping (endedWith .budgetTimeout))
      ∧ (u.axis (otherAxis a)).SameButDrive (w.axis (otherAxis a)) ∧ w.budget.desire.get a = .zero ∧ w.placement = u.placement := by
  obtain ⟨self, others⟩ := State.axis_enterStopping
    ((u.setDesire a desire).setAxis a (((u.setDesire a desire).axis a).heldBack m)) a (endedWith .budgetTimeout)
  have other := others (otherAxis a) (otherAxis_ne a)
  have same (b : AxisId) : (u.axis b).SameButDrive ((u.setDesire a desire).axis b) := by
    rw [State.axis_setDesire]
    exact Axis.takeAllotment_sameButDrive _ _
  rw [State.axis_setAxis_self] at self
  rw [State.axis_setAxis_other _ _ _ _ (otherAxis_ne a)] at other
  exact ⟨⟨_, same a, self⟩, (same _).trans other, PerAxis.get_set_self _ a Class.zero, rfl⟩

theorem State.Quiet.timesOut (h : s.Quiet)
    (work : (s.passMs (s.axis a).periodTimer).periodWork a = (s.passMs (s.axis a).periodTimer).drivePeriod a m desire positive)
    (starved : s.Starved a) (out : m.holdTime = 1999) :
    (s.motionPeriod a).settle = s.motionPeriod a ∧ s.TimesOut (s.motionPeriod a) a m := by
  have long : 2000 ≤ m.holdTime + 1 := Nat.le_of_eq (congrArg (· + 1) out).symm
  obtain ⟨_, _, _, _, placement, _⟩ := s.pass_blocks (1000 * (s.axis a).periodTimer)
  have aged : (s.passMs (s.axis a).periodTimer).Starved a := starved.pass _
  obtain ⟨allot, _⟩ := State.setDesire_starved desire aged.inv aged.order aged.less
  rw [State.drivePeriod_hold allot, if_pos long] at work
  obtain ⟨still, period⟩ := h.period work (((State.setDesire_lens _ a desire).trans (State.setAxis_lens _ a _)).trans
    (State.enterStopping_lens _ a (endedWith .budgetTimeout)))
  obtain ⟨⟨y, same, self⟩, other, zero, kept⟩ := State.holdOut_axes (s.passMs (s.axis a).periodTimer) a m desire
  have eq := State.motionPeriod_eq h.running work
  refine ⟨still.trans eq.symm, ?_⟩
  rw [eq]
  refine ⟨⟨y, same, ?_⟩, ?_, zero, kept.trans placement, period⟩
  · rw [State.axis_setAxis_self, self]
  · rw [State.axis_setAxis_other _ _ _ _ (otherAxis_ne a)]
    exact other

end Outcomes

/-! ### The period in MOVING (R45) -/

/-- The axis that has come within its deadband (R45, R50). -/
def Axis.settling (x : Axis) (m : Move) : Axis := { x with st := .settling, drive := x.drive.off, move := some { m with settleCount := 0 } }

theorem State.movingPeriod_near {s : State} {a : AxisId} {m : Move}
    (near : (m.target - (s.axis a).counter.toInt).natAbs ≤ (s.axis a).cfg.bands.2.2) :
    s.movingPeriod a m = (s.setAxis a ((s.axis a).settling m)).setDesire a .zero := if_pos near

theorem State.movingPeriod_far {s : State} {a : AxisId} {m : Move}
    (far : (s.axis a).cfg.bands.2.2 < (m.target - (s.axis a).counter.toInt).natAbs) :
    s.movingPeriod a m
      = s.drivePeriod a m (((bandClass (s.axis a).cfg.bands (m.target - (s.axis a).counter.toInt)).slower m.limit).slower
          (s.thermalCap m.kind)) (decide (0 < m.target - (s.axis a).counter.toInt)) := if_neg (Nat.not_le.mpr far)

/-- The work of a period in MOVING outside the deadband, in terms of the state before the period. -/
theorem State.periodWork_moving {s : State} {a : AxisId} {m : Move} (st : (s.axis a).st = .moving) (move : (s.axis a).move = some m)
    (far : (s.axis a).cfg.bands.2.2 < (m.target - (s.axis a).counter.toInt).natAbs) (ms : Nat) :
    (s.passMs ms).periodWork a
      = (s.passMs ms).drivePeriod a m (((bandClass (s.axis a).cfg.bands (m.target - (s.axis a).counter.toInt)).slower m.limit).slower
          (s.thermalCap m.kind)) (decide (0 < m.target - (s.axis a).counter.toInt)) := by
  obtain ⟨us, ms', aged⟩ := s.pass_axis_aged (1000 * ms) a
  have counter : ((s.passMs ms).axis a).counter = (s.axis a).counter := by rw [State.passMs, aged]; rfl
  have cfg : ((s.passMs ms).axis a).cfg = (s.axis a).cfg := by rw [State.passMs, aged]; rfl
  rw [((s.passMs ms).periodWork_eq ((s.pass_axis _ a).2.trans move)).2.1 ((s.pass_axis _ a).1.trans st),
    State.movingPeriod_far (by rw [counter, cfg]; exact far), counter, cfg, State.passMs, State.pass_thermalCap]

theorem State.periodWork_homing {s : State} {a : AxisId} {m : Move} (st : (s.axis a).st = .homing) (move : (s.axis a).move = some m)
    (ms : Nat) : (s.passMs ms).periodWork a = (s.passMs ms).drivePeriod a m .creep (s.axis a).cfg.encoder.homePositive := by
  obtain ⟨us, ms', aged⟩ := s.pass_axis_aged (1000 * ms) a
  have cfg : ((s.passMs ms).axis a).cfg = (s.axis a).cfg := by rw [State.passMs, aged]; rfl
  rw [((s.passMs ms).periodWork_eq ((s.pass_axis _ a).2.trans move)).1 ((s.pass_axis _ a).1.trans st), cfg]

theorem Class.reserve_le (c : Machine.Class) : c.reserve ≤ 16 := by cases c <;> decide

/-- Settles O39: by the period's outcome (settle, drive, hold, time out), in MOVING and in HOMING. -/
theorem motionPeriod : Obligations.MotionPeriod := by
  refine ⟨fun s a m h moving move => ⟨fun near => ?_, fun cls far clsIs some_ order supply few => ?_,
      fun far _ inv order less => ⟨fun few => ?_, fun out c which => ?_⟩⟩,
    fun s a m h homing move => ⟨fun order supply few => ?_, fun _ inv order less few => ?_⟩⟩
  · obtain ⟨us, ms, aged⟩ := s.pass_axis_aged (1000 * (s.axis a).periodTimer) a
    have work : (s.passMs (s.axis a).periodTimer).periodWork a
        = ((s.passMs (s.axis a).periodTimer).setAxis a (((s.axis a).pass us ms).settling m)).setDesire a .zero := by
      rw [((s.passMs _).periodWork_eq ((s.pass_axis _ a).2.trans move)).2.1 ((s.pass_axis _ a).1.trans moving), State.passMs,
        State.movingPeriod_near (by rw [aged]; exact near), aged]
    obtain ⟨still, period⟩ := h.period work rfl
    have axis := State.axis_setDesire ((s.passMs (s.axis a).periodTimer).setAxis a (((s.axis a).pass us ms).settling m)) a .zero a
    rw [State.axis_setAxis_self, Axis.takeAllotment_of_still rfl] at axis
    refine ⟨_, congrArg Host.Outcome.next still, ?_⟩
    rw [State.axis_setAxis_self, axis]
    exact ⟨rfl, rfl, rfl, PerAxis.get_set_self _ a Class.zero, rfl, rfl, period.clock, period.mem, period.slots, period.news⟩
  · obtain ⟨us, ms, aged⟩ := s.pass_axis_aged (1000 * (s.axis a).periodTimer) a
    subst clsIs
    have t := h.drives (State.periodWork_moving moving move far _) order (Nat.le_trans (Class.reserve_le _) supply) some_ few
    have axis := t.axis
    rw [State.passMs, aged] at axis
    refine ⟨_, rfl, ?_⟩
    rw [axis]
    exact ⟨moving, t.desire_, t.allot, rfl, rfl, ⟨_, rfl, rfl, if_neg (Nat.lt_irrefl _), rfl⟩, rfl, t.period.clock, t.period.mem,
      t.period.slots, t.period.news⟩
  · obtain ⟨us, ms, aged⟩ := s.pass_axis_aged (1000 * (s.axis a).periodTimer) a
    obtain ⟨⟨y, same, axis⟩, t⟩ := h.holdsBack (State.periodWork_moving moving move far _) ⟨inv, order, less⟩ few
    refine ⟨_, rfl, ?_⟩
    rw [axis, same.eq, State.passMs, aged]
    exact ⟨moving, rfl, t.allot, t.other, rfl, t.period.clock, t.period.mem, t.period.slots, t.period.news⟩
  · obtain ⟨us, ms, aged⟩ := s.pass_axis_aged (1000 * (s.axis a).periodTimer) a
    obtain ⟨us', ms', aged'⟩ := s.pass_axis_aged (1000 * (s.axis a).periodTimer) (otherAxis a)
    obtain ⟨still, t⟩ := h.timesOut (State.periodWork_moving moving move far _) ⟨inv, order, less⟩ out
    obtain ⟨y, same, axis⟩ := t.axis
    rw [same.eq, State.passMs, aged] at axis
    have other := t.other.eq
    rw [State.passMs, aged'] at other
    have ran : exec c s = .next (s.motionPeriod a) := by
      rcases which with e | e
      · have ends : s.holdEnds a = true := by
          unfold State.holdEnds
          rw [moving, axis]
          rfl
        rw [e]
        refine congrArg Host.Outcome.next ((if_pos ends).trans still)
      · rw [e]
        exact congrArg Host.Outcome.next still
    refine ⟨_, ran, ?_⟩
    unfold State.Stopped
    rw [axis, other]
    refine ⟨⟨rfl, rfl, fun n e => ?_⟩, t.desire, rfl, rfl, rfl, rfl, t.period.clock, t.period.mem, t.period.slots, t.placement,
      t.period.news⟩
    cases move.symm.trans e
    exact ⟨_, rfl, rfl, rfl, rfl⟩
  · obtain ⟨us, ms, aged⟩ := s.pass_axis_aged (1000 * (s.axis a).periodTimer) a
    have t := h.drives (State.periodWork_homing homing move _) order supply (by decide) few
    have axis := t.axis
    refine ⟨_, rfl, ?_⟩
    rw [axis, State.passMs, aged]
    exact ⟨homing, t.desire_, t.allot, rfl, rfl, ⟨_, rfl, rfl, rfl, rfl, rfl⟩, rfl, rfl, rfl, t.period.clock, t.period.mem,
      t.period.slots, t.placement, t.period.news⟩
  · obtain ⟨us, ms, aged⟩ := s.pass_axis_aged (1000 * (s.axis a).periodTimer) a
    obtain ⟨⟨y, same, axis⟩, t⟩ := h.holdsBack (State.periodWork_homing homing move _) ⟨inv, order, less⟩ few
    refine ⟨_, rfl, ?_⟩
    rw [axis, same.eq, State.passMs, aged]
    exact ⟨homing, rfl, t.allot, rfl, rfl, rfl, rfl, t.period.clock, t.period.mem, t.period.slots, t.period.news⟩

end Sys2Proof.Machine
end

section
/-! SUPPORT for O41 to O44. Moves that end in a motion period, and the stall (R38, R49, R120). -/

namespace Sys2Proof.Machine

/-! ### Leaving a move (R38, R120) -/

/-- An axis at rest, off the budget order. -/
def State.rested (s : State) (a : AxisId) (st : AxisState) : State := (s.setAxis a ((s.axis a).atRest st)).leaveOrder a

theorem State.axis_rested (s : State) (a : AxisId) {st : AxisState} (still : st.driving = false) :
    (s.rested a st).axis a = (s.axis a).atRest st
      ∧ (s.axis (otherAxis a)).SameButDrive ((s.rested a st).axis (otherAxis a)) := by
  have rebudgets (b : AxisId) : ∃ c, (s.rested a st).axis b = ((s.setAxis a ((s.axis a).atRest st)).axis b).takeAllotment c := by
    cases b <;> exact ⟨_, rfl⟩
  refine ⟨?_, ?_⟩
  · obtain ⟨c, e⟩ := rebudgets a
    rw [e, State.axis_setAxis_self]
    exact Axis.takeAllotment_of_still still c
  · obtain ⟨c, e⟩ := rebudgets (otherAxis a)
    rw [e, State.axis_setAxis_other _ _ _ _ (otherAxis_ne a)]
    exact Axis.takeAllotment_sameButDrive _ _

theorem State.rested_lens (s : State) (a : AxisId) (st : AxisState) : s.LensOnly (s.rested a st) := rfl

theorem State.rested_budget (s : State) (a : AxisId) (st : AxisState) :
    (s.rested a st).budget.order = s.budget.order.filter (fun b => decide (b ≠ a)) ∧ (s.rested a st).budget.desire.get a = .zero :=
  ⟨rfl, PerAxis.get_set_self _ a Class.zero⟩

/-- A direct move ends with the body of R59. -/
theorem State.leaveMove_direct {s : State} {a : AxisId} {m : Move} {k : SlotId} (move : (s.axis a).move = some m)
    (kind : m.kind = .directMove) (owner : m.owner = some k) {st : AxisState} (still : st.driving = false) (r : Result) :
    s.leaveMove a st r = (s.rested a st).complete k r (moveBody (s.axis a) m) := by
  have hands : s.leaveMove a st r = (s.rested a st).handOver a m r := by
    unfold State.leaveMove
    dsimp only
    rw [move]
    rfl
  rw [hands]
  unfold State.handOver State.completeRef
  rw [kind, owner]
  show (s.rested a st).complete k r (moveBody ((s.rested a st).axis a) m) = _
  rw [(s.axis_rested a still).1]
  rfl

theorem State.abortQueue_of_none {s : State} {a : AxisId} (queue : (s.axis a).queue = []) : s.abortQueue a = s := by
  have same : ({ s.axis a with queue := [] } : Axis) = s.axis a := by rw [← queue]
  unfold State.abortQueue
  rw [queue, same, s.setAxis_axis a]
  rfl

/-! ### Settling with a completion that has a body -/

/-- After time has passed out of a ready state, what a command completes waits on the queue while its body is written. -/
theorem State.Ready.settle_ending {s x : State} {us : Nat} {c : Completion} {rest : List Completion} (h : s.Ready)
    (path : x.path = s.path) (mesh : x.mesh = (s.pass us).mesh) (queue : x.slots.queue = c :: rest) (body : c.body ≠ [])
    (writer : x.slots.writer = s.slots.writer) :
    SettleKeeps x x.settle ∧ x.settle.slots.queue = c :: rest ∧ (∀ k, x.settle.view k = x.view k) ∧ x.settle.mesh = x.mesh := by
  have quiet : x.HostQuiet := .inl (by rw [path]; exact h.host)
  have waits := State.settle_headWaits queue body (writer.trans h.writer) quiet
  have noMesh := State.pass_meshClaim us (h.noMesh rfl)
  exact ⟨x.settle_keeps quiet, waits.queue.trans queue, waits.view, x.settle_mesh quiet (State.meshClaim_none_congr _ _ mesh noMesh)⟩

/-! ### The stall (R49) -/

/-- The axis in FAULT after a stall. -/
def State.faulted (s : State) (a : AxisId) : State := (s.setAxis a { s.axis a with faultCode := .stall }).rested a .fault

theorem State.axis_faulted (s : State) (a : AxisId) :
    (s.faulted a).axis a = Axis.atRest { s.axis a with faultCode := .stall } .fault := by
  rw [State.faulted, (State.axis_rested _ a rfl).1, State.axis_setAxis_self]

/-- What a stall is, but for the slots: the axis in FAULT, the event told and the notice pending. -/
def State.stalled (s : State) (a : AxisId) : State :=
  { (s.faulted a).placeRecord (eventCode .stall (axisNumber a)) (s.axis a).counter (natWord (s.axis a).lastDuty) with
    notice := { s.notice with pend := s.notice.pend ||| (axisSource a).bit } }

theorem State.stallEnd_eq {s : State} {a : AxisId} {m : Move} {k : SlotId} (run : s.hold = .running) (room : s.RingOpen)
    (move : (s.axis a).move = some m) (kind : m.kind = .directMove) (owner : m.owner = some k) (queue : (s.axis a).queue = []) :
    s.stallEnd a
      = { s.stalled a with slots := ((s.faulted a).complete k (endedWith .stall) (moveBody (s.axis a) m)).slots } := by
  have leaves := State.leaveMove_direct (s := s.setAxis a { s.axis a with faultCode := .stall }) (a := a) (m := m) (k := k)
    (st := .fault) (by rw [State.axis_setAxis_self]; exact move) kind owner rfl (endedWith .stall)
  rw [State.axis_setAxis_self] at leaves
  have first : (s.setAxis a { s.axis a with faultCode := .stall }).leaveMove a .fault (endedWith .stall)
      = { s.faulted a with slots := ((s.faulted a).complete k (endedWith .stall) (moveBody (s.axis a) m)).slots } :=
    leaves.trans (State.complete_eq _ _ _ _)
  have axis : ({ s.faulted a with slots := ((s.faulted a).complete k (endedWith .stall) (moveBody (s.axis a) m)).slots } : State).axis a
      = Axis.atRest { s.axis a with faultCode := .stall } .fault := s.axis_faulted a
  unfold State.stallEnd State.raiseEvent
  dsimp only
  rw [first, axis, State.raiseCode_open (s := { s.faulted a with
    slots := ((s.faulted a).complete k (endedWith .stall) (moveBody (s.axis a) m)).slots }) run room,
    State.raiseNotice_running, State.abortQueue_of_none]
  · rfl
  · exact (congrArg Axis.queue (s.axis_faulted a)).trans queue
  · exact run

/-- The fiftieth driven period in a row without a count (R49). -/
theorem stallCountAfter_stalls {x : Axis} {m : Move} {duty : Nat} (count : m.stallCount = 49) (drives : 0 < duty)
    (still : x.counter = x.prevCount) : 50 ≤ stallCountAfter x m duty := by
  unfold stallCountAfter
  rw [if_neg (Nat.ne_of_gt drives), if_pos still, count]

theorem State.complete_queue (s : State) (k : SlotId) (r : Result) (body : List Word) :
    (s.complete k r body).slots.queue = s.slots.queue ++ [{ slot := k, result := r, body := body }]
      ∧ (s.complete k r body).slots.writer = s.slots.writer :=
  ⟨by simp [State.complete], s.setHolder_writer _ _⟩

/-- The axis driving at the class that it desires. -/
def State.drivenAt (s : State) (a : AxisId) (m : Move) (desire : Machine.Class) (positive : Bool) : State :=
  (s.setDesire a desire).setAxis a ((s.axis a).driven m desire desire positive (liftSet a s.placement.orientation positive))

theorem State.axis_drivenAt (s : State) (a : AxisId) (m : Move) (desire : Machine.Class) (positive : Bool) :
    (s.drivenAt a m desire positive).axis a = (s.axis a).driven m desire desire positive (liftSet a s.placement.orientation positive) :=
  State.axis_setAxis_self _ _ _

theorem State.drivenAt_lens (s : State) (a : AxisId) (m : Move) (desire : Machine.Class) (positive : Bool) :
    s.LensOnly (s.drivenAt a m desire positive) := (s.setDesire_lens a desire).trans (State.setAxis_lens _ a _)

/-- A driven period that is the fiftieth without a count (R49). -/
theorem State.drivePeriod_stalls {s : State} {a : AxisId} {m : Move} {k : SlotId} {desire : Machine.Class} {positive : Bool}
    (run : s.hold = .running) (room : s.RingOpen) (kind : m.kind = .directMove) (owner : m.owner = some k) (count : m.stallCount = 49)
    (queue : (s.axis a).queue = []) (still : (s.axis a).counter = (s.axis a).prevCount) (order : s.budget.order = [a])
    (fits : desire.reserve ≤ s.budget.capacity - s.totalDraw) (some_ : desire ≠ .zero)
    (drives : 0 < ((s.axis a).cfg.duties (liftSet a s.placement.orientation positive)).get desire) :
    s.drivePeriod a m desire positive
      = { (s.drivenAt a m desire positive).stalled a with
          slots := (((s.drivenAt a m desire positive).faulted a).complete k (endedWith .stall) (moveBody (s.axis a) m)).slots } := by
  have axis := s.axis_drivenAt a m desire positive
  obtain ⟨n, move, kind', owner', fields⟩ : ∃ n, ((s.drivenAt a m desire positive).axis a).move = some n ∧ n.kind = m.kind
      ∧ n.owner = m.owner ∧ n.target = m.target ∧ n.corrections = m.corrections ∧ n.limited = m.limited ∧ n.tally = m.tally :=
    ⟨_, congrArg Axis.move axis, rfl, rfl, rfl, rfl, if_neg (Nat.lt_irrefl _), rfl⟩
  have body : moveBody ((s.drivenAt a m desire positive).axis a) n = moveBody (s.axis a) m := by
    obtain ⟨target, corrections, limited, tally⟩ := fields
    unfold moveBody
    rw [target, corrections, limited, tally, axis]
    rfl
  rw [State.drivePeriod_driven (State.setDesire_alone order fits) some_ rfl, if_pos (stallCountAfter_stalls count drives still)]
  exact (State.stallEnd_eq (s := s.drivenAt a m desire positive) run room move (kind'.trans kind) (owner'.trans owner)
    ((congrArg Axis.queue axis).trans queue)).trans (by rw [body])

/-- The state at the end of the period that stalls. -/
def State.stallEnded (v : State) (a : AxisId) (k : SlotId) (body : List Word) (y : Axis) : State :=
  State.setAxis { v.stalled a with slots := ((v.faulted a).complete k (endedWith .stall) body).slots } a y

/-- A stall that is told, out of a state at rest. -/
def State.toldStall (f v : State) (a : AxisId) (u : SlotUnit) (y : Axis) : State :=
  State.setAxis { f.placeRecord (eventCode .stall (axisNumber a)) (v.axis a).counter (natWord (v.axis a).lastDuty) with
    notice := { v.notice with pend := v.notice.pend ||| (axisSource a).bit }, slots := u } a y

theorem State.toldStall_blocks (f v : State) (a : AxisId) (u : SlotUnit) (y : Axis) :
    let x := f.toldStall v a u y
    x.path = f.path ∧ x.mesh = f.mesh ∧ x.clock = f.clock ∧ x.mem = f.mem ∧ x.axis a = y ∧ x.budget = f.budget ∧ x.slots = u
      ∧ x.notice = { v.notice with pend := v.notice.pend ||| (axisSource a).bit }
      ∧ x.events = (f.placeRecord (eventCode .stall (axisNumber a)) (v.axis a).counter (natWord (v.axis a).lastDuty)).events :=
  ⟨rfl, rfl, rfl, rfl, State.axis_setAxis_self _ a y, rfl, rfl, rfl, rfl⟩

theorem State.faulted_lens (v : State) (a : AxisId) : v.LensOnly (v.faulted a) :=
  (v.setAxis_lens a { v.axis a with faultCode := .stall }).trans (State.rested_lens _ a .fault)

/-- A stall after time has passed out of a ready state: the completion waits for its body, and the event is on its way. -/
structure State.StallSettled (s v t : State) (us : Nat) (a : AxisId) (k : SlotId) (body : List Word) (y : Axis) : Prop where
  axis : t.axis a = y
  order : t.budget.order = v.budget.order.filter (fun b => decide (b ≠ a))
  desire : t.budget.desire.get a = .zero
  queue : t.slots.queue = [{ slot := k, result := endedWith .stall, body := body }]
  raises : s.Raises t (eventCode .stall (axisNumber a)) (v.axis a).counter (natWord (v.axis a).lastDuty)
  notice : t.notice = { s.notice with pend := s.notice.pend ||| (axisSource a).bit }
  clock : t.clock = (s.pass us).clock
  mem : t.mem = s.mem
  mesh : t.mesh = (s.pass us).mesh

theorem State.Ready.settle_stalled {s v x : State} {us : Nat} {a : AxisId} {k : SlotId} {body : List Word} {y : Axis} (h : s.Ready)
    (lens : (s.pass us).LensOnly v) (nonempty : body ≠ []) (xIs : x = v.stallEnded a k body y) :
    s.StallSettled v x.settle us a k body y := by
  obtain ⟨outer, slots, events, notice, mesh, _⟩ := (lens.trans (v.faulted_lens a)).blocks
  obtain ⟨_, _, clock, _, _, mem, path, _⟩ := (State.outer_iff _ _).mp outer
  obtain ⟨_, _, mem', slots', _, _, notice', events'⟩ := s.pass_blocks us
  obtain ⟨order, desire⟩ := (v.setAxis a { v.axis a with faultCode := .stall }).rested_budget a .fault
  obtain ⟨complete, writer⟩ := (v.faulted a).complete_queue k (endedWith .stall) body
  have blocks := (v.faulted a).toldStall_blocks v a ((v.faulted a).complete k (endedWith .stall) body).slots y
  rw [show (v.faulted a).toldStall v a ((v.faulted a).complete k (endedWith .stall) body).slots y = x from xIs.symm] at blocks
  obtain ⟨xPath, xMesh, xClock, xMem, xAxis, xBudget, xSlots, xNotice, xEvents⟩ := blocks
  have path' : x.path = s.path := (xPath.trans path).trans (h.pass_path us)
  have queue : x.slots.queue = [{ slot := k, result := endedWith .stall, body := body }] := by
    rw [xSlots, complete, slots, slots', h.queue]
    rfl
  obtain ⟨keeps, waiting, _, mesh'⟩ := h.settle_ending (us := us) path' (xMesh.trans mesh) queue nonempty
    (by rw [xSlots, writer, slots, slots'])
  obtain ⟨mem'', ⟨clock', _⟩, ⟨axes, _, budget⟩, _, notice'', _⟩ := keeps.blocks
  refine ⟨?_, by rw [budget, xBudget]; exact order, by rw [budget, xBudget]; exact desire, waiting, ?_, ?_, clock'.trans (xClock.trans clock),
    mem''.trans (xMem.trans (mem.trans mem')), mesh'.trans (xMesh.trans mesh)⟩
  · exact (congrArg (fun q : PerAxis Axis => q.get a) axes).trans xAxis
  · refine h.settle_raised ?_ path'
    rw [xEvents, xClock]
    unfold State.placeRecord
    rw [events, events']
  · have kept : v.notice = s.notice := lens.blocks.2.2.2.1.trans notice'
    rw [notice'', xNotice, kept]

/-- Settles O41: the period's work is the stall. -/
theorem stall : Obligations.Stall := by
  intro s a m k cls duty h room moving move kind owner count queue still order supply far clsIs some_ dutyIs drives
  obtain ⟨hold, _, _, _, placement, budget, _, events⟩ := s.pass_blocks (1000 * (s.axis a).periodTimer)
  obtain ⟨us, ms, aged⟩ := s.pass_axis_aged (1000 * (s.axis a).periodTimer) a
  have work := State.periodWork_moving moving move far (s.axis a).periodTimer
  rw [← clsIs] at work
  subst dutyIs
  generalize decide (0 < m.target - (s.axis a).counter.toInt) = positive at *
  rw [State.drivePeriod_stalls (s := s.passMs (s.axis a).periodTimer) (hold.trans h.running)
    (by unfold State.RingOpen; rw [State.passMs, events]; exact room) kind owner count
    (by rw [State.passMs, aged]; exact queue) (by rw [State.passMs, aged]; exact still) (by rw [State.passMs, budget]; exact order)
    (by rw [State.passMs, budget, s.pass_totalDraw]; exact Nat.le_trans (Class.reserve_le _) supply) some_
    (by rw [State.passMs, aged, placement]; exact drives)] at work
  have x := State.motionPeriod_eq h.running work
  have driven := (s.passMs (s.axis a).periodTimer).axis_drivenAt a m cls positive
  have faulted := ((s.passMs (s.axis a).periodTimer).drivenAt a m cls positive).axis_faulted a
  have t := h.settle_stalled (us := 1000 * (s.axis a).periodTimer) (v := (s.passMs (s.axis a).periodTimer).drivenAt a m cls positive)
    (State.drivenAt_lens _ a m cls positive) (by nofun) x
  have axis : (s.motionPeriod a).settle.axis a
      = (Axis.atRest { ((s.passMs (s.axis a).periodTimer).axis a).driven m cls cls positive
          (liftSet a (s.passMs (s.axis a).periodTimer).placement.orientation positive) with faultCode := .stall } .fault).periodEnded := by
    rw [t.axis, ← driven]
    exact congrArg Axis.periodEnded faulted
  have ends : s.stallEnds a = true := by
    unfold State.stallEnds
    rw [moving, x, State.axis_setAxis_self]
    exact congrArg (fun y : Axis => (true && decide (y.st = .fault))) faulted
  have raises := t.raises
  rw [driven, State.passMs, aged, placement] at raises
  rw [State.passMs, aged] at axis
  have queue' := t.queue
  rw [State.passMs, aged] at queue'
  refine ⟨_, congrArg Host.Outcome.next (if_pos ends), ?_⟩
  rw [axis]
  refine ⟨rfl, rfl, rfl, rfl, rfl, rfl, t.order.trans ?_, t.desire, queue', raises, t.notice, t.clock, t.mem, t.mesh⟩
  show (s.pass _).budget.order.filter _ = _
  rw [budget, order]
  simp

end Sys2Proof.Machine
end

section
/-! SUPPORT for O43 and O44. Moves that end in IDLE (R38, R50, R52). -/

namespace Sys2Proof.Machine

/-! ### Entering IDLE (R50, R52, R54) -/

/-- Every AXIS_STOP that waits on an axis ends DONE/OK with the position. -/
theorem State.endStops_eq (s : State) (a : AxisId) :
    s.endStops a = { s.setAxis a { s.axis a with stopWait := [] } with slots := (s.endStops a).slots }
      ∧ (s.endStops a).slots.queue = s.slots.queue ++ (s.axis a).stopWait.map (fun q =>
          { slot := q, result := { cls := .done, code := .ok }, body := [(s.axis a).counter] })
      ∧ (s.endStops a).slots.writer = s.slots.writer := by
  obtain ⟨blocks, queue, writer⟩ := State.foldl_complete_eq id doneOk (fun t => t.positionBody a)
    (fun _ _ => rfl) (s.axis a).stopWait (s.setAxis a { s.axis a with stopWait := [] })
  refine ⟨blocks, queue.trans ?_, writer⟩
  rw [State.positionBody, State.axis_setAxis_self]
  rfl

/-- The axis in IDLE, with no move and no stop waiting. -/
def Axis.idled (x : Axis) : Axis := { x.atRest .idle with stopWait := [] }

def State.idled (s : State) (a : AxisId) : State := (s.rested a .idle).setAxis a (s.axis a).idled

theorem State.idled_lens (s : State) (a : AxisId) : s.LensOnly (s.idled a) :=
  (s.rested_lens a .idle).trans (State.setAxis_lens _ a _)

theorem State.idled_placement (s : State) (a : AxisId) : (s.idled a).placement = s.placement := rfl

/-- A direct move that ends in IDLE with nothing to present: its completion, then those of the stops that waited (R52). -/
theorem State.enterIdle_direct {s : State} {a : AxisId} {m : Move} {k : SlotId} (move : (s.axis a).move = some m)
    (kind : m.kind = .directMove) (owner : m.owner = some k) (queue : (s.axis a).queue = []) (park : (s.axis a).pendingPark = false)
    (r : Result) :
    s.enterIdle a r = { s.idled a with slots := (s.enterIdle a r).slots }
      ∧ (s.enterIdle a r).slots.queue
        = s.slots.queue ++ { slot := k, result := r, body := moveBody (s.axis a) m }
            :: (s.axis a).stopWait.map (fun q => { slot := q, result := { cls := .done, code := .ok }, body := [(s.axis a).counter] })
      ∧ (s.enterIdle a r).slots.writer = s.slots.writer := by
  have leaves := State.leaveMove_direct move kind owner (st := .idle) rfl r
  have axis : (s.leaveMove a .idle r).axis a = (s.axis a).atRest .idle := by
    rw [leaves, State.axis_complete, (s.axis_rested a rfl).1]
  obtain ⟨complete, writer⟩ := (s.rested a .idle).complete_queue k r (moveBody (s.axis a) m)
  obtain ⟨blocks, stops, stopsWriter⟩ := (s.leaveMove a .idle r).endStops_eq a
  rw [axis] at blocks stops
  have same : ((s.leaveMove a .idle r).endStops a).axis a = (s.axis a).idled := by
    rw [blocks]
    exact State.axis_setAxis_self _ a _
  have eq : s.enterIdle a r = (s.leaveMove a .idle r).endStops a :=
    State.presentIdle_of_none (by rw [same]; exact park) (by rw [same]; exact queue)
  rw [eq]
  refine ⟨?_, stops.trans ?_, stopsWriter.trans ((congrArg (fun t : State => t.slots.writer) leaves).trans writer)⟩
  · refine blocks.trans ?_
    generalize ((s.leaveMove a .idle r).endStops a).slots = sl
    rw [leaves, State.complete_eq]
    rfl
  · rw [leaves, complete, List.append_assoc]
    rfl

/-! ### Settling after a move has ended -/

/-- What a period that ends moves leaves, once the part has settled. -/
structure State.Left (s v t : State) (us : Nat) (queue : List Completion) : Prop where
  axes : t.axes = v.axes
  placement : t.placement = v.placement
  queue : t.slots.queue = queue
  clock : t.clock = (s.pass us).clock
  mem : t.mem = s.mem
  notice : t.notice = s.notice
  mesh : t.mesh = (s.pass us).mesh

theorem State.Ready.settle_left {s v x : State} {us : Nat} {e : EventWriter} {c : Completion} {rest : List Completion} (h : s.Ready)
    (lens : ((s.pass us).withEvents e).LensOnly v) (only : x = { v with slots := x.slots }) (queue : x.slots.queue = c :: rest)
    (nonempty : c.body ≠ []) (writer : x.slots.writer = s.slots.writer) :
    s.Left v x.settle us (c :: rest) ∧ (∀ k, x.settle.view k = x.view k) ∧ (e = s.events → s.SameNews x.settle)
      ∧ ∀ code va vb, e = (State.placeRecord { s with clock := (s.pass us).clock } code va vb).events → s.Raises x.settle code va vb := by
  obtain ⟨outer, _, events, notice, mesh, _⟩ := lens.blocks
  obtain ⟨_, _, clock, _, _, mem, path, _⟩ := (State.outer_iff _ _).mp outer
  obtain ⟨_, _, mem', _, _, _, notice', _⟩ := s.pass_blocks us
  have xPath : x.path = v.path := by rw [only]
  have xMesh : x.mesh = v.mesh := by rw [only]
  have xClock : x.clock = v.clock := by rw [only]
  have xMem : x.mem = v.mem := by rw [only]
  have xNotice : x.notice = v.notice := by rw [only]
  have xEvents : x.events = v.events := by rw [only]
  have xAxes : x.axes = v.axes := by rw [only]
  have xPlacement : x.placement = v.placement := by rw [only]
  have path' : x.path = s.path := (xPath.trans path).trans (h.pass_path us)
  obtain ⟨keeps, waiting, views, mesh'⟩ := h.settle_ending (us := us) path' (xMesh.trans mesh) queue nonempty writer
  obtain ⟨mem'', ⟨clock', _⟩, ⟨axes, placement, _⟩, _, notice'', p, c', lost, overrun⟩ := keeps.blocks
  have quiet : x.settle.notice = s.notice := notice''.trans (xNotice.trans (notice.trans notice'))
  refine ⟨⟨axes.trans xAxes, placement.trans xPlacement, waiting, clock'.trans (xClock.trans clock), mem''.trans (xMem.trans (mem.trans mem')),
    quiet, mesh'.trans (xMesh.trans mesh)⟩, views, fun same => ?_, fun code va vb placed => h.settle_raised ?_ path'⟩
  · have kept : x.events = s.events := (xEvents.trans events).trans same
    exact ⟨quiet, p.trans (congrArg EventWriter.p kept), c'.trans (congrArg EventWriter.c kept),
      lost.trans (congrArg EventWriter.lost kept), overrun.trans (congrArg EventWriter.overrun kept)⟩
  · rw [xEvents, xClock, clock, events]
    exact placed

/-- A period out of a ready state that ends a direct move in IDLE. -/
structure State.EndsMove (s t : State) (a : AxisId) (m : Move) (k : SlotId) (r : Result) : Prop where
  axis : ∃ us ms, t.axis a = ((s.axis a).pass us ms).idled.periodEnded
  queue : t.slots.queue = { slot := k, result := r, body := moveBody (s.axis a) m }
    :: (s.axis a).stopWait.map (fun q => { slot := q, result := { cls := .done, code := .ok }, body := [(s.axis a).counter] })
  clock : t.clock = (s.passMs (s.axis a).periodTimer).clock
  mem : t.mem = s.mem
  placement : t.placement = s.placement
  notice : t.notice = s.notice

theorem State.Ready.endsMove {s : State} {a : AxisId} {m : Move} {k : SlotId} {r : Result} {e : EventWriter} (h : s.Ready)
    (move : (s.axis a).move = some m) (kind : m.kind = .directMove) (owner : m.owner = some k) (queue : (s.axis a).queue = [])
    (park : (s.axis a).pendingPark = false)
    (work : (s.passMs (s.axis a).periodTimer).periodWork a = ((s.passMs (s.axis a).periodTimer).withEvents e).enterIdle a r) :
    s.EndsMove (s.motionPeriod a).settle a m k r ∧ (e = s.events → s.SameNews (s.motionPeriod a).settle)
      ∧ ∀ code va vb, e = (State.placeRecord { s with clock := (s.passMs (s.axis a).periodTimer).clock } code va vb).events →
        s.Raises (s.motionPeriod a).settle code va vb := by
  obtain ⟨us, ms, aged⟩ := s.pass_axis_aged (1000 * (s.axis a).periodTimer) a
  obtain ⟨_, _, _, slots, placement, _⟩ := s.pass_blocks (1000 * (s.axis a).periodTimer)
  have axis : ((s.passMs (s.axis a).periodTimer).withEvents e).axis a = (s.axis a).pass us ms := aged
  obtain ⟨blocks, ends, writer⟩ := State.enterIdle_direct (s := (s.passMs (s.axis a).periodTimer).withEvents e) (m := m) (k := k)
    (by rw [axis]; exact move) kind owner (by rw [axis]; exact queue) (by rw [axis]; exact park) r
  rw [← work] at blocks ends writer
  have lens := ((s.passMs (s.axis a).periodTimer).withEvents e).idled_lens a
  have idled : (((s.passMs (s.axis a).periodTimer).withEvents e).idled a).axis a = ((s.axis a).pass us ms).idled := by
    rw [← axis]
    exact State.axis_setAxis_self _ a _
  have kept : (((s.passMs (s.axis a).periodTimer).withEvents e).idled a).placement = s.placement :=
    (State.idled_placement _ a).trans placement
  generalize ((s.passMs (s.axis a).periodTimer).withEvents e).idled a = v at *
  have eq := State.motionPeriod_eq h.running (rfl : (s.passMs (s.axis a).periodTimer).periodWork a = _)
  generalize (s.passMs (s.axis a).periodTimer).periodWork a = w at *
  have same : w.axis a = ((s.axis a).pass us ms).idled := by
    rw [blocks]
    exact idled
  have only : s.motionPeriod a = { v.setAxis a (w.axis a).periodEnded with slots := (s.motionPeriod a).slots } := by
    rw [show (s.motionPeriod a).slots = w.slots by rw [eq]; rfl]
    exact eq.trans (congrArg (fun q : State => q.setAxis a (w.axis a).periodEnded) blocks)
  have queued : (s.motionPeriod a).slots.queue = { slot := k, result := r, body := moveBody (s.axis a) m }
      :: (s.axis a).stopWait.map (fun q => { slot := q, result := { cls := .done, code := .ok }, body := [(s.axis a).counter] }) := by
    rw [show (s.motionPeriod a).slots = w.slots by rw [eq]; rfl, ends, axis]
    show (s.pass _).slots.queue ++ _ = _
    rw [slots, h.queue]
    rfl
  obtain ⟨left, _, quiet, raises⟩ := h.settle_left (us := 1000 * (s.axis a).periodTimer) (lens.trans (v.setAxis_lens a _)) only queued
    (by nofun) (by rw [show (s.motionPeriod a).slots = w.slots by rw [eq]; rfl, writer]; exact congrArg SlotUnit.writer slots)
  refine ⟨⟨⟨us, ms, ?_⟩, left.queue, left.clock, left.mem, ?_, left.notice⟩, quiet, raises⟩
  · refine (congrArg (fun q : PerAxis Axis => q.get a) left.axes).trans ((State.axis_setAxis_self v a _).trans ?_)
    rw [same]
  · exact left.placement.trans kept

/-! ### The end of a settle (R50) -/

theorem State.withEvents_self {s u : State} (events : u.events = s.events) : u.withEvents s.events = u := by
  rw [← events]
  rfl

/-- The work of the twentieth settle period. -/
theorem State.periodWork_settles {s : State} {a : AxisId} {m : Move} (st : (s.axis a).st = .settling) (move : (s.axis a).move = some m)
    (count : m.settleCount = 19) (ms : Nat) :
    (s.passMs ms).periodWork a = (s.passMs ms).settleJudge a m ∧ s.settleEnds a = true := by
  refine ⟨?_, ?_⟩
  · rw [((s.passMs ms).periodWork_eq ((s.pass_axis _ a).2.trans move)).2.2.1 ((s.pass_axis _ a).1.trans st)]
    unfold State.settlingPeriod
    dsimp only
    rw [count]
    exact if_neg (by decide)
  · unfold State.settleEnds
    rw [move, st]
    dsimp only
    rw [count]
    rfl

/-- The judgement by the distance, the tally and the corrections (R50). -/
theorem State.settleJudge_cases {s : State} {a : AxisId} {m : Move} :
    ((m.target - (s.axis a).counter.toInt).natAbs ≤ (s.axis a).cfg.bands.2.2 →
        s.settleJudge a m = s.enterIdle a { cls := .done, code := if 64 ≤ m.tally then .okNoisy else .ok })
      ∧ ((s.axis a).cfg.bands.2.2 < (m.target - (s.axis a).counter.toInt).natAbs →
        (m.corrections < 3 → s.settleJudge a m = s.setAxis a
            { s.axis a with
              st := .moving, move := some { m with corrections := m.corrections + 1, stallCount := 0, settleCount := 0 } })
          ∧ (3 ≤ m.corrections → s.settleJudge a m = s.enterIdle a (endedWith .settleFail))) := by
  refine ⟨fun near => if_pos near, fun far => ⟨fun few => ?_, fun many => ?_⟩⟩
  · exact (if_neg (Nat.not_le.mpr far)).trans (if_pos few)
  · exact (if_neg (Nat.not_le.mpr far)).trans (if_neg (Nat.not_lt.mpr many))

/-- Settles O43: the twentieth period judges the distance; a correction goes on moving, any other end is the end of the move. -/
theorem settleEnd : Obligations.SettleEnd := by
  intro s a m k h settling move kind owner count queue stops park
  obtain ⟨us, ms, aged⟩ := s.pass_axis_aged (1000 * (s.axis a).periodTimer) a
  obtain ⟨_, _, _, _, placement, _, _, events⟩ := s.pass_blocks (1000 * (s.axis a).periodTimer)
  obtain ⟨work, ends⟩ := State.periodWork_settles settling move count (s.axis a).periodTimer
  obtain ⟨near, far⟩ := State.settleJudge_cases (s := s.passMs (s.axis a).periodTimer) (a := a) (m := m)
  rw [State.passMs, aged] at near far
  have ran : exec (.settleEnd a) s = .next (s.motionPeriod a).settle := congrArg Host.Outcome.next (if_pos ends)
  refine ⟨fun beyond few => ?_, fun r which => ?_⟩
  · obtain ⟨still, period⟩ := h.toQuiet.period (work.trans ((far beyond).1 few)) rfl
    refine ⟨_, ran.trans (congrArg Host.Outcome.next still), ?_⟩
    rw [State.axis_setAxis_self, State.axis_setAxis_self]
    exact ⟨rfl, rfl, period.slots, period.mem, placement, period.news⟩
  · have judged : (s.passMs (s.axis a).periodTimer).periodWork a
        = ((s.passMs (s.axis a).periodTimer).withEvents s.events).enterIdle a r := by
      rw [State.withEvents_self (u := s.passMs (s.axis a).periodTimer) events, work]
      rcases which with ⟨within, few, e⟩ | ⟨within, many, e⟩ | ⟨beyond, many, e⟩
      · rw [e]
        exact (near within).trans (by rw [if_neg (Nat.not_le.mpr few)]; rfl)
      · rw [e]
        exact (near within).trans (by rw [if_pos many]; rfl)
      · rw [e]
        exact (far beyond).2 many
    obtain ⟨t, quiet, _⟩ := h.endsMove move kind owner queue park judged
    obtain ⟨us', ms', axis⟩ := t.axis
    refine ⟨_, ran, ?_⟩
    rw [axis]
    refine ⟨rfl, rfl, rfl, rfl, t.queue.trans ?_, t.clock, t.mem, t.placement, quiet rfl⟩
    rw [stops]
    rfl

/-! ### The end of STOPPING (R52) -/

/-- The quiet count after a period. -/
def Axis.quietAfter (x : Axis) (m : Move) : Nat := if x.counter = x.prevCount then m.quiet + 1 else 0

/-- A period in STOPPING ends it when it is the tenth quiet one, or else the 500th. -/
theorem State.stoppingPeriod_ends {s : State} {a : AxisId} {m : Move} {r : Result} (result : m.result = some r) :
    (10 ≤ (s.axis a).quietAfter m → s.stoppingPeriod a m = s.enterIdle a r)
      ∧ ((s.axis a).quietAfter m < 10 → 500 ≤ m.stops + 1 →
          s.stoppingPeriod a m = (s.raiseEvent .stopSlow (axisNumber a) (s.axis a).counter 0).enterIdle a r) := by
  unfold State.stoppingPeriod
  rw [result]
  refine ⟨fun quiet => if_pos quiet, fun loud long => ?_⟩
  exact (if_neg (Nat.not_le.mpr loud)).trans (if_pos long)

theorem State.quietEnds_eq {s : State} {a : AxisId} {m : Move} (st : (s.axis a).st = .stopping) (move : (s.axis a).move = some m) :
    s.quietEnds a = decide ((s.axis a).counter = (s.axis a).prevCount ∧ 10 ≤ m.quiet + 1) := by
  unfold State.quietEnds
  rw [move, st]
  simp only [decide_true, Bool.true_and, Bool.decide_and]
  rfl

theorem State.stopsEnd_eq {s : State} {a : AxisId} {m : Move} (st : (s.axis a).st = .stopping) (move : (s.axis a).move = some m) :
    s.stopsEnd a = (!s.quietEnds a && decide (500 ≤ m.stops + 1)) := by
  unfold State.stopsEnd
  rw [move, st]
  rfl

/-- Settles O44: the tenth quiet period ends the move in IDLE; the 500th that is not the tenth quiet one does so with STOP_SLOW. -/
theorem stoppingEnds : Obligations.StoppingEnds := by
  intro s a m k r h stopping move kind owner result queue park c which
  obtain ⟨us, ms, aged⟩ := s.pass_axis_aged (1000 * (s.axis a).periodTimer) a
  obtain ⟨hold, _, _, _, _, _, _, events⟩ := s.pass_blocks (1000 * (s.axis a).periodTimer)
  have work := ((s.passMs (s.axis a).periodTimer).periodWork_eq (a := a) ((s.pass_axis _ a).2.trans move)).2.2.2
    ((s.pass_axis _ a).1.trans stopping)
  obtain ⟨quiets, slows⟩ := State.stoppingPeriod_ends (s := s.passMs (s.axis a).periodTimer) (a := a) result
  rw [State.passMs, aged] at quiets slows
  have ended (t : State) (e : s.EndsMove t a m k r) : (t.axis a).st = .idle ∧ (t.axis a).move = none ∧ (t.axis a).stopWait = []
      ∧ (t.axis a).counter = (s.axis a).counter := by
    obtain ⟨us', ms', axis⟩ := e.axis
    rw [axis]
    exact ⟨rfl, rfl, rfl, rfl⟩
  rcases which with ⟨still, count, e⟩ | ⟨loud, count, room, e⟩
  · subst e
    have judged : (s.passMs (s.axis a).periodTimer).periodWork a
        = ((s.passMs (s.axis a).periodTimer).withEvents s.events).enterIdle a r := by
      rw [State.withEvents_self (u := s.passMs (s.axis a).periodTimer) events, work]
      refine quiets ?_
      show 10 ≤ if (s.axis a).counter = (s.axis a).prevCount then m.quiet + 1 else 0
      rw [if_pos still, count]
    have ends : s.quietEnds a = true := by
      rw [State.quietEnds_eq stopping move, count]
      exact decide_eq_true ⟨still, by decide⟩
    obtain ⟨t, quiet, _⟩ := h.endsMove move kind owner queue park judged
    obtain ⟨st, rests, stops, counter⟩ := ended _ t
    exact ⟨_, congrArg Host.Outcome.next (if_pos ends), st, rests, stops, counter, t.queue, fun _ => quiet rfl, nofun, t.clock, t.mem,
      t.placement⟩
  · subst e
    have few : ((s.axis a).pass us ms).quietAfter m < 10 := by
      show (if (s.axis a).counter = (s.axis a).prevCount then m.quiet + 1 else 0) < 10
      rcases loud with moved | few
      · rw [if_neg moved]
        decide
      · split <;> omega
    have judged : (s.passMs (s.axis a).periodTimer).periodWork a
        = ((s.passMs (s.axis a).periodTimer).withEvents (State.placeRecord { s with clock := (s.passMs (s.axis a).periodTimer).clock }
            (eventCode .stopSlow (axisNumber a)) (s.axis a).counter 0).events).enterIdle a r := by
      rw [work]
      refine (slows few (by rw [count])).trans ?_
      unfold State.raiseEvent
      rw [State.raiseCode_open (hold.trans h.running) (by unfold State.RingOpen; rw [events]; exact room)]
      unfold State.placeRecord
      rw [events]
      rfl
    have ends : s.stopsEnd a = true := by
      rw [State.stopsEnd_eq stopping move, State.quietEnds_eq stopping move, count]
      have notQuiet : ¬ ((s.axis a).counter = (s.axis a).prevCount ∧ 10 ≤ m.quiet + 1) := by
        rintro ⟨still, many⟩
        exact loud.elim (absurd still) (fun few => by omega)
      rw [decide_eq_false notQuiet]
      rfl
    obtain ⟨t, _, raises⟩ := h.endsMove move kind owner queue park judged
    obtain ⟨st, rests, stops, counter⟩ := ended _ t
    exact ⟨_, congrArg Host.Outcome.next (if_pos ends), st, rests, stops, counter, t.queue, nofun,
      fun _ => ⟨raises _ _ _ rfl, t.notice⟩, t.clock, t.mem, t.placement⟩

end Sys2Proof.Machine
end

section
/-! SUPPORT for O42. Placement moves that end, and the flip that a placement waits for (R8 to R10, R73). -/

namespace Sys2Proof.Machine

/-! ### The report of a placement move (R8, R10) -/

theorem State.endStops_of_none {s : State} {a : AxisId} (stops : (s.axis a).stopWait = []) : s.endStops a = s := by
  have same : ({ s.axis a with stopWait := [] } : Axis) = s.axis a := by rw [← stops]
  unfold State.endStops
  rw [stops, same, s.setAxis_axis a]
  rfl

/-- A placement move that ends in IDLE with nothing waiting on the axis is reported to the placement unit (R38). -/
theorem State.enterIdle_placement {s : State} {a : AxisId} {m : Move} {r : Result} (move : (s.axis a).move = some m)
    (kind : m.kind = .placement)
    (rests : (((s.rested a .idle).placementReport a r).axis a) = (s.axis a).atRest .idle) (stops : (s.axis a).stopWait = [])
    (queue : (s.axis a).queue = []) (park : (s.axis a).pendingPark = false) :
    s.enterIdle a r = (s.rested a .idle).placementReport a r := by
  have leaves : s.leaveMove a .idle r = (s.rested a .idle).placementReport a r := by
    unfold State.leaveMove
    dsimp only
    rw [move]
    show (s.rested a .idle).handOver a m r = _
    unfold State.handOver
    rw [kind]
  unfold State.enterIdle
  rw [leaves, State.endStops_of_none (by rw [rests]; exact stops), State.presentIdle_of_none (by rw [rests]; exact park)
    (by rw [rests]; exact queue)]

/-- What the report of a move that settled changes: the placement, and the mesh where the apply begins. -/
structure State.Reported (v y : State) (a : AxisId) (noisy : Bool) : Prop where
  only : y = { v with placement := y.placement, mesh := y.mesh }
  settled : y.placement.settled = v.placement.settled.set a true
  noisy_ : y.placement.noisy = (v.placement.noisy || noisy)
  ref : y.placement.ref = v.placement.ref
  waits : v.placement.settled.get (otherAxis a) = false → y.placement.status = .moving ∧ y.mesh.applied = v.mesh.applied
  applies : v.placement.settled.get (otherAxis a) = true →
    y.placement.status = .applying ∧ y.mesh.applied = { dx := v.placement.remX, dy := v.placement.remY }
      ∧ y.placement.needed = v.mesh.neededGen

theorem State.meshRun_applied (s : State) : s.meshRun.mesh.applied = s.mesh.applied := by
  unfold State.meshRun State.takeSnapshot
  dsimp only
  split
  · split <;> rfl
  · rfl

theorem State.applyPlacement_blocks (s : State) :
    s.applyPlacement = { s with placement := s.applyPlacement.placement, mesh := s.applyPlacement.mesh }
      ∧ s.applyPlacement.placement = { s.placement with status := .applying, needed := s.mesh.neededGen }
      ∧ s.applyPlacement.mesh.applied = { dx := s.placement.remX, dy := s.placement.remY } := by
  unfold State.applyPlacement State.markDirty
  refine ⟨?_, ?_, ?_⟩
  · rw [State.meshRun_eq]
  · rw [State.meshRun_eq]
  · rw [State.meshRun_applied]

theorem PerAxis.set_true_all (p : PerAxis Bool) (a : AxisId) :
    ((p.set a true).h = true ∧ (p.set a true).v = true) ↔ p.get (otherAxis a) = true := by
  cases a
  · exact and_iff_right rfl
  · exact and_iff_left rfl

/-- The placement as a settled move leaves it (R8). -/
def State.counted (v : State) (a : AxisId) (noisy : Bool) : State :=
  { v with placement := { v.placement with settled := v.placement.settled.set a true, noisy := v.placement.noisy || noisy } }

theorem State.placementReport_done {v : State} {a : AxisId} {noisy : Bool} (moving : v.placement.status = .moving) :
    v.Reported (v.placementReport a { cls := .done, code := if noisy then .okNoisy else .ok }) a noisy := by
  have eq : v.placementReport a { cls := .done, code := if noisy then .okNoisy else .ok } = (v.counted a noisy).maybeApply.endFailed := by
    cases noisy
    · rw [State.counted, Bool.or_false]
      rfl
    · rw [State.counted, Bool.or_true]
      rfl
  have all := PerAxis.set_true_all v.placement.settled a
  cases other : v.placement.settled.get (otherAxis a) with
  | false =>
    have waits : (v.counted a noisy).maybeApply = v.counted a noisy := if_neg (fun q => by
      have := all.mp q.2
      rw [other] at this
      cases this)
    rw [eq, waits, State.endFailed, if_neg (fun q => by
      rw [show (v.counted a noisy).placement.status = v.placement.status from rfl, moving] at q
      cases q.1)]
    exact ⟨rfl, rfl, rfl, rfl, fun _ => ⟨moving, rfl⟩, fun q => (nomatch other.symm.trans q)⟩
  | true =>
    have applies : (v.counted a noisy).maybeApply = (v.counted a noisy).applyPlacement := if_pos ⟨moving, all.mpr other⟩
    obtain ⟨only, placement, applied⟩ := (v.counted a noisy).applyPlacement_blocks
    have stays : (v.counted a noisy).applyPlacement.endFailed = (v.counted a noisy).applyPlacement := if_neg (fun q => by
      rw [placement] at q
      cases q.1)
    rw [eq, applies, stays]
    refine ⟨only, ?_, ?_, ?_, fun q => (nomatch other.symm.trans q), fun _ => ⟨?_, applied, ?_⟩⟩
    all_goals rw [placement]
    all_goals rfl

/-! ### The failure of a placement (R10) -/

theorem State.stopPlacementMove_still {s : State} {a : AxisId} (rests : (s.axis a).runsPlacement = false) : s.stopPlacementMove a = s :=
  if_neg (by simp [rests])

/-- The status in which a placement has failed. -/
def State.failed (v : State) (c : ResCode) : State :=
  { v with placement := { v.placement with status := .failed, firstFailure := some c } }

theorem Axis.SameButDrive.runsPlacement {x y : Axis} (h : x.SameButDrive y) : y.runsPlacement = x.runsPlacement := by
  rw [h.eq]
  rfl

theorem State.stopPlacementMove_other (s : State) {a b : AxisId} (other : b ≠ a) :
    (s.axis b).SameButDrive ((s.stopPlacementMove a).axis b) := by
  unfold State.stopPlacementMove
  split
  · exact s.axis_stopCause_other _ other
  · exact .refl _

/-- Of a failing placement only the other axis has a placement move left to stop. -/
theorem State.failPlacement_eq {v : State} {a : AxisId} (rests : (v.axis a).runsPlacement = false) (c : ResCode) :
    v.failPlacement c = (v.failed c).stopPlacementMove (otherAxis a) := by
  have rests' : ((v.failed c).axis a).runsPlacement = false := rests
  show ((v.failed c).stopPlacementMove .h).stopPlacementMove .v = _
  cases a with
  | h =>
    rw [State.stopPlacementMove_still rests']
    rfl
  | v =>
    exact State.stopPlacementMove_still
      (((v.failed c).stopPlacementMove_other (a := .h) (by decide)).runsPlacement.trans rests')

theorem State.anyPlacementMove_eq (s : State) (a : AxisId) :
    s.anyPlacementMove = ((s.axis a).runsPlacement || (s.axis (otherAxis a)).runsPlacement) := by
  cases a
  · rfl
  · exact Bool.or_comm _ _

/-- A placement move fails while the other axis runs its own: that one is stopped, and the request stays (R10). -/
theorem State.placementReport_stops {v : State} {a : AxisId} {c : ResCode} (moving : v.placement.status = .moving)
    (rests : (v.axis a).runsPlacement = false) (other : (v.axis (otherAxis a)).runsPlacement = true) :
    v.placementReport a (endedWith c) = (v.failed c).stopCause (otherAxis a) .stopped := by
  have stops : (v.failed c).stopPlacementMove (otherAxis a) = (v.failed c).stopCause (otherAxis a) .stopped := if_pos other
  have report : v.placementReport a (endedWith c) = (v.failPlacement c).endFailed := by
    unfold State.placementReport
    dsimp only
    rw [if_neg (show ¬ (endedWith c).cls = .done from nofun), if_pos moving]
    rfl
  have runs : (((v.failed c).stopCause (otherAxis a) .stopped).axis (otherAxis a)).runsPlacement = true := by
    cases active : ((v.failed c).axis (otherAxis a)).st.active with
    | false =>
      rw [State.stopCause_still active]
      exact other
    | true =>
      rw [State.stopCause_active active, (State.axis_enterStopping _ _ _).1]
      unfold Axis.runsPlacement Axis.toStopping
      dsimp only
      unfold Axis.runsPlacement at other
      rw [show ((v.failed c).axis (otherAxis a)) = v.axis (otherAxis a) from rfl]
      cases move : (v.axis (otherAxis a)).move with
      | none => rw [move] at other; cases other
      | some m => rw [move] at other; exact other
  rw [report, State.failPlacement_eq rests, stops]
  refine if_neg (fun q => ?_)
  have none_ := q.2
  rw [State.anyPlacementMove_eq _ (otherAxis a), runs] at none_
  cases none_

theorem State.complete_slots_congr {s t : State} (slots : t.slots = s.slots) (k : SlotId) (r : Result) (body : List Word) :
    (t.complete k r body).slots = (s.complete k r body).slots := by
  unfold State.complete State.setHolder
  rw [State.view_congr slots k]
  cases s.view k with
  | host =>
    dsimp only
    rw [slots]
  | part kind tag taken g =>
    unfold State.setView
    dsimp only
    rw [slots]

/-- A placement move fails and no other runs: the request ends with the positions (R10). -/
theorem State.placementReport_ends {v : State} {a : AxisId} {c : ResCode} {k : SlotId} (moving : v.placement.status = .moving)
    (rests : (v.axis a).runsPlacement = false) (other : (v.axis (otherAxis a)).runsPlacement = false) (ref : v.placement.ref = some k) :
    v.placementReport a (endedWith c)
      = { v with
          placement := { v.placement with status := .failed, firstFailure := some c, ref := none }
          slots := (v.complete k (endedWith c) v.positions).slots } := by
  have report : v.placementReport a (endedWith c) = (v.failPlacement c).endFailed := by
    unfold State.placementReport
    dsimp only
    rw [if_neg (show ¬ (endedWith c).cls = .done from nofun), if_pos moving]
    rfl
  have none_ : (v.failed c).anyPlacementMove = false := by
    rw [State.anyPlacementMove_eq _ a]
    exact (congrArg₂ _ rests other)
  rw [report, State.failPlacement_eq rests, State.stopPlacementMove_still (s := v.failed c) other]
  unfold State.endFailed
  rw [if_pos ⟨rfl, none_⟩]
  dsimp only
  rw [show (v.failed c).placement.ref = some k from ref]
  unfold State.completeRef
  dsimp only
  rw [State.complete_eq, State.complete_slots_congr (s := v) (t := v.failed c) rfl]
  rfl

/-! ### Settling after a placement move has ended -/

/-- After time has passed out of a ready state, placement and mesh may change, and with them what goes to memory; nothing else. -/
structure State.Settled (s y t : State) (a : AxisId) (z : Axis) : Prop where
  axis : t.axis a = z
  other : t.axis (otherAxis a) = y.axis (otherAxis a)
  placement : t.placement = y.placement
  applied : t.mesh.applied = y.mesh.applied
  slots : t.slots = s.slots
  mem : t.mem = s.mem
  news : s.SameNews t

theorem State.Ready.settle_reported {s v y : State} {us : Nat} (h : s.Ready) (lens : (s.pass us).LensOnly v)
    (only : y = { v with placement := y.placement, mesh := y.mesh }) (a : AxisId) (z : Axis) :
    s.Settled y (y.setAxis a z).settle a z := by
  obtain ⟨outer, slots, events, notice, _⟩ := lens.blocks
  obtain ⟨_, _, clock, _, _, mem, path, _⟩ := (State.outer_iff _ _).mp outer
  obtain ⟨_, _, mem', slots', _, _, notice', events'⟩ := s.pass_blocks us
  have yPath : y.path = s.path := by rw [only]; exact path.trans (h.pass_path us)
  have ySlots : y.slots = s.slots := by rw [only]; exact slots.trans slots'
  have yEvents : y.events = s.events := by rw [only]; exact events.trans events'
  have yNotice : y.notice = s.notice := by rw [only]; exact notice.trans notice'
  have yMem : y.mem = s.mem := by rw [only]; exact mem.trans mem'
  have quiet : (y.setAxis a z).HostQuiet := .inl (by rw [State.setAxis_path, yPath]; exact h.host)
  have keeps := State.settle_keeps _ quiet
  have noSlot : (y.setAxis a z).slotClaim = none := State.slotClaim_none_of_queue _ (by rw [State.setAxis_slots, ySlots]; exact h.queue)
  obtain ⟨mem'', _, ⟨axes, placement, _⟩, _, news⟩ := keeps.blocks
  have core := keeps.inner
  simp only [State.inner, Prod.mk.injEq] at core
  obtain ⟨_, _, _, _, _, _, _, _, core, _⟩ := core
  have applied : (y.setAxis a z).settle.mesh.core.applied = (y.setAxis a z).mesh.core.applied := by rw [core]
  refine ⟨?_, ?_, placement, applied, ?_, mem''.trans yMem, ?_⟩
  · exact (congrArg (fun q : PerAxis Axis => q.get a) axes).trans (State.axis_setAxis_self y a z)
  · exact (congrArg (fun q : PerAxis Axis => q.get (otherAxis a)) axes).trans (State.axis_setAxis_other y a _ z (otherAxis_ne a))
  · exact (State.settleFor_slots _ 24 quiet noSlot).trans ySlots
  · obtain ⟨n, p, c, lost, overrun⟩ := news
    exact ⟨n.trans yNotice, p.trans (congrArg EventWriter.p yEvents), c.trans (congrArg EventWriter.c yEvents),
      lost.trans (congrArg EventWriter.lost yEvents), overrun.trans (congrArg EventWriter.overrun yEvents)⟩

/-! ### The first clause of O42 -/

/-- The axes, and what else the placement unit sees, once the axis has left its placement move. -/
structure State.LeavesPlacement (s v : State) (a : AxisId) : Prop where
  lens : (s.passMs (s.axis a).periodTimer).LensOnly v
  axis : ∃ us ms, v.axis a = ((s.axis a).pass us ms).atRest .idle
  other : ∃ us ms, ((s.axis (otherAxis a)).pass us ms).SameButDrive (v.axis (otherAxis a))
  placement : v.placement = s.placement
  slots : v.slots = s.slots
  mesh : v.mesh = (s.passMs (s.axis a).periodTimer).mesh

theorem State.leavesPlacement (s : State) (a : AxisId) :
    s.LeavesPlacement ((s.passMs (s.axis a).periodTimer).rested a .idle) a := by
  obtain ⟨_, _, _, slots, placement, _⟩ := s.pass_blocks (1000 * (s.axis a).periodTimer)
  obtain ⟨us, ms, aged⟩ := s.pass_axis_aged (1000 * (s.axis a).periodTimer) a
  obtain ⟨us', ms', aged'⟩ := s.pass_axis_aged (1000 * (s.axis a).periodTimer) (otherAxis a)
  obtain ⟨self, other⟩ := (s.passMs (s.axis a).periodTimer).axis_rested a (st := .idle) rfl
  have lens := (s.passMs (s.axis a).periodTimer).rested_lens a .idle
  obtain ⟨_, slots', _, _, mesh, _⟩ := lens.blocks
  rw [State.passMs, aged] at self
  rw [State.passMs, aged'] at other
  exact ⟨lens, ⟨us, ms, self⟩, ⟨us', ms', other⟩, placement, slots'.trans slots, mesh⟩

namespace State.LeavesPlacement

variable {s v : State} {a : AxisId}

theorem rests (h : s.LeavesPlacement v a) : (v.axis a).runsPlacement = false := by
  obtain ⟨us, ms, axis⟩ := h.axis
  rw [axis]
  rfl

theorem otherRuns (h : s.LeavesPlacement v a) : (v.axis (otherAxis a)).runsPlacement = (s.axis (otherAxis a)).runsPlacement := by
  obtain ⟨us, ms, other⟩ := h.other
  exact other.runsPlacement

theorem positions (h : s.LeavesPlacement v a) : v.positions = [s.axes.h.counter, s.axes.v.counter] := by
  obtain ⟨us, ms, axis⟩ := h.axis
  obtain ⟨us', ms', other⟩ := h.other
  have counter (b : AxisId) : (v.axis b).counter = (s.axis b).counter := by
    by_cases eq : b = a
    · rw [eq, axis]
      rfl
    · have b_eq : b = otherAxis a := by revert eq; cases a <;> cases b <;> simp [otherAxis]
      rw [b_eq, other.eq]
      rfl
  exact congrArg₂ (fun x y => [x, y]) (counter .h) (counter .v)

end State.LeavesPlacement

/-- The twentieth period of a placement move, by what its report leaves. -/
theorem State.Ready.endsPlacement {s : State} {a : AxisId} {m : Move} {r : Result} {y : State} (h : s.Ready)
    (move : (s.axis a).move = some m) (kind : m.kind = .placement) (queue : (s.axis a).queue = []) (stops : (s.axis a).stopWait = [])
    (park : (s.axis a).pendingPark = false)
    (judged : (s.passMs (s.axis a).periodTimer).periodWork a = (s.passMs (s.axis a).periodTimer).enterIdle a r)
    (report : ((s.passMs (s.axis a).periodTimer).rested a .idle).placementReport a r = y)
    (keeps : y.axis a = ((s.passMs (s.axis a).periodTimer).rested a .idle).axis a) :
    s.motionPeriod a = y.setAxis a (y.axis a).periodEnded := by
  obtain ⟨us, ms, aged⟩ := s.pass_axis_aged (1000 * (s.axis a).periodTimer) a
  have axis : (s.passMs (s.axis a).periodTimer).axis a = (s.axis a).pass us ms := aged
  obtain ⟨self, _⟩ := (s.passMs (s.axis a).periodTimer).axis_rested a (st := .idle) rfl
  have idles := State.enterIdle_placement (s := s.passMs (s.axis a).periodTimer) (a := a) (m := m) (r := r)
    (by rw [axis]; exact move) kind (by rw [report, keeps, self]) (by rw [axis]; exact stops) (by rw [axis]; exact queue)
    (by rw [axis]; exact park)
  exact State.motionPeriod_eq h.running (judged.trans (idles.trans report))

end Sys2Proof.Machine
end

section
/-! SUPPORT for O42. The ends of placement moves, and the flip (R8 to R10, R73). -/

namespace Sys2Proof.Machine

theorem State.pass_mesh (s : State) (us : Nat) :
    (s.pass us).mesh.st = s.mesh.st ∧ (s.pass us).mesh.gen = s.mesh.gen ∧ (s.pass us).mesh.applied = s.mesh.applied := by
  obtain ⟨us', ms, e⟩ := s.pass_aged us
  rw [e]
  exact ⟨rfl, rfl, rfl⟩

theorem Mesh.neededGen_eq (m : Mesh) : m.neededGen = if m.st = .idle ∨ m.st = .waitRetire then m.gen + 1 else m.gen + 2 := by
  unfold Mesh.neededGen
  cases m.st <;> rfl

section Ends

variable {s : State} {a : AxisId} {m : Move} {k : SlotId}

/-- What is known of an axis whose placement move ends in this period with nothing waiting on it. -/
structure State.PlacementEnding (s : State) (a : AxisId) (m : Move) (k : SlotId) : Prop where
  ready : s.Ready
  settling : (s.axis a).st = .settling
  move : (s.axis a).move = some m
  kind : m.kind = .placement
  count : m.settleCount = 19
  queue : (s.axis a).queue = []
  stops : (s.axis a).stopWait = []
  park : (s.axis a).pendingPark = false
  moving : s.placement.status = .moving
  ref : s.placement.ref = some k

theorem State.PlacementEnding.ran (h : s.PlacementEnding a m k) : exec (.settleEnd a) s = .next (s.motionPeriod a).settle :=
  congrArg Host.Outcome.next (if_pos (State.periodWork_settles h.settling h.move h.count 0).2)

/-- The move of the axis settled (R8). -/
theorem State.PlacementEnding.settles (h : s.PlacementEnding a m k)
    (near : (m.target - (s.axis a).counter.toInt).natAbs ≤ (s.axis a).cfg.bands.2.2) :
    let t := (s.motionPeriod a).settle
    (t.axis a).st = .idle ∧ (t.axis a).move = none ∧ t.placement.settled = s.placement.settled.set a true
      ∧ t.placement.noisy = (s.placement.noisy || decide (64 ≤ m.tally)) ∧ t.placement.ref = s.placement.ref ∧ t.slots = s.slots
      ∧ (s.placement.settled.get (otherAxis a) = false → t.placement.status = .moving ∧ t.mesh.applied = s.mesh.applied)
      ∧ (s.placement.settled.get (otherAxis a) = true →
          t.placement.status = .applying ∧ t.mesh.applied = { dx := s.placement.remX, dy := s.placement.remY }
            ∧ t.placement.needed = (if s.mesh.st = .idle ∨ s.mesh.st = .waitRetire then s.mesh.gen + 1 else s.mesh.gen + 2))
      ∧ t.mem = s.mem ∧ s.SameNews t := by
  intro t
  obtain ⟨us, ms, aged⟩ := s.pass_axis_aged (1000 * (s.axis a).periodTimer) a
  have leaves := s.leavesPlacement a
  have settled := State.periodWork_settles h.settling h.move h.count (s.axis a).periodTimer
  have judge := (State.settleJudge_cases (s := s.passMs (s.axis a).periodTimer) (a := a) (m := m)).1
  rw [State.passMs, aged] at judge
  have r := State.placementReport_done (v := (s.passMs (s.axis a).periodTimer).rested a .idle) (a := a) (noisy := decide (64 ≤ m.tally))
    (by rw [leaves.placement]; exact h.moving)
  have keeps := congrArg (fun q : State => q.axis a) r.only
  have eq := h.ready.endsPlacement (r := { cls := .done, code := if decide (64 ≤ m.tally) then .okNoisy else .ok }) h.move h.kind h.queue
    h.stops h.park ((settled.1.trans (judge near)).trans (by simp only [decide_eq_true_eq]; rfl)) rfl keeps
  obtain ⟨mst, gen, applied⟩ := s.pass_mesh (1000 * (s.axis a).periodTimer)
  have mesh : ((s.passMs (s.axis a).periodTimer).rested a .idle).mesh = (s.pass (1000 * (s.axis a).periodTimer)).mesh := leaves.mesh
  have settledState := h.ready.settle_reported leaves.lens r.only a
    (((s.passMs (s.axis a).periodTimer).rested a .idle).placementReport a
      { cls := .done, code := if decide (64 ≤ m.tally) then .okNoisy else .ok } |>.axis a).periodEnded
  rw [← eq] at settledState
  have waits := r.waits
  have applies := r.applies
  rw [leaves.placement, mesh, applied] at waits
  rw [leaves.placement, mesh, Mesh.neededGen_eq, mst, gen] at applies
  obtain ⟨us', ms', self⟩ := leaves.axis
  have axis : t.axis a = (((s.axis a).pass us' ms').atRest .idle).periodEnded := settledState.axis.trans (by rw [← self]; exact congrArg Axis.periodEnded keeps)
  refine ⟨by rw [axis]; rfl, by rw [axis]; rfl, ?_, ?_, ?_, settledState.slots, ?_, ?_, settledState.mem, settledState.news⟩
  · rw [settledState.placement, r.settled, leaves.placement]
  · rw [settledState.placement, r.noisy_, leaves.placement]
  · rw [settledState.placement, r.ref, leaves.placement]
  · rw [settledState.placement, settledState.applied]
    exact waits
  · rw [settledState.placement, settledState.applied]
    exact applies

/-- The work of the period where the move ends in settle failure (R50). -/
theorem State.PlacementEnding.fails (h : s.PlacementEnding a m k)
    (far : (s.axis a).cfg.bands.2.2 < (m.target - (s.axis a).counter.toInt).natAbs) (many : 3 ≤ m.corrections) :
    (s.passMs (s.axis a).periodTimer).periodWork a = (s.passMs (s.axis a).periodTimer).enterIdle a (endedWith .settleFail) := by
  obtain ⟨us, ms, aged⟩ := s.pass_axis_aged (1000 * (s.axis a).periodTimer) a
  have judge := (State.settleJudge_cases (s := s.passMs (s.axis a).periodTimer) (a := a) (m := m)).2
  rw [State.passMs, aged] at judge
  exact (State.periodWork_settles h.settling h.move h.count (s.axis a).periodTimer).1.trans ((judge far).2 many)

/-- The move of the axis failed while the other runs its own: that one is stopped, and the request waits for it (R10). -/
theorem State.PlacementEnding.failsWaiting (h : s.PlacementEnding a m k)
    (far : (s.axis a).cfg.bands.2.2 < (m.target - (s.axis a).counter.toInt).natAbs) (many : 3 ≤ m.corrections)
    (runs : (s.axis (otherAxis a)).runsPlacement = true) :
    let t := (s.motionPeriod a).settle
    (t.axis a).st = .idle ∧ (t.axis a).move = none
      ∧ t.placement = { s.placement with status := .failed, firstFailure := some .settleFail } ∧ t.slots = s.slots
      ∧ ((s.axis (otherAxis a)).st.active = true → s.Stopped t (otherAxis a) .stopped)
      ∧ t.mesh.applied = s.mesh.applied ∧ t.mem = s.mem ∧ s.SameNews t := by
  intro t
  have leaves := s.leavesPlacement a
  have report := State.placementReport_stops (v := (s.passMs (s.axis a).periodTimer).rested a .idle) (a := a) (c := .settleFail)
    (by rw [leaves.placement]; exact h.moving) leaves.rests (by rw [leaves.otherRuns]; exact runs)
  obtain ⟨_, _, applied⟩ := s.pass_mesh (1000 * (s.axis a).periodTimer)
  generalize vIs : (s.passMs (s.axis a).periodTimer).rested a .idle = v at *
  have still : (v.failed .settleFail |>.axis a) = v.axis a := rfl
  have keeps : ((v.failed .settleFail).stopCause (otherAxis a) .stopped).axis a = v.axis a := by
    obtain ⟨us, ms, self⟩ := leaves.axis
    have ne : a ≠ otherAxis a := fun e => otherAxis_ne a e.symm
    exact State.axis_stopCause_still _ _ ne (by rw [still, self]; rfl)
  have eq := h.ready.endsPlacement (y := (v.failed .settleFail).stopCause (otherAxis a) .stopped) h.move h.kind h.queue h.stops h.park
    (h.fails far many) (by rw [vIs]; exact report) (by rw [vIs]; exact keeps)
  have only : (v.failed .settleFail).LensOnly ((v.failed .settleFail).stopCause (otherAxis a) .stopped) := State.stopCause_lens _ _ _
  have placed : ((v.failed .settleFail).stopCause (otherAxis a) .stopped).placement = (v.failed .settleFail).placement := by
    unfold State.stopCause
    split <;> rfl
  have lens : v.LensOnly ((v.failed .settleFail).stopCause (otherAxis a) .stopped) := State.LensOnly.trans (t := v.failed .settleFail) rfl only
  obtain ⟨_, _, _, _, mesh, _⟩ := lens.blocks
  have r := h.ready.settle_reported (us := 1000 * (s.axis a).periodTimer) (leaves.lens.trans lens)
    (y := (v.failed .settleFail).stopCause (otherAxis a) .stopped) rfl a
    (((v.failed .settleFail).stopCause (otherAxis a) .stopped).axis a).periodEnded
  rw [← eq] at r
  obtain ⟨us, ms, self⟩ := leaves.axis
  have axis : t.axis a = (((s.axis a).pass us ms).atRest .idle).periodEnded := r.axis.trans (by rw [keeps, self])
  refine ⟨by rw [axis]; rfl, by rw [axis]; rfl, ?_, r.slots, fun active => ?_, ?_, r.mem, r.news⟩
  · rw [r.placement, placed, ← leaves.placement]
    rfl
  · obtain ⟨us', ms', other⟩ := leaves.other
    have active' : ((v.failed .settleFail).axis (otherAxis a)).st.active = true := other.active.trans active
    have stops : t.axis (otherAxis a) = (v.axis (otherAxis a)).toStopping (endedWith .stopped) := by
      rw [show t.axis (otherAxis a) = _ from r.other, State.stopCause_active active', (State.axis_enterStopping _ _ _).1]
      rfl
    unfold State.Stopped
    rw [stops, other.eq]
    exact ⟨rfl, rfl, fun n e => ⟨_, congrArg (Option.map _) e, rfl, rfl, rfl⟩⟩
  · rw [r.applied, mesh, leaves.mesh]
    exact applied

/-- The move of the axis failed and no other runs: the request ends with the positions (R10). -/
theorem State.PlacementEnding.failsAlone (h : s.PlacementEnding a m k)
    (far : (s.axis a).cfg.bands.2.2 < (m.target - (s.axis a).counter.toInt).natAbs) (many : 3 ≤ m.corrections)
    (rests : (s.axis (otherAxis a)).runsPlacement = false) {kind : BitVec 6} {tag : BitVec 8} {taken : Bool}
    (view : s.view k = .part kind tag taken .placement) :
    let t := (s.motionPeriod a).settle
    (t.axis a).st = .idle ∧ (t.axis a).move = none
      ∧ t.placement = { s.placement with status := .failed, firstFailure := some .settleFail, ref := none }
      ∧ t.slots.queue = [{ slot := k, result := endedWith .settleFail, body := [s.axes.h.counter, s.axes.v.counter] }]
      ∧ t.view k = .part kind tag taken .completing
      ∧ t.mesh.applied = s.mesh.applied ∧ t.mem = s.mem ∧ s.SameNews t := by
  intro t
  have leaves := s.leavesPlacement a
  have report := State.placementReport_ends (v := (s.passMs (s.axis a).periodTimer).rested a .idle) (a := a) (c := .settleFail) (k := k)
    (by rw [leaves.placement]; exact h.moving) leaves.rests (by rw [leaves.otherRuns]; exact rests) (by rw [leaves.placement]; exact h.ref)
  rw [leaves.positions] at report
  obtain ⟨_, _, applied⟩ := s.pass_mesh (1000 * (s.axis a).periodTimer)
  obtain ⟨_, _, _, _, _, _, _, events⟩ := s.pass_blocks (1000 * (s.axis a).periodTimer)
  generalize vIs : (s.passMs (s.axis a).periodTimer).rested a .idle = v at *
  obtain ⟨us, ms, self⟩ := leaves.axis
  obtain ⟨complete, writer⟩ := v.complete_queue k (endedWith .settleFail) [s.axes.h.counter, s.axes.v.counter]
  have view' : (v.complete k (endedWith .settleFail) [s.axes.h.counter, s.axes.v.counter]).view k = .part kind tag taken .completing :=
    State.view_setHolder_self .completing ((State.view_congr leaves.slots k).trans view)
  generalize v.complete k (endedWith .settleFail) [s.axes.h.counter, s.axes.v.counter] = w at *
  have eq := h.ready.endsPlacement (y := { v with
    placement := { v.placement with status := .failed, firstFailure := some .settleFail, ref := none }, slots := w.slots })
    h.move h.kind h.queue h.stops h.park (h.fails far many) (by rw [vIs]; exact report) (by rw [vIs]; rfl)
  have queue : (s.motionPeriod a).slots.queue
      = [{ slot := k, result := endedWith .settleFail, body := [s.axes.h.counter, s.axes.v.counter] }] := by
    rw [eq]
    refine complete.trans ?_
    rw [leaves.slots, h.ready.queue]
    rfl
  have lens : ((s.pass (1000 * (s.axis a).periodTimer)).withEvents s.events).LensOnly (State.setAxis { v with
      placement := { v.placement with status := .failed, firstFailure := some .settleFail, ref := none } } a (v.axis a).periodEnded) := by
    rw [State.withEvents_self (u := s.pass _) events]
    exact (State.LensOnly.trans leaves.lens (u := { v with
      placement := { v.placement with status := .failed, firstFailure := some .settleFail, ref := none } }) rfl).trans
      (State.setAxis_lens _ a _)
  obtain ⟨left, views, quiet, _⟩ := h.ready.settle_left lens (x := s.motionPeriod a) (by rw [eq]; rfl) queue (by nofun)
    (by rw [eq]; exact writer.trans (congrArg SlotUnit.writer leaves.slots))
  have axis : t.axis a = (((s.axis a).pass us ms).atRest .idle).periodEnded := by
    rw [← self]
    exact (congrArg (fun q : PerAxis Axis => q.get a) left.axes).trans (State.axis_setAxis_self _ a _)
  refine ⟨by rw [axis]; rfl, by rw [axis]; rfl, ?_, left.queue, ?_, ?_, left.mem, quiet rfl⟩
  · rw [left.placement, ← leaves.placement]
    rfl
  · rw [views k, eq]
    exact view'
  · rw [left.mesh]
    exact applied

end Ends

end Sys2Proof.Machine
end

section
/-! SUPPORT for O42. The drained flip that a placement waits for (R9, R73). -/

namespace Sys2Proof.Machine

/-! ### A drained entry makes room (R148) -/

/-- What the claim of a freed entry leaves alone, while no completion waits. -/
structure State.Freeing (s y : State) : Prop where
  keeps : SettleKeeps s y
  slots : y.slots = s.slots
  core : y.mesh.core = s.mesh.core

theorem State.freedEntry_keeps {s : State} (queue : s.slots.queue = []) : s.Freeing s.freedEntry := by
  unfold State.freedEntry
  cases claim : s.nextClaim with
  | none => exact ⟨⟨rfl, rfl, rfl⟩, rfl, rfl⟩
  | some y =>
    have k := s.nextClaim_keeps y claim
    have core : y.mesh.core = s.mesh.core := by
      have inner := k.inner
      simp only [State.inner, Prod.mk.injEq] at inner
      obtain ⟨_, _, _, _, _, _, _, _, core, _⟩ := inner
      exact core
    refine ⟨⟨k.inner, k.idx, PathUnit.outerRest_of_rest _ _ k.rest⟩, ?_, core⟩
    rcases s.nextClaim_cases y claim with c | ⟨_, c | c⟩
    · rw [s.slotClaim_none_of_queue queue] at c
      cases c
    · exact s.eventClaim_slots y c
    · exact s.meshClaim_slots y c

/-! ### The flip (R9, R73) -/

theorem State.placementFlip_early {s : State} {g : Half}
    (early : s.placement.status ≠ .applying ∨ 32768 ≤ (g - s.placement.needed).toNat) : s.placementFlip g = s := by
  refine if_neg (fun q => ?_)
  rcases early with other | far
  · exact other q.1
  · exact absurd (of_decide_eq_true q.2) (Nat.not_lt.mpr far)

theorem State.placementFlip_reached {s : State} {g : Half} {k : SlotId} (applying : s.placement.status = .applying)
    (reached : (g - s.placement.needed).toNat < 32768) (ref : s.placement.ref = some k) :
    s.placementFlip g
      = { s with
          placement := { s.placement with status := .settled, ref := none }
          slots := (s.complete k { cls := .done, code := if s.placement.noisy then .okNoisy else .ok } s.placedBody).slots } := by
  unfold State.placementFlip
  dsimp only
  rw [if_pos ⟨applying, decide_eq_true reached⟩, ref]
  unfold State.completeRef
  dsimp only
  rw [State.complete_eq]

/-- The mesh generator's own part of a flip (R73). -/
theorem State.flip_placement {s : State} {sn : Snapshot} (snapshot : s.mesh.snapshot = some sn) (waiting : s.mesh.waiting = []) :
    ∃ m m', s.flip = { (State.placementFlip { s with mesh := m } sn.gen).raiseNotice .mesh with mesh := m' } := by
  unfold State.flip
  rw [snapshot]
  dsimp only
  rw [show ∀ (t : State) (l : List Waiting), l = [] → State.endReached t sn.gen l = t from fun t l e => by rw [e]; rfl]
  · rw [State.meshRun_eq]
    exact ⟨_, _, rfl⟩
  · split <;> (cases sn.bank <;> exact waiting)

/-- The optical values on the screen (R9). -/
theorem State.placedBody_eq (s : State) :
    s.placedBody
      = (match s.placement.orientation with
          | .floor => [signedWord s.placement.optical.h, signedWord s.placement.optical.v]
          | .ceiling => [signedWord (-s.placement.optical.h), signedWord (-s.placement.optical.v)])
        ++ [signedWord s.placement.remX, signedWord s.placement.remY, s.axes.h.counter, s.axes.v.counter] := by
  unfold State.placedBody
  dsimp only
  cases s.placement.orientation with
  | floor =>
    unfold sign
    dsimp only
    rw [Int.one_mul, Int.one_mul]
    rfl
  | ceiling =>
    unfold sign
    dsimp only
    rw [Int.neg_one_mul, Int.neg_one_mul]
    rfl

theorem State.raiseNotice_eq (s : State) (n : NoticeSource) : s.raiseNotice n = { s with notice := (s.raiseNotice n).notice } := by
  unfold State.raiseNotice
  split <;> rfl

/-- The selector's entry has left the buffer, and its place is taken. -/
def State.selectorDrained (s : State) (e : Entry) (rest : List Entry) : State :=
  State.freedEntry { s.freePort with
    mem := Memory.writeWord s.mem (wordBase (s.addrOf e.offset)) e.data 0xF, path := { s.freePort.path with buffer := rest } }

theorem State.answerCycle_drainsSelector {s : State} {e : Entry} {rest : List Entry} {left : Nat} (buffer : s.path.buffer = e :: rest)
    (port : s.path.port = some { kind := .drain, left := left }) (producer : e.producer = .meshSelector) :
    s.answerCycle = (s.selectorDrained e rest).flip.settle := by
  unfold State.answerCycle
  rw [port]
  dsimp only
  unfold State.answerKind State.leaveHead
  dsimp only
  rw [show s.freePort.path.buffer = e :: rest from buffer]
  dsimp only
  rw [producer]
  rfl

/-- What the drained selector leaves of the state before the flip. -/
structure State.Drained (s y : State) : Prop where
  host : y.path.host = s.path.host
  slots : y.slots = s.slots
  core : y.mesh.core = s.mesh.core
  lens : s.SameLens y
  time : s.SameTime y
  cooling : s.SameCooling y

theorem State.selectorDrained_keeps {s : State} (e : Entry) (rest : List Entry) (queue : s.slots.queue = []) :
    s.Drained (s.selectorDrained e rest) := by
  have k := State.freedEntry_keeps (s := { s.freePort with
    mem := Memory.writeWord s.mem (wordBase (s.addrOf e.offset)) e.data 0xF, path := { s.freePort.path with buffer := rest } }) queue
  obtain ⟨_, time, lens, cooling, _⟩ := k.keeps.blocks
  exact ⟨congrArg (fun x => x.2.1) k.keeps.rest, k.slots, k.core, lens, time, cooling⟩

/-- After the flip: what settling leaves. -/
theorem State.settle_flipped {s y x z : State} (h : s.Drained y) (host : s.path.host = none)
    (eq : x = { z with placement := x.placement, slots := x.slots, notice := x.notice, mesh := x.mesh }) (from_ : z = y) :
    SettleKeeps x x.settle ∧ x.HostQuiet ∧ s.AxesSameButDrive x.settle ∧ s.SameTime x.settle ∧ s.SameCooling x.settle
      ∧ x.settle.placement = x.placement := by
  subst from_
  have quiet : x.HostQuiet := .inl (by rw [eq]; exact h.host.trans host)
  have keeps := State.settle_keeps _ quiet
  obtain ⟨_, time, ⟨axes, placement, _⟩, cooling, _⟩ := keeps.blocks
  have xAxes : x.axes = z.axes := by rw [eq]
  have axes' : x.settle.axes = s.axes := axes.trans (xAxes.trans h.lens.1)
  have time' : z.SameTime x := by rw [eq]; exact ⟨rfl, rfl, rfl⟩
  have cooling' : z.SameCooling x := by rw [eq]; exact ⟨rfl, rfl, rfl⟩
  refine ⟨keeps, quiet, ?_, (h.time.trans time').trans time, (h.cooling.trans cooling').trans cooling, placement⟩
  unfold State.AxesSameButDrive
  rw [axes']
  exact ⟨.refl _, .refl _⟩

/-- The drained selector of a build brings the flip that the placement waits for, or one that is too early (R9). -/
theorem State.answerCycle_flips {s : State} {e : Entry} {rest : List Entry} {left : Nat} {sn : Snapshot} {k : SlotId} {kind : BitVec 6}
    {tag : BitVec 8} {taken : Bool} (host : s.path.host = none) (buffer : s.path.buffer = e :: rest)
    (port : s.path.port = some { kind := .drain, left := left }) (producer : e.producer = .meshSelector)
    (snapshot : s.mesh.snapshot = some sn) (waiting : s.mesh.waiting = []) (queue : s.slots.queue = [])
    (writer : s.slots.writer = Initial.progress) (ref : s.placement.ref = some k) (view : s.view k = .part kind tag taken .placement) :
    let t := s.answerCycle
    (s.placement.status = .applying → (sn.gen - s.placement.needed).toNat < 32768 →
        t.placement = { s.placement with status := .settled, ref := none } ∧ t.view k = .part kind tag taken .completing
          ∧ t.slots.queue = [{ slot := k, result := { cls := .done, code := if s.placement.noisy then .okNoisy else .ok }, body := s.placedBody }])
      ∧ (s.placement.status ≠ .applying ∨ 32768 ≤ (sn.gen - s.placement.needed).toNat →
          t.placement = s.placement ∧ t.view k = s.view k ∧ t.slots.queue = [])
      ∧ s.AxesSameButDrive t ∧ s.SameTime t ∧ s.SameCooling t := by
  intro t
  have drained := s.selectorDrained_keeps e rest queue
  have answered : t = (s.selectorDrained e rest).flip.settle := State.answerCycle_drainsSelector buffer port producer
  generalize s.selectorDrained e rest = y at *
  have core := drained.core
  have snapshot' : y.mesh.snapshot = some sn := (show y.mesh.core.snapshot = _ by rw [core]; exact snapshot)
  have waiting' : y.mesh.waiting = [] := (show y.mesh.core.waiting = _ by rw [core]; exact waiting)
  obtain ⟨m, m', flips⟩ := State.flip_placement snapshot' waiting'
  obtain ⟨axes, placement, _⟩ := drained.lens
  by_cases reached : s.placement.status = .applying ∧ (sn.gen - s.placement.needed).toNat < 32768
  · obtain ⟨applying, near⟩ := reached
    have body : State.placedBody { y with mesh := m } = s.placedBody := by
      rw [State.placedBody_eq, State.placedBody_eq]
      show (match y.placement.orientation with | .floor => _ | .ceiling => _) ++ [_, _, y.axes.h.counter, y.axes.v.counter] = _
      rw [placement, axes]
    rw [State.placementFlip_reached (s := { y with mesh := m }) (by rw [← applying, ← placement]) (by rw [← placement] at near; exact near)
      (by rw [← ref, ← placement]), State.raiseNotice_eq, body] at flips
    obtain ⟨complete, writer'⟩ := State.complete_queue { y with mesh := m } k
      { cls := .done, code := if y.placement.noisy then .okNoisy else .ok } s.placedBody
    have view' := State.view_setHolder_self (s := { y with mesh := m }) .completing ((State.view_congr drained.slots k).trans view)
    have xSlots : y.flip.slots = (State.complete { y with mesh := m } k
        { cls := .done, code := if y.placement.noisy then .okNoisy else .ok } s.placedBody).slots := by rw [flips]
    have xPlacement : y.flip.placement = { y.placement with status := .settled, ref := none } := by rw [flips]
    obtain ⟨_, quiet, sameAxes, time, cooling, placed⟩ := State.settle_flipped (x := y.flip) drained host (by rw [flips]) rfl
    have queued : y.flip.slots.queue
        = [{ slot := k, result := { cls := .done, code := if y.placement.noisy then .okNoisy else .ok }, body := s.placedBody }] := by
      rw [xSlots, complete, show (State.slots { y with mesh := m }) = s.slots from drained.slots, queue]
      rfl
    have waits := State.settle_headWaits queued (by rw [State.placedBody_eq]; simp)
      ((congrArg SlotUnit.writer xSlots).trans (writer'.trans ((congrArg SlotUnit.writer drained.slots).trans writer))) quiet
    rw [answered]
    refine ⟨fun _ _ => ⟨?_, ?_, ?_⟩, fun q => ?_, sameAxes, time, cooling⟩
    · rw [placed, xPlacement, placement]
    · exact (waits.view k).trans ((State.view_congr xSlots k).trans view')
    · rw [waits.queue, queued, placement]
    · exact q.elim (absurd applying) (fun far => absurd near (Nat.not_lt.mpr far))
  · have early : s.placement.status ≠ .applying ∨ 32768 ≤ (sn.gen - s.placement.needed).toNat := by
      by_cases applying : s.placement.status = .applying
      · exact .inr (Nat.le_of_not_lt (fun near => reached ⟨applying, near⟩))
      · exact .inl applying
    rw [State.placementFlip_early (s := { y with mesh := m }) (by rw [← placement] at early; exact early), State.raiseNotice_eq] at flips
    have xSlots : y.flip.slots = y.slots := by rw [flips]
    obtain ⟨_, quiet, sameAxes, time, cooling, placed⟩ := State.settle_flipped (x := y.flip) drained host (by rw [flips]) rfl
    have slots : y.flip.settle.slots = s.slots :=
      (State.settle_slots _ quiet (by rw [xSlots, drained.slots]; exact queue)).trans (xSlots.trans drained.slots)
    rw [answered]
    refine ⟨fun applying near => absurd ⟨applying, near⟩ reached, fun _ => ⟨?_, State.view_congr slots k, by rw [slots]; exact queue⟩,
      sameAxes, time, cooling⟩
    rw [placed, show y.flip.placement = y.placement by rw [flips], placement]

/-- Settles O42: a placement move that settles or fails in its period, and the drained flip. -/
theorem placementEnds : Obligations.PlacementEnds := by
  refine ⟨fun s a m k kind tag taken h settling move mkind count queue stops park moving ref view => ⟨fun near => ?_, fun far many => ?_⟩,
    fun s e rest left sn k kind tag taken _ host buffer port producer snapshot waiting queue writer ref view => ⟨fun applying near => ?_,
      fun early => ?_⟩⟩
  · have ending : s.PlacementEnding a m k := ⟨h, settling, move, mkind, count, queue, stops, park, moving, ref⟩
    obtain ⟨st, rests, settled, noisy, ref', slots, waits, applies, mem, news⟩ := ending.settles near
    exact ⟨_, ending.ran, st, rests, settled, noisy, ref', slots, waits, applies, mem, news⟩
  · have ending : s.PlacementEnding a m k := ⟨h, settling, move, mkind, count, queue, stops, park, moving, ref⟩
    refine ⟨_, ending.ran, ?_⟩
    cases runs : (s.axis (otherAxis a)).runsPlacement with
    | true =>
      obtain ⟨st, rests, placement, slots, stopped, applied, mem, news⟩ := ending.failsWaiting far many runs
      rw [placement]
      exact ⟨st, rests, rfl, rfl, rfl, fun _ => ⟨ref, slots, stopped⟩, nofun, applied, mem, news⟩
    | false =>
      obtain ⟨st, rests, placement, queue', view', applied, mem, news⟩ := ending.failsAlone far many runs view
      rw [placement]
      exact ⟨st, rests, rfl, rfl, rfl, nofun, fun _ => ⟨rfl, queue', view'⟩, applied, mem, news⟩
  · obtain ⟨reached, _, axes, time, cooling⟩ := State.answerCycle_flips host buffer port producer snapshot waiting queue writer ref view
    obtain ⟨placement, view', queue'⟩ := reached applying near
    rw [State.placedBody_eq] at queue'
    exact ⟨_, rfl, placement, view', queue', axes, time, cooling⟩
  · obtain ⟨_, other, axes, time, cooling⟩ := State.answerCycle_flips host buffer port producer snapshot waiting queue writer ref view
    obtain ⟨placement, view', queue'⟩ := other early
    exact ⟨_, rfl, placement, view', queue', axes, time, cooling⟩

end Sys2Proof.Machine
end

section
/-! SUPPORT for O48. The tachometer: edges, silence, stalls and failures of a fan (R88 to R91). -/

namespace Sys2Proof.Machine

/-! ### Edges (R88) -/

/-- A tachometer edge, by the capture and the period. -/
theorem Fan.edge_rules (x : Fan) (now : Word) :
    (x.capValid = false →
        (x.edge now).capValid = true ∧ (x.edge now).capTime = now ∧ (x.edge now).rpm = x.rpm ∧ (x.edge now).tachWindow = some 0)
      ∧ (x.capValid = true → (now - x.capTime).toNat < 500 → x.edge now = x)
      ∧ (x.capValid = true → 500 ≤ (now - x.capTime).toNat →
          (x.edge now).capTime = now ∧ (x.edge now).rpm = 30000000 / (now - x.capTime).toNat ∧ (x.edge now).rpm ≤ 60000
            ∧ ((now - x.capTime).toNat ≤ 400000 → 75 ≤ (x.edge now).rpm) ∧ (x.edge now).tachWindow = some 0)
      ∧ (x.edge now).st = x.st ∧ (x.edge now).commanded = x.commanded ∧ (x.edge now).drive = x.drive := by
  unfold Fan.edge
  by_cases first : x.capValid = false
  · rw [if_pos first]
    exact ⟨fun _ => ⟨rfl, rfl, rfl, rfl⟩, fun q => (nomatch first.symm.trans q), fun q => (nomatch first.symm.trans q), rfl, rfl, rfl⟩
  · rw [if_neg first]
    dsimp only
    by_cases close : (now - x.capTime).toNat < Config.glitchUs
    · rw [if_pos close]
      exact ⟨fun q => absurd q first, fun _ _ => rfl, fun _ (far : 500 ≤ _) => absurd close (Nat.not_lt.mpr far), rfl, rfl, rfl⟩
    · rw [if_neg close]
      refine ⟨fun q => absurd q first, fun _ q => absurd q close, fun _ far => ⟨rfl, rfl, ?_, fun within => ?_, rfl⟩, rfl, rfl, rfl⟩
      · exact Nat.div_le_div_left far (by decide)
      · exact (Nat.le_div_iff_mul_le (by omega)).mpr (by show 75 * (now - x.capTime).toNat ≤ 30000000; omega)

theorem State.pass_usTimer (s : State) (us : Nat) : (s.pass us).clock.usTimer = s.clock.usTimer + natWord us := by
  unfold State.pass
  by_cases zero : us = 0
  · rw [if_pos zero, zero, show natWord 0 = 0#32 from rfl, BitVec.add_zero]
  · rw [if_neg zero]
    dsimp only
    split <;> rfl

theorem natWord_toNat (w : Word) : natWord w.toNat = w := by simp [natWord]

/-! ### Silence (R89 to R91) -/

/-- What an edge or a silence works on in a fan's record. -/
def Fan.tach (x : Fan) := (x.rpm, x.capTime, x.capValid, x.tachWindow)

theorem Fan.follow_tach (standby : Bool) (x : Fan) : (Fan.follow standby x).tach = x.tach := by
  rw [Fan.follow_keeps]
  rfl

/-- A fan that kicks again after its n-th stall, and one that has failed. -/
def Fan.rekicked (x : Fan) (standby : Bool) (n : Nat) : Fan :=
  Fan.follow standby { x with retries := n, cleanTimer := none, st := .kick, kickTimer := some Config.kickMs }

def Fan.failedAt (x : Fan) (standby : Bool) (n : Nat) : Fan :=
  Fan.follow standby { x with retries := n, cleanTimer := none, st := .failed }

/-- The FAN_STALL event (R90). -/
def State.tellStall (s : State) (f : FanId) (x : Fan) : State :=
  s.raiseCode (eventCode .fanStall (fanNumber f)) (natWord (x.retries + 1)) (natWord x.commanded)

/-- A fan's failure, before the overall level is formed anew (R91). -/
def State.tellFailure (s : State) (f : FanId) (x : Fan) : State :=
  ((s.tellStall f x).raiseCode (eventCode .fanFailed (fanNumber f)) (natWord 4) (natWord x.commanded)).raiseNotice .fan

theorem State.fanStall_eq (s : State) (f : FanId) :
    s.fanStall f
      = if (s.fan f).retries + 1 ≤ 3 then
          (s.drawFan f ((s.fan f).rekicked s.standby ((s.fan f).retries + 1))).tellStall f (s.fan f)
        else
          ((s.drawFan f ((s.fan f).failedAt s.standby ((s.fan f).retries + 1))).tellFailure f (s.fan f)).updateOverall
            (4 + fanNumber f) := rfl

theorem State.tellStall_news (s : State) (f : FanId) (x : Fan) : s.NewsOnly (s.tellStall f x) := State.raiseCode_news _ _ _ _

theorem State.tellFailure_news (s : State) (f : FanId) (x : Fan) : s.NewsOnly (s.tellFailure f x) :=
  ((s.tellStall_news f x).trans (State.raiseCode_news _ _ _ _)).trans (State.raiseNotice_news _ _)

theorem State.updateOverall_tach (s : State) (subject : Nat) (f : FanId) : ((s.updateOverall subject).fan f).tach = (s.fan f).tach := by
  rw [State.updateOverall_fan]
  split
  · rfl
  · exact Fan.follow_tach _ _

/-- A stall leaves the tachometer's record, and every block but the thermal side, alone. -/
theorem State.fanStall_keeps (s : State) (f : FanId) : s.CoolingOnly (s.fanStall f) ∧ ((s.fanStall f).fan f).tach = (s.fan f).tach := by
  rw [State.fanStall_eq]
  split
  · refine ⟨(s.drawFan_cooling f _).trans (State.tellStall_news _ f _).cooling, ?_⟩
    rw [State.fan_congr (State.tellStall_news _ f _).blocks.1, State.fan_drawFan_self]
    exact Fan.follow_tach _ _
  · refine ⟨((s.drawFan_cooling f _).trans (State.tellFailure_news _ f _).cooling).trans (State.updateOverall_cooling _ _), ?_⟩
    rw [State.updateOverall_tach, State.fan_congr (State.tellFailure_news _ f _).blocks.1, State.fan_drawFan_self]
    exact Fan.follow_tach _ _

theorem State.setFan_cooling (s : State) (f : FanId) (x : Fan) : s.CoolingOnly (s.setFan f x) := rfl

/-- After the silence of a fan its record has no speed, no capture and no window (R89). -/
theorem State.tachSilence_keeps (s : State) (f : FanId) :
    s.ThermalKeeps (s.tachSilence f) ∧ ((s.tachSilence f).fan f).rpm = 0 ∧ ((s.tachSilence f).fan f).capValid = false
      ∧ ((s.tachSilence f).fan f).tachWindow = none := by
  have both : s.CoolingOnly (s.tachSilence f) ∧ ((s.tachSilence f).fan f).tach = (s.fan f).silence.tach := by
    unfold State.tachSilence
    dsimp only
    split
    · obtain ⟨only, tach⟩ := (s.setFan f (s.fan f).silence).fanStall_keeps f
      exact ⟨(s.setFan_cooling f _).trans only, tach.trans (by rw [State.fan_setFan_self])⟩
    · exact ⟨rfl, by rw [State.fan_setFan_self]⟩
  obtain ⟨only, tach⟩ := both
  obtain ⟨rpm, rest⟩ := Prod.mk.inj tach
  obtain ⟨_, rest⟩ := Prod.mk.inj rest
  obtain ⟨capValid, window⟩ := Prod.mk.inj rest
  exact ⟨only.same, rpm, capValid, window⟩

theorem State.tachSilence_still {s : State} {f : FanId} (still : (s.fan f).st ≠ .run) :
    s.tachSilence f = s.setFan f (s.fan f).silence := if_neg still

/-- A silence in RUN with retries left is a stall: the fan kicks again, and the event is told (R90). -/
theorem State.tachSilence_stalls {s : State} {f : FanId} (runs : (s.fan f).st = .run) (few : (s.fan f).retries < 3) :
    s.tachSilence f
      = ((s.setFan f (s.fan f).silence).drawFan f ((s.fan f).silence.rekicked s.standby ((s.fan f).retries + 1))).tellStall f
          (s.fan f).silence := by
  unfold State.tachSilence
  rw [if_pos runs, State.fanStall_eq, State.fan_setFan_self, if_pos (by exact few)]
  rfl

/-- The fourth is a failure (R91). -/
theorem State.tachSilence_fails {s : State} {f : FanId} (runs : (s.fan f).st = .run) (many : (s.fan f).retries = 3) :
    s.tachSilence f
      = (((s.setFan f (s.fan f).silence).drawFan f ((s.fan f).silence.failedAt s.standby 4)).tellFailure f
          (s.fan f).silence).updateOverall (4 + fanNumber f) := by
  unfold State.tachSilence
  rw [if_pos runs, State.fanStall_eq, State.fan_setFan_self, if_neg (by show ¬ (s.fan f).retries + 1 ≤ 3; omega)]
  rw [show (s.fan f).silence.retries + 1 = 4 from congrArg (· + 1) many]
  rfl

/-! ### What stays pending (R169) -/

/-- Whatever was pending still is. -/
def Notice.Within (m n : Notice) : Prop := ∀ i, m.pend.getLsbD i = true → n.pend.getLsbD i = true

theorem Notice.Within.trans {m n o : Notice} (a : m.Within n) (b : n.Within o) : m.Within o := fun i q => b i (a i q)

theorem Notice.Within.of_eq {m n : Notice} (e : n = m) : m.Within n := fun i q => by rwa [e]

theorem State.raiseNotice_within (s : State) (n : NoticeSource) : s.notice.Within (s.raiseNotice n).notice := by
  unfold State.raiseNotice
  split
  · intro i q
    show (s.notice.pend ||| n.bit).getLsbD i = true
    rw [BitVec.getLsbD_or, q, Bool.true_or]
  · exact .of_eq rfl

theorem State.loseEvent_within (s : State) : s.notice.Within s.loseEvent.notice := by
  unfold State.loseEvent
  dsimp only
  split
  · exact .of_eq rfl
  · exact State.raiseNotice_within { s with events := { s.events with lost := satSucc s.events.lost, overrun := true } } .event

theorem State.raiseCode_within (s : State) (code : Half) (va vb : Word) : s.notice.Within (s.raiseCode code va vb).notice := by
  unfold State.raiseCode
  split
  · exact .of_eq rfl
  · split
    · exact s.loseEvent_within
    · split
      · show s.notice.Within (if 32 ≤ s.reportOverrun.events.occupancy then s.reportOverrun.loseEvent
          else s.reportOverrun.placeRecord code va vb).notice
        split
        · exact s.reportOverrun.loseEvent_within
        · exact .of_eq rfl
      · exact .of_eq rfl

theorem State.updateOverall_within (s : State) (subject : Nat) : s.notice.Within (s.updateOverall subject).notice := by
  have moved : s.notice.Within (s.levelMoved subject).notice :=
    ((s.withOverall s.overallNow).raiseCode_within _ _ _).trans (.of_eq (State.refreshFans_only _).notice)
  rw [State.updateOverall_eq]
  split
  · exact .of_eq rfl
  · split
    · exact (moved.trans (.of_eq (State.stopBoth_only { s.levelMoved subject with
        thermal := { (s.levelMoved subject).thermal with cutLatch := true } } .thermalBlock).blocks.2.2.2.2.1)).trans
        (State.raiseNotice_within _ _)
    · exact moved

theorem State.raiseNotice_sets {s : State} (run : s.hold = .running) (n : NoticeSource) :
    (s.raiseNotice n).notice.pend.getLsbD n.prio = true := by
  rw [State.raiseNotice_running run]
  show (s.notice.pend ||| n.bit).getLsbD n.prio = true
  rw [BitVec.getLsbD_or]
  cases n <;> exact Bool.or_true _

/-! ### The failure of a fan (R91) -/

theorem Level.hot_le_max_hot (l : Level) : Level.hot.rank ≤ (l.max .hot).rank := by cases l <;> decide

theorem State.overallNow_of_failed {s : State} {f : FanId} (failed : (s.fan f).st = .failed) : Level.hot.rank ≤ s.overallNow.rank := by
  have any : s.anyFanFailed = true := by
    unfold State.anyFanFailed
    cases f with
    | intake => rw [show s.fans.intake.st = .failed from failed]; rfl
    | exhaust => rw [show s.fans.exhaust.st = .failed from failed]; simp
    | source => rw [show s.fans.source.st = .failed from failed]; simp
  unfold State.overallNow
  rw [any, Bool.or_true, if_pos rfl]
  exact Level.hot_le_max_hot _

/-- After a failure the fan stands at full duty, the notice is pending and the overall level is at least HOT (R91, R103). -/
theorem State.failure_outcome {s : State} {f : FanId} {x y : Fan} (run : s.hold = .running) (mode : s.standby = false)
    (failed : y.st = .failed ∧ y.drive = 100 ∧ y.retries = 4) (subject : Nat) :
    let t := ((s.drawFan f y).tellFailure f x).updateOverall subject
    (t.fan f).st = .failed ∧ (t.fan f).drive = 100 ∧ (t.fan f).retries = 4 ∧ t.notice.pend.getLsbD 1 = true
      ∧ Level.hot.rank ≤ t.thermal.overall.rank := by
  intro t
  obtain ⟨st, drive, retries⟩ := failed
  obtain ⟨fans, _, power, _⟩ := (State.tellFailure_news (s.drawFan f y) f x).blocks
  have fan : ((s.drawFan f y).tellFailure f x).fan f = y := (State.fan_congr fans f).trans (State.fan_drawFan_self _ _ _)
  have standby : ((s.drawFan f y).tellFailure f x).standby = false := (State.standby_congr _ _ power).trans mode
  have hold : (((s.drawFan f y).tellStall f x).raiseCode (eventCode .fanFailed (fanNumber f)) (natWord 4) (natWord x.commanded)).hold
      = .running :=
    ((State.tellStall_news _ f x).trans (State.raiseCode_news _ _ _ _)).cooling.same.hold.trans run
  refine ⟨?_, ?_, ?_, State.updateOverall_within _ _ 1 (State.raiseNotice_sets hold .fan), ?_⟩
  · rw [State.updateOverall_fan, fan, standby]
    split
    · exact st
    · exact (Fan.takeDemand_failed _ _ _ st).1
  · rw [State.updateOverall_fan, fan, standby]
    split
    · exact drive
    · exact (Fan.takeDemand_failed _ _ _ st).2
  · rw [State.updateOverall_fan, fan, standby]
    split
    · exact retries
    · exact (Fan.follow_fields _ _).2.2.trans retries
  · rw [State.updateOverall_thermal]
    exact State.overallNow_of_failed (f := f) (by rw [fan]; exact st)

end Sys2Proof.Machine
end

section
/-! SUPPORT for O48. Edges and silences of a tachometer out of a ready state (R88 to R91). -/

namespace Sys2Proof.Machine

theorem Fan.rekicked_running {x : Fan} (running : 0 < x.commanded) (standby : Bool) (n : Nat) :
    x.rekicked standby n = { x with retries := n, cleanTimer := none, st := .kick, kickTimer := some 500, drive := 100 } := by
  unfold Fan.rekicked Fan.follow
  dsimp only
  rw [if_neg (Nat.ne_of_gt running)]
  rfl

theorem Fan.edge_retries (x : Fan) (now : Word) : (x.edge now).retries = x.retries := by
  unfold Fan.edge
  dsimp only
  split
  · rfl
  · split <;> rfl

theorem Fan.failedAt_rules (x : Fan) (n : Nat) :
    (x.failedAt false n).st = .failed ∧ (x.failedAt false n).drive = 100 ∧ (x.failedAt false n).retries = n := ⟨rfl, rfl, rfl⟩

/-- An event that was placed at an earlier moment of the command keeps its stamp. -/
theorem State.Ready.settle_raisedAt {s x : State} (h : s.Ready) {c : Clock} {code : Half} {va vb : Word}
    (events : x.events = (State.placeRecord { s with clock := c } code va vb).events) (path : x.path = s.path) :
    s.RaisesAt x.settle c.uptime code va vb := by
  have quiet : x.HostQuiet := .inl (by rw [path]; exact h.host)
  have placed := State.placeRecord_traffic (s := { s with clock := c }) h.fedOk code va vb
  have fed : x.events.FedOk := by
    rw [events]
    exact State.placeRecord_fedOk (s := { s with clock := c }) h.fedOk code va vb
  obtain ⟨_, _, _, _, _, p, c', _⟩ := (State.settle_keeps x quiet).blocks
  refine ⟨?_, ?_, ?_⟩
  · rw [(State.settle_ring x quiet fed).1]
    unfold State.ringTraffic at placed ⊢
    rw [events, path]
    exact placed
  · rw [p, events]
    rfl
  · rw [c', events]
    rfl

/-- Before the part settles: what a silence leaves after some time has passed. -/
structure State.Silenced (s y : State) (us : Nat) (f : FanId) : Prop where
  rpm : (y.fan f).rpm = 0
  capValid : (y.fan f).capValid = false
  window : (y.fan f).tachWindow = none
  path : y.path = s.path
  slots : y.slots = s.slots
  mem : y.mem = s.mem
  clock : y.clock = (s.pass us).clock
  hold : y.hold = s.hold
  still : (s.fan f).st ≠ .run → (y.fan f).st = (s.fan f).st ∧ s.WaitsAlike y ∧ y.notice = s.notice
  stalls : (s.fan f).st = .run → (s.fan f).retries < 3 → 0 < (s.fan f).commanded →
    ((y.fan f).st = .kick ∧ (y.fan f).kickTimer = some 500 ∧ (y.fan f).drive = 100 ∧ (y.fan f).cleanTimer = none
        ∧ (y.fan f).retries = (s.fan f).retries + 1 ∧ (y.fan f).commanded = (s.fan f).commanded)
      ∧ y.notice = s.notice ∧ y.mesh = (s.pass us).mesh
      ∧ y.events = (State.placeRecord { s with clock := (s.pass us).clock } (eventCode .fanStall (fanNumber f))
          (natWord ((s.fan f).retries + 1)) (natWord (s.fan f).commanded)).events
  fails : (s.fan f).st = .run → (s.fan f).retries = 3 → s.power.mode ≠ .standby →
    (y.fan f).st = .failed ∧ (y.fan f).drive = 100 ∧ (y.fan f).retries = 4 ∧ y.notice.pend.getLsbD 1 = true
      ∧ Level.hot.rank ≤ y.thermal.overall.rank

theorem State.Ready.silenced {s : State} (h : s.Ready) (room : s.RingOpen) (us : Nat) (f : FanId) :
    s.Silenced ((s.pass us).tachSilence f) us f := by
  obtain ⟨hold, _, mem, slots, _, _, notice, events⟩ := s.pass_blocks us
  obtain ⟨us', ms, aged⟩ := s.pass_fan us f
  obtain ⟨mode, _⟩ := s.pass_power us
  obtain ⟨keeps, rpm, capValid, window⟩ := (s.pass us).tachSilence_keeps f
  have st : ((s.pass us).fan f).st = (s.fan f).st := by rw [aged]; rfl
  have retries : ((s.pass us).fan f).retries = (s.fan f).retries := by rw [aged]; rfl
  have commanded : ((s.pass us).fan f).commanded = (s.fan f).commanded := by rw [aged]; rfl
  refine ⟨rpm, capValid, window, keeps.path.trans (h.pass_path us), keeps.slots.trans slots, keeps.mem.trans mem, keeps.clock,
    keeps.hold.trans hold, fun still => ?_, fun runs few running => ?_, fun runs many awake => ?_⟩
  · rw [State.tachSilence_still (by rw [st]; exact still), State.fan_setFan_self]
    exact ⟨st, (s.pass_waits us).trans (.of_blocks rfl rfl rfl rfl rfl), notice⟩
  · have eq := State.tachSilence_stalls (st.trans runs) (by rw [retries]; exact few)
    have fan := State.fan_drawFan_self ((s.pass us).setFan f ((s.pass us).fan f).silence) f
      (((s.pass us).fan f).silence.rekicked (s.pass us).standby (((s.pass us).fan f).retries + 1))
    have only := State.drawFan_only ((s.pass us).setFan f ((s.pass us).fan f).silence) f
      (((s.pass us).fan f).silence.rekicked (s.pass us).standby (((s.pass us).fan f).retries + 1))
    generalize ((s.pass us).setFan f ((s.pass us).fan f).silence).drawFan f
      (((s.pass us).fan f).silence.rekicked (s.pass us).standby (((s.pass us).fan f).retries + 1)) = d at *
    rw [Fan.rekicked_running (by rw [← commanded] at running; exact running)] at fan
    have dEvents : d.events = s.events := only.events.trans events
    obtain ⟨_, _, dClock, dHold, _⟩ := (State.outer_iff _ _).mp only.outer
    unfold State.tellStall at eq
    rw [State.raiseCode_open (dHold.trans (hold.trans h.running)) (by unfold State.RingOpen; rw [dEvents]; exact room)] at eq
    rw [eq]
    refine ⟨?_, only.notice.trans notice, only.mesh, ?_⟩
    · rw [show (d.placeRecord _ _ _).fan f = _ from fan]
      exact ⟨rfl, rfl, rfl, rfl, congrArg (· + 1) retries, commanded⟩
    · rw [← retries, ← commanded]
      unfold State.placeRecord
      rw [dEvents, dClock]
      rfl
  · rw [State.tachSilence_fails (st.trans runs) (retries.trans many)]
    have standby : (s.pass us).standby = false := by
      unfold State.standby
      rw [mode]
      exact decide_eq_false awake
    exact State.failure_outcome (s := (s.pass us).setFan f ((s.pass us).fan f).silence) (hold.trans h.running) standby
      (by rw [standby]; exact Fan.failedAt_rules _ _) _

/-! ### The commands (O48) -/

theorem State.tachExpiry_eq {s : State} {f : FanId} {n : Nat} (window : (s.fan f).tachWindow = some n) :
    s.tachExpiry f = (s.pass (400000 - n)).tachSilence f := by
  unfold State.tachExpiry
  rw [window]
  rfl

/-- What settling keeps of the fans and of the thermal side. -/
theorem State.settle_cooling {x : State} (quiet : x.HostQuiet) :
    x.settle.fans = x.fans ∧ x.settle.thermal = x.thermal ∧ x.settle.clock = x.clock ∧ x.settle.mem = x.mem ∧ x.settle.notice = x.notice := by
  obtain ⟨mem, ⟨clock, _⟩, _, ⟨fans, thermal, _⟩, notice, _⟩ := (State.settle_keeps x quiet).blocks
  exact ⟨fans, thermal, clock, mem, notice⟩

/-- An edge within the tach window. -/
theorem State.Quiet.tachEdge {s : State} {f : FanId} {elapsed : Word} (h : s.Quiet)
    (within : ∀ n, (s.fan f).tachWindow = some n → n + elapsed.toNat ≤ 400000) :
    (s.tachEdge f elapsed).settle = (s.pass elapsed.toNat).setFan f (((s.pass elapsed.toNat).fan f).edge (s.clock.usTimer + elapsed)) := by
  have passes : s.passToEdge f elapsed.toNat = s.pass elapsed.toNat := by
    unfold State.passToEdge
    cases window : (s.fan f).tachWindow with
    | none => rfl
    | some n => exact if_pos (within n window)
  have eq : s.tachEdge f elapsed
      = (s.pass elapsed.toNat).setFan f (((s.pass elapsed.toNat).fan f).edge (s.clock.usTimer + elapsed)) := by
    unfold State.tachEdge
    rw [if_pos h.running, passes]
    dsimp only
    rw [State.pass_usTimer, natWord_toNat]
  rw [eq]
  exact h.settle_waits ((s.pass_waits _).trans (.of_blocks rfl rfl rfl rfl rfl))

theorem State.pass_tachWindow {s : State} (run : s.hold = .running) (us : Nat) (f : FanId) :
    ((s.pass us).fan f).tachWindow = (s.fan f).tachWindow.map (fun n => n + us) := by
  unfold State.pass
  split
  · next zero =>
    subst zero
    exact (congrFun Option.map_id (s.fan f).tachWindow).symm
  · dsimp only
    rw [if_neg (by rw [run]; decide)]
    cases f <;> rfl

theorem State.pass_path_idle {s : State} (port : s.path.port = none) (us : Nat) : (s.pass us).path = s.path := by
  obtain ⟨us', ms, e⟩ := s.pass_aged us
  rw [e]
  exact congrArg (fun q => { s.path with port := q }) ((congrArg (Option.map (Cycle.pass us')) port).trans port.symm)

theorem natWord_add (m n : Nat) : natWord (m + n) = natWord m + natWord n := BitVec.ofNat_add _ _

/-- An edge after the end of the tach window: the window expires first (R89). -/
theorem State.tachEdge_late {s : State} {f : FanId} {elapsed : Word} {n : Nat} (run : s.hold = .running)
    (window : (s.fan f).tachWindow = some n) (late : 400000 < n + elapsed.toNat) :
    s.tachEdge f elapsed
      = ((((s.pass (400000 - n)).tachSilence f).pass (elapsed.toNat - (400000 - n))).setFan f
          (((((s.pass (400000 - n)).tachSilence f).pass (elapsed.toNat - (400000 - n))).fan f).edge
            (((s.pass (400000 - n)).tachSilence f).pass (elapsed.toNat - (400000 - n))).clock.usTimer)) := by
  have passes : s.passToEdge f elapsed.toNat = ((s.pass (400000 - n)).tachSilence f).pass (elapsed.toNat - (400000 - n)) := by
    unfold State.passToEdge
    rw [window, ← State.tachExpiry_eq window]
    exact if_neg (Nat.not_le.mpr late)
  unfold State.tachEdge
  rw [if_pos run, passes]

/-- Settles O48: edges by capture and period; a window that ends is a silence, and in RUN a stall or a failure. -/
theorem tachometer : Obligations.Tachometer := by
  refine ⟨fun s f elapsed h within => ?_, fun s f elapsed n h room window late => ?_, fun s f n h room window => ?_⟩
  · obtain ⟨_, _, mem, slots, _, _, notice, events⟩ := s.pass_blocks elapsed.toNat
    have timer : (s.pass elapsed.toNat).clock.usTimer = s.clock.usTimer + elapsed := by rw [State.pass_usTimer, natWord_toNat]
    obtain ⟨us', ms, e⟩ := s.pass_aged elapsed.toNat
    have fan (g : FanId) : (s.pass elapsed.toNat).fan g = (s.fan g).pass us' ms := by
      rw [e]
      cases g <;> rfl
    refine ⟨_, congrArg Host.Outcome.next (h.tachEdge within), ?_⟩
    rw [State.fan_setFan_self, fan, State.setFan_clock, timer]
    obtain ⟨first, close, accepted, st, commanded, drive⟩ := ((s.fan f).pass us' ms).edge_rules (s.clock.usTimer + elapsed)
    refine ⟨rfl, rfl, first, fun valid glitch => ?_, accepted, st, commanded, drive, fun g other => ?_, mem, slots, events, notice⟩
    · rw [close valid glitch]
      exact ⟨rfl, rfl, by rw [← fan]; exact State.pass_tachWindow h.running _ f⟩
    · rw [State.fan_setFan_other _ _ _ _ other, fan]
      exact ⟨rfl, rfl⟩
  · have silenced := h.silenced room (400000 - n) f
    have eq := State.tachEdge_late h.running window late
    have timers : (s.pass (400000 - n)).clock.usTimer + natWord (elapsed.toNat - (400000 - n)) = s.clock.usTimer + elapsed := by
      rw [State.pass_usTimer, BitVec.add_assoc, ← natWord_add, Nat.add_sub_cancel' (by omega), natWord_toNat]
    generalize (s.pass (400000 - n)).tachSilence f = y at *
    generalize elapsed.toNat - (400000 - n) = r at *
    obtain ⟨hold, _, mem, slots, _, _, notice, events⟩ := y.pass_blocks r
    have path := State.pass_path_idle (s := y) (by rw [silenced.path]; exact h.port) r
    have timer : (y.pass r).clock.usTimer = s.clock.usTimer + elapsed := by
      rw [State.pass_usTimer, silenced.clock, timers]
    have waits := y.pass_waits r
    obtain ⟨us', ms, fan⟩ := y.pass_fan r f
    obtain ⟨first, _, _, st, _, drive⟩ := ((y.pass r).fan f).edge_rules (y.pass r).clock.usTimer
    obtain ⟨valid, time, rpm, newWindow⟩ := first (by rw [fan]; exact silenced.capValid)
    have edgeRetries : (((y.pass r).fan f).edge (y.pass r).clock.usTimer).retries = (y.fan f).retries := by
      rw [Fan.edge_retries, fan]
      rfl
    have edged := State.fan_setFan_self (y.pass r) f (((y.pass r).fan f).edge (y.pass r).clock.usTimer)
    have quiet : ((y.pass r).setFan f (((y.pass r).fan f).edge (y.pass r).clock.usTimer)).HostQuiet := by
      refine .inl ?_
      rw [show (State.setFan _ _ _).path = (y.pass r).path from rfl, path, silenced.path]
      exact h.host
    generalize ((y.pass r).fan f).edge (y.pass r).clock.usTimer = e at *
    obtain ⟨fans, _, settleClock, settleMem, settleNotice⟩ := State.settle_cooling quiet
    have settleSlots : ((y.pass r).setFan f e).settle.slots = s.slots :=
      (State.settle_slots _ quiet (by rw [show (State.setFan _ _ _).slots = (y.pass r).slots from rfl, slots, silenced.slots]; exact h.queue)).trans
        (slots.trans silenced.slots)
    refine ⟨((y.pass r).setFan f e).settle, congrArg (fun x : State => Host.Outcome.next x.settle) eq, ?_⟩
    rw [State.fan_congr fans f, edged, settleClock]
    refine ⟨timer, ?_, valid, time, newWindow, fun still => ?_, fun runs few running => ?_,
      settleMem.trans (mem.trans silenced.mem), settleSlots⟩
    · rw [rpm, fan]
      exact silenced.rpm
    · obtain ⟨was, silent, quietNotice⟩ := silenced.still still
      have same : ((y.pass r).setFan f e).settle = (y.pass r).setFan f e :=
        h.toQuiet.settle_waits ((silent.trans waits).trans (.of_blocks rfl rfl rfl rfl rfl))
      refine ⟨?_, ?_, settleNotice.trans (notice.trans quietNotice)⟩
      · rw [st, fan]
        exact was
      · rw [same]
        exact events.trans silent.events
    · obtain ⟨⟨kicks, _, full, _, retries, _⟩, quietNotice, _, told⟩ := silenced.stalls runs few running
      refine ⟨?_, ?_, edgeRetries.trans retries, ?_, settleNotice.trans (notice.trans quietNotice)⟩
      · rw [st, fan]
        exact kicks
      · rw [drive, fan]
        exact full
      · exact h.settle_raisedAt (c := (s.pass (400000 - n)).clock) (events.trans told) (path.trans silenced.path)
  · have silenced := h.silenced room (400000 - n) f
    have eq := State.tachExpiry_eq window
    generalize (s.pass (400000 - n)).tachSilence f = y at *
    have quiet : y.HostQuiet := .inl (by rw [silenced.path]; exact h.host)
    obtain ⟨fans, thermal, clock, mem, notice⟩ := State.settle_cooling quiet
    have fan : y.settle.fan f = y.fan f := State.fan_congr fans f
    have slots : y.settle.slots = y.slots := State.settle_slots _ quiet (by rw [silenced.slots]; exact h.queue)
    refine ⟨y.settle, congrArg (fun x : State => Host.Outcome.next x.settle) eq, ?_⟩
    rw [fan]
    refine ⟨silenced.rpm, silenced.capValid, silenced.window, clock.trans silenced.clock, mem.trans silenced.mem,
      slots.trans silenced.slots, fun still => ?_, fun runs few running => ?_, fun runs many awake => ?_⟩
    · obtain ⟨st, waits, quietNotice⟩ := silenced.still still
      have same : y.settle = y := h.toQuiet.settle_waits waits
      exact ⟨st, by rw [same]; exact waits.events, notice.trans quietNotice⟩
    · obtain ⟨⟨st, kick, drive, clean, retries, commanded⟩, quietNotice, mesh, events⟩ := silenced.stalls runs few running
      have noMesh : y.meshClaim = none := State.meshClaim_none_congr _ _ mesh (State.pass_meshClaim _ (h.noMesh rfl))
      obtain ⟨_, _, _, records⟩ := h.settle_recorded (x := y) (by rw [events, silenced.clock]) silenced.hold silenced.slots noMesh silenced.path
      exact ⟨st, kick, drive, clean, retries, commanded, records, notice.trans quietNotice⟩
    · obtain ⟨st, drive, retries, pend, hot⟩ := silenced.fails runs many awake
      exact ⟨st, drive, retries, by rw [notice]; exact pend, by rw [thermal]; exact hot⟩

end Sys2Proof.Machine
end

section
/-! SUPPORT for O13. Memory answers a host cycle (R140, R143, R144, R159). -/

namespace Sys2Proof.Machine

theorem State.answerCycle_eq {s : State} {k : CycleKind} {left : Nat} (port : s.path.port = some { kind := k, left := left }) :
    s.answerCycle = (s.freePort.answerKind k).settle := by
  unfold State.answerCycle
  rw [port]

/-- Where no host access waits, settling keeps the reply to the last one. -/
theorem SettleKeeps.reply {x t : State} (keeps : SettleKeeps x t) : t.path.host = x.path.host ∧ t.path.reply = x.path.reply := by
  obtain ⟨_, rest⟩ := Prod.mk.inj keeps.rest
  obtain ⟨host, rest⟩ := Prod.mk.inj rest
  obtain ⟨reply, _⟩ := Prod.mk.inj rest
  exact ⟨host, reply⟩

/-- The state in which memory has taken a host write. -/
def State.written (s : State) (addr data : Word) (be : BitVec 4) : State :=
  State.answerWrite { s.freePort with mem := Memory.writeWord s.mem (wordBase addr) data be }

/-- The shadow after a plain write to a slot word (R159). -/
def State.plainEnd (s : State) (addr data : Word) (be : BitVec 4) (superseded : Bool) : State :=
  s.endHostWrite addr data be .plain superseded

/-- A plain write moves at most the shadow. -/
theorem State.plainEnd_keeps (s : State) (addr data : Word) (be : BitVec 4) (superseded : Bool) :
    ∃ v, s.plainEnd addr data be superseded = { s with slots := { s.slots with shadow := v } } := by
  unfold State.plainEnd State.endHostWrite
  split
  · exact ⟨s.slots.shadow, rfl⟩
  · split
    · unfold State.slotWriteEnd
      dsimp only
      split
      · exact ⟨s.slots.shadow, rfl⟩
      · exact ⟨_, rfl⟩
    · exact ⟨s.slots.shadow, rfl⟩

theorem State.plainEnd_merges {s : State} {addr : Word} {o : Nat} (offset : s.offsetOf addr = some o) (slot : o < 0x80)
    {superseded : Bool} (live : superseded = false) (data : Word) (be : BitVec 4) :
    (s.plainEnd addr data be superseded).shadowWord (slotOfOffset o) (wordOfOffset o) = s.mergedWord o data be := by
  subst live
  unfold State.plainEnd State.endHostWrite
  rw [offset]
  dsimp only
  rw [if_pos slot]
  exact State.shadowWord_setShadow_self _ _ _ _

/-- Settles O13: the answer, and then what settling keeps. -/
theorem memoryAnswers : Obligations.MemoryAnswers := by
  refine ⟨⟨fun s addr left _ port => ?_, fun s addr data be superseded left _ wf port => ?_⟩, fun s port => ⟨?_, ?_⟩⟩
  · have keeps := State.settle_keeps (s.freePort.answerRead (Memory.readWord s.mem (wordBase addr))) (.inl rfl)
    obtain ⟨mem, ⟨clock, pins, hold⟩, lens, cooling, news⟩ := keeps.blocks
    obtain ⟨host, reply⟩ := keeps.reply
    exact ⟨_, congrArg Host.Outcome.next (State.answerCycle_eq port), host, reply, ⟨mem, clock, pins, hold⟩, lens, cooling, news⟩
  · have eq : s.answerCycle = ((s.written addr data be).plainEnd addr data be superseded).settle := State.answerCycle_eq port
    have merges (o : Nat) := State.plainEnd_merges (s := s.written addr data be) (addr := addr) (o := o) (superseded := superseded) (data := data) (be := be)
    obtain ⟨v, plain⟩ := (s.written addr data be).plainEnd_keeps addr data be superseded
    refine ⟨_, congrArg Host.Outcome.next eq, ?_⟩
    generalize (s.written addr data be).plainEnd addr data be superseded = y at *
    have quiet : y.HostQuiet := by
      rw [plain]
      exact .inl rfl
    have keeps := State.settle_keeps y quiet
    obtain ⟨mem, time, lens, cooling, news⟩ := keeps.blocks
    obtain ⟨host, reply⟩ := keeps.reply
    have slots := State.settle_slots y quiet
    generalize y.settle = t at *
    have written : t.mem = Memory.writeWord s.mem (wordBase addr) data be := by rw [mem, plain]; rfl
    rw [written]
    refine ⟨by rw [host, plain]; rfl, by rw [reply, plain]; rfl, fun k inWord => Memory.get_writeWord_lane _ _ _ _ k inWord wf,
      fun a outside => Memory.get_writeWord_outside _ _ _ _ _ outside, by rw [plain] at time; exact time,
      by rw [plain] at lens; exact lens, by rw [plain] at cooling; exact cooling, by rw [plain] at news; exact news,
      fun o offset slot live queue k inWord => ?_⟩
    rw [State.shadowWord_congr (slots (by rw [plain]; exact queue)), merges o offset slot live]
    exact byteOf_mergeWord _ _ _ inWord
  · exact congrArg Host.Outcome.next (by unfold State.answerCycle; rw [port])
  · exact congrArg Host.Outcome.next (by unfold State.timeoutCycle; rw [port])

end Sys2Proof.Machine
end

section
/-! SUPPORT for O14. A drained entry, the claim of its place and the report to its producer (R76, R140, R148, R149, R165, R176). -/

namespace Sys2Proof.Machine

/-! ### The buffer only grows while the part settles (R148) -/

theorem State.slotClaim_buffer {s t : State} (h : s.slotClaim = some t) : ∃ e, t.path.buffer = s.path.buffer ++ [e] := by
  unfold State.slotClaim at h
  split at h
  · cases h
  · dsimp only at h
    split at h
    · cases h
      exact ⟨_, State.supersede_buffer _ _⟩
    · split at h
      · split at h
        · cases h
          exact ⟨_, State.supersede_buffer _ _⟩
        · cases h
      · cases h

theorem State.meshClaim_buffer {s t : State} (h : s.meshClaim = some t) : ∃ e, t.path.buffer = s.path.buffer ++ [e] := by
  unfold State.meshClaim at h
  split at h
  · cases h
  · dsimp only at h
    split at h
    · split at h
      · cases h
        exact ⟨_, rfl⟩
      · split at h
        · cases h
          exact ⟨_, rfl⟩
        · cases h
    · split at h
      · cases h
        exact ⟨_, rfl⟩
      · cases h
    · cases h
    · cases h

theorem State.nextClaim_buffer {s t : State} (h : s.nextClaim = some t) : ∃ e, t.path.buffer = s.path.buffer ++ [e] := by
  rcases s.nextClaim_cases t h with c | ⟨_, c | c⟩
  · exact State.slotClaim_buffer c
  · obtain ⟨e, _, one⟩ := State.eventClaim_buffer c
    exact ⟨e, one⟩
  · exact State.meshClaim_buffer c

theorem State.settle_grows {s : State} (quiet : s.HostQuiet) : ∃ more, s.settle.path.buffer = s.path.buffer ++ more := by
  have all := State.settle_induct (P := fun u => u.HostQuiet ∧ ∃ more, u.path.buffer = s.path.buffer ++ more) ?_
    ⟨quiet, [], (List.append_nil _).symm⟩
  · exact all.2
  · rintro u v ⟨hostQuiet, more, grown⟩ action
    refine ⟨(u.nextAction_keeps v hostQuiet action).2, ?_⟩
    rcases u.nextAction_cases v action with claim | ⟨_, grant⟩
    · obtain ⟨e, one⟩ := State.nextClaim_buffer claim
      exact ⟨more ++ [e], by rw [one, grown, List.append_assoc]⟩
    · rcases hostQuiet with host | busy
      · exact ⟨more, (u.nextGrant_keeps v host grant).1.buffer.trans grown⟩
      · obtain ⟨c, port⟩ := Option.isSome_iff_exists.mp busy
        unfold State.nextGrant at grant
        rw [port] at grant
        cases grant

/-! ### The place of an entry that has left (R148) -/

/-- The head has left the buffer, and one waiting claim has taken its place. -/
def State.headLeft (s : State) (rest : List Entry) (mem : Memory) : State :=
  State.freedEntry { s.freePort with mem := mem, path := { s.freePort.path with buffer := rest } }

/-- What the claim of a freed place leaves alone, whatever producer it comes from. -/
theorem State.freedEntry_grows (s : State) : SettleKeeps s s.freedEntry ∧ ∃ more, s.freedEntry.path.buffer = s.path.buffer ++ more := by
  unfold State.freedEntry
  cases claim : s.nextClaim with
  | none => exact ⟨.refl _, [], (List.append_nil _).symm⟩
  | some y =>
    have k := s.nextClaim_keeps y claim
    obtain ⟨e, one⟩ := State.nextClaim_buffer claim
    exact ⟨⟨k.inner, k.idx, PathUnit.outerRest_of_rest _ _ k.rest⟩, [e], one⟩

theorem State.answerCycle_drains {s : State} {e : Entry} {rest : List Entry} {left : Nat} (buffer : s.path.buffer = e :: rest)
    (port : s.path.port = some { kind := .drain, left := left }) :
    s.answerCycle
      = ((s.headLeft rest (Memory.writeWord s.mem (wordBase (s.addrOf e.offset)) e.data 0xF)).report e.producer true).settle := by
  rw [State.answerCycle_eq port]
  unfold State.answerKind State.leaveHead
  dsimp only
  rw [show s.freePort.path.buffer = e :: rest from buffer]
  rfl

/-! ### Reports (R149) -/

theorem State.bodyReport_eq (s : State) (drained : Bool) : ∃ w, s.bodyReport drained = s.setWriter w := by
  unfold State.bodyReport
  dsimp only
  split
  · exact ⟨s.slots.writer, rfl⟩
  · split <;> exact ⟨_, rfl⟩

/-- A report reaches memory, clock and buffer of no one. -/
theorem State.report_outer (s : State) (p : Producer) (drained : Bool) : (s.report p drained).outer = s.outer := by
  cases p with
  | slotBody =>
    obtain ⟨w, e⟩ := s.bodyReport_eq drained
    show (s.bodyReport drained).outer = s.outer
    rw [e]
    rfl
  | slotHeader => cases drained <;> simp [State.report]
  | eventWriter mark => cases mark <;> simp [State.report]
  | meshWord => rfl
  | meshSelector =>
    cases drained
    · rfl
    · exact s.flip_outer

/-- A drained entry other than a selector leaves lens and cooling alone. -/
theorem State.report_blocks (s : State) {p : Producer} (other : p ≠ .meshSelector) :
    s.SameLens (s.report p true) ∧ s.SameCooling (s.report p true) := by
  cases p with
  | slotBody =>
    obtain ⟨w, e⟩ := s.bodyReport_eq true
    rw [show s.report .slotBody true = s.bodyReport true from rfl, e]
    exact ⟨⟨rfl, rfl, rfl⟩, rfl, rfl, rfl⟩
  | slotHeader =>
    rw [show s.report .slotHeader true = s.raiseNotice .completion from rfl, State.raiseNotice_eq]
    exact ⟨⟨rfl, rfl, rfl⟩, rfl, rfl, rfl⟩
  | eventWriter mark =>
    cases mark with
    | false => exact ⟨⟨rfl, rfl, rfl⟩, rfl, rfl, rfl⟩
    | true =>
      rw [show s.report (.eventWriter true) true = s.raiseNotice .event from rfl, State.raiseNotice_eq]
      exact ⟨⟨rfl, rfl, rfl⟩, rfl, rfl, rfl⟩
  | meshWord => exact ⟨⟨rfl, rfl, rfl⟩, rfl, rfl, rfl⟩
  | meshSelector => exact absurd rfl other

theorem State.report_quietNotice (s : State) {p : Producer} (drained : Bool)
    (quiet : p = .eventWriter false ∨ p = .slotBody ∨ p = .meshWord) : (s.report p drained).notice = s.notice := by
  rcases quiet with e | e | e
  · rw [e]; rfl
  · obtain ⟨w, written⟩ := s.bodyReport_eq drained
    rw [e, show s.report .slotBody drained = s.bodyReport drained from rfl, written]
    rfl
  · rw [e]; rfl

/-! ### A flip (R73, R76) -/

/-- The generator's record at a flip, before the waiting requests that it reaches are ended. -/
def Mesh.flipped (m : Mesh) (sn : Snapshot) : Mesh :=
  let first := m.setMark sn.bank .selected
  let both := if decide (m.mark (otherBank sn.bank) = .selected) then
      { first.setMark (otherBank sn.bank) .retiring with retireTimer := some Config.retirementMs } else first
  let named := { both with gen := sn.gen, last := sn.params, snapshot := none }
  { named with waiting := named.waiting.filter (fun e => !(reaches sn.gen e.needed)) }

theorem Mesh.flipped_rules (m : Mesh) (sn : Snapshot) :
    (m.flipped sn).gen = sn.gen ∧ (m.flipped sn).last = sn.params ∧ (m.flipped sn).mark sn.bank = .selected
      ∧ (m.mark (otherBank sn.bank) = .selected → (m.flipped sn).mark (otherBank sn.bank) = .retiring)
      ∧ (m.flipped sn).waiting = m.waiting.filter (fun w => !reaches sn.gen w.needed) := by
  unfold Mesh.flipped
  dsimp only
  by_cases selected : m.mark (otherBank sn.bank) = .selected
  · rw [if_pos (decide_eq_true selected)]
    cases sn.bank <;> exact ⟨rfl, rfl, rfl, fun _ => rfl, rfl⟩
  · rw [if_neg (by rw [decide_eq_false selected]; decide)]
    refine ⟨rfl, rfl, ?_, fun q => absurd q selected, ?_⟩ <;> cases sn.bank <;> rfl

/-- The requests on the waiting list end, and with them at most the slots move. -/
theorem State.endReached_eq (s : State) (g : Half) (l : List Waiting) :
    s.endReached g l = { s with slots := (s.endReached g l).slots } := by
  induction l generalizing s with
  | nil => rfl
  | cons w l ih =>
    unfold State.endReached
    split
    · rw [ih, State.complete_eq]
    · exact ih s

theorem State.placementFlip_eq (s : State) (g : Half) :
    s.placementFlip g = { s with placement := (s.placementFlip g).placement, slots := (s.placementFlip g).slots } := by
  unfold State.placementFlip State.completeRef
  dsimp only
  split
  · split
    · rfl
    · rw [State.complete_eq]
  · rfl

/-- The record of the generator after its own step, but for the build it may begin. -/
theorem State.meshRun_record (s : State) : s.meshRun.mesh.last = s.mesh.last ∧ s.meshRun.mesh.waiting = s.mesh.waiting := by
  unfold State.meshRun
  dsimp only
  split
  · split <;> exact ⟨rfl, rfl⟩
  · exact ⟨rfl, rfl⟩

/-- The generator is in IDLE again, with nothing queued. -/
def State.idleAgain (s : State) : State :=
  { s with mesh := { s.mesh with st := .idle, progress := Initial.progress, requeueSelector := false } }

/-- What a flip does to the record and to the notices (R73, R76). -/
theorem State.flip_rules {s : State} {sn : Snapshot} (snapshot : s.mesh.snapshot = some sn) :
    s.flip.mesh.banks = (s.mesh.flipped sn).banks ∧ s.flip.mesh.last = (s.mesh.flipped sn).last
      ∧ s.flip.mesh.waiting = (s.mesh.flipped sn).waiting ∧ s.flip.notice = (s.raiseNotice .mesh).notice := by
  obtain ⟨l, flips⟩ : ∃ l, s.flip = (State.idleAgain
      (((State.endReached { s with mesh := s.mesh.flipped sn } sn.gen l).placementFlip sn.gen).raiseNotice .mesh)).meshRun := by
    unfold State.flip
    rw [snapshot]
    exact ⟨_, rfl⟩
  have mesh : (((State.endReached { s with mesh := s.mesh.flipped sn } sn.gen l).placementFlip sn.gen).raiseNotice .mesh).mesh
      = s.mesh.flipped sn := by
    rw [State.raiseNotice_mesh, State.placementFlip_eq, State.endReached_eq]
  have notice : (((State.endReached { s with mesh := s.mesh.flipped sn } sn.gen l).placementFlip sn.gen).raiseNotice .mesh).notice
      = (s.raiseNotice .mesh).notice := by
    rw [State.placementFlip_eq, State.endReached_eq]
    unfold State.raiseNotice
    split <;> rfl
  generalize ((State.endReached { s with mesh := s.mesh.flipped sn } sn.gen l).placementFlip sn.gen).raiseNotice .mesh = z at *
  obtain ⟨last, waiting⟩ := z.idleAgain.meshRun_record
  rw [flips, State.meshRun_banks, last, waiting, z.idleAgain.meshRun_blocks.2.2.2.2.1, ← mesh]
  exact ⟨rfl, rfl, rfl, notice⟩

/-! ### The drain (O14) -/

theorem SettleKeeps.mesh_core {s t : State} (k : SettleKeeps s t) : t.mesh.core = s.mesh.core := by
  have inner := k.inner
  simp only [State.inner, Prod.mk.injEq] at inner
  obtain ⟨_, _, _, _, _, _, _, _, core, _⟩ := inner
  exact core

/-- Settles O14: the entry's word, the claim of its place, the report to its producer, and what settling keeps. -/
theorem drainReachesMemory : Obligations.DrainReachesMemory := by
  intro s e rest left run wf host buffer port
  have eq := State.answerCycle_drains buffer port
  obtain ⟨keeps, more, grown⟩ := State.freedEntry_grows { s.freePort with
    mem := Memory.writeWord s.mem (wordBase (s.addrOf e.offset)) e.data 0xF, path := { s.freePort.path with buffer := rest } }
  change SettleKeeps _ (s.headLeft rest _) at keeps
  change (s.headLeft rest _).path.buffer = rest ++ more at grown
  obtain ⟨mem, time, lens, cooling, notice, _⟩ := keeps.blocks
  have yHost : (s.headLeft rest (Memory.writeWord s.mem (wordBase (s.addrOf e.offset)) e.data 0xF)).path.host = none :=
    keeps.reply.1.trans host
  have core := keeps.mesh_core
  change _ = s.mesh.core at core
  generalize s.headLeft rest (Memory.writeWord s.mem (wordBase (s.addrOf e.offset)) e.data 0xF) = y at *
  obtain ⟨_, _, clock, hold, pins, xMem, path, _⟩ := (State.outer_iff _ _).mp (y.report_outer e.producer true)
  have quiet : (y.report e.producer true).HostQuiet := .inl (by rw [path]; exact yHost)
  have settles := State.settle_keeps _ quiet
  obtain ⟨mem', time', lens', cooling', notice', _⟩ := settles.blocks
  obtain ⟨added, grown'⟩ := State.settle_grows quiet
  have written : (y.report e.producer true).settle.mem = Memory.writeWord s.mem (wordBase (s.addrOf e.offset)) e.data 0xF :=
    mem'.trans (xMem.trans mem)
  have yRun : y.hold = .running := time.2.2.trans run
  have raised (n : NoticeSource) : (y.raiseNotice n).notice = { s.notice with pend := s.notice.pend ||| n.bit } := by
    rw [State.raiseNotice_running yRun, ← show y.notice = s.notice from notice]
  have sameTime : y.SameTime (y.report e.producer true) := ⟨clock, pins, hold⟩
  refine ⟨_, congrArg Host.Outcome.next eq, ?_⟩
  rw [written]
  refine ⟨Memory.readWord_writeWord _ _ _ wf, fun a outside => Memory.get_writeWord_outside _ _ _ _ _ outside,
    (State.SameTime.trans time sameTime).trans time', ⟨more ++ added, by rw [grown', path, grown, List.append_assoc]⟩,
    fun p => ?_, fun p => ?_, fun p => ?_, fun p => ?_, fun sn p snapshot => ?_⟩
  · rw [notice', p]
    exact raised .completion
  · rw [notice', p]
    exact raised .event
  · rw [notice', State.report_quietNotice _ _ p]
    exact notice
  · obtain ⟨xLens, xCooling⟩ := y.report_blocks p
    exact ⟨(State.SameLens.trans lens xLens).trans lens', (State.SameCooling.trans cooling xCooling).trans cooling'⟩
  · have flips : y.report e.producer true = y.flip := by rw [p]; rfl
    rw [flips] at settles notice' ⊢
    obtain ⟨banks, last, waiting, flipNotice⟩ := State.flip_rules (s := y) (sn := sn)
      (show y.mesh.core.snapshot = _ by rw [core]; exact snapshot)
    have banks' := (State.settle_banks y.flip).trans banks
    obtain ⟨_, gen, _⟩ := (Mesh.banks_iff _ _).mp banks'
    obtain ⟨gen', last', mark, other, waiting'⟩ := y.mesh.flipped_rules sn
    have was (bank : Bank) : y.mesh.mark bank = s.mesh.mark bank := show y.mesh.core.mark bank = s.mesh.core.mark bank by rw [core]
    refine ⟨gen.trans gen', ?_, ?_, fun selected => ?_, ?_, ?_⟩
    · exact ((congrArg Mesh.last settles.mesh_core).trans last).trans last'
    · rw [Mesh.mark_of_banks banks']
      exact mark
    · rw [Mesh.mark_of_banks banks']
      exact other ((was _).trans selected)
    · have waited : y.mesh.waiting = s.mesh.waiting := show y.mesh.core.waiting = s.mesh.core.waiting by rw [core]
      rw [waited] at waiting'
      exact ((congrArg Mesh.waiting settles.mesh_core).trans waiting).trans waiting'
    · exact notice'.trans (flipNotice.trans (raised .mesh))

end Sys2Proof.Machine
end

section
/-! SUPPORT for O16. Memory cycles that are not answered in time (R73, R78, R153). -/

namespace Sys2Proof.Machine

/-! ### The timer of a cycle (R153) -/

/-- Time has passed to the end of the cycle on the port, and the port is free. -/
def State.expired (s : State) (left : Nat) : State := (s.pass left).freePort

theorem State.timeoutCycle_eq {s : State} {k : CycleKind} {left : Nat} (port : s.path.port = some { kind := k, left := left }) :
    s.timeoutCycle = ((s.expired left).timeoutKind k).settle := by
  unfold State.timeoutCycle
  rw [port]
  rfl

theorem State.expired_path (s : State) (left : Nat) : (s.expired left).path = { s.path with port := none } := by
  obtain ⟨us, ms, e⟩ := s.pass_aged left
  unfold State.expired State.freePort
  rw [e]
  rfl

theorem State.expired_meshClaim {s : State} (left : Nat) (noMesh : s.meshClaim = none) : (s.expired left).meshClaim = none :=
  State.meshClaim_none_congr (s.pass left) _ rfl (State.pass_meshClaim left noMesh)

theorem State.expired_blocks (s : State) (left : Nat) :
    (s.expired left).hold = s.hold ∧ (s.expired left).mem = s.mem ∧ (s.expired left).slots = s.slots
      ∧ (s.expired left).notice = s.notice ∧ (s.expired left).events = s.events
      ∧ (s.expired left).clock = (s.pass left).clock := by
  obtain ⟨hold, _, mem, slots, _, _, notice, events⟩ := s.pass_blocks left
  exact ⟨hold, mem, slots, notice, events, rfl⟩

theorem State.offsetOf_region {s t : State} (region : t.path.region = s.path.region) (addr : Word) :
    t.offsetOf addr = s.offsetOf addr := by
  unfold State.offsetOf
  rw [region]

theorem State.addrOf_region {s t : State} (region : t.path.region = s.path.region) (o : Nat) : t.addrOf o = s.addrOf o := by
  unfold State.addrOf
  rw [region]

/-! ### The record of a timeout (R153, R175) -/

theorem State.Quiet.noClaimsIn {s : State} (h : s.Quiet) (room : s.path.buffer.length < 16) :
    s.slotClaim = none ∧ s.eventClaim = none ∧ s.meshClaim = none := by
  obtain ⟨claim, _⟩ := (State.nextAction_none_iff h.running).mp (Option.isNone_iff_eq_none.mp h.still)
  exact (s.nextClaim_none_iff.mp claim).resolve_left (Nat.not_le.mpr room)

theorem State.Awaiting.noClaims {s : State} {k : CycleKind} {left : Nat} (h : s.Awaiting k left) :
    s.slotClaim = none ∧ s.eventClaim = none ∧ s.meshClaim = none :=
  h.toQuiet.noClaimsIn (by rw [h.buffer]; decide)

theorem State.Awaiting.traffic {s : State} {k : CycleKind} {left : Nat} (h : s.Awaiting k left) : s.ringTraffic = [] := by
  obtain ⟨_, noEvent, _⟩ := h.noClaims
  obtain ⟨noZero, out⟩ := s.eventClaim_none_iff.mp noEvent
  simp [State.ringTraffic, h.buffer, noZero, out]

/-- What a placed record leaves as it was, once the part has settled. -/
structure State.RecordOnly (y t : State) : Prop where
  mem : t.mem = y.mem
  clock : t.clock = y.clock
  notice : t.notice = y.notice
  slots : t.slots = y.slots
  host : t.path.host = y.path.host
  reply : t.path.reply = y.path.reply

/-- While nothing else is on its way, the record stands whole in the buffer when the part has settled. -/
theorem State.Awaiting.settle_recorded {s y : State} {k : CycleKind} {left : Nat} (h : s.Awaiting k left) {code : Half} {va vb : Word}
    (events : y.events = s.events) (hold : y.hold = s.hold) (queue : y.slots.queue = []) (noMesh : y.meshClaim = none)
    (host : y.path.host = none) (buffer : y.path.buffer = []) :
    y.RecordOnly (y.placeRecord code va vb).settle ∧ s.Records (y.placeRecord code va vb).settle code va vb := by
  have fedOk : y.events.FedOk := by
    rw [events]
    exact ⟨by rw [h.fed]; decide, fun _ => h.fed⟩
  have only : (y.placeRecord code va vb).OnlyWriter := ⟨queue, State.meshClaim_none_congr y _ rfl noMesh, .inl host, by
    rw [show (y.placeRecord code va vb).path.buffer = [] from buffer]
    exact fun e m => (nomatch m)⟩
  have before : y.ringTraffic = [] := by
    rw [← h.traffic]
    unfold State.ringTraffic
    rw [events, buffer, h.buffer]
  have traffic : (y.placeRecord code va vb).ringTraffic = s.recordEntries y.clock.uptime code va vb := by
    rw [State.placeRecord_traffic fedOk, before, List.nil_append]
    unfold State.recordEntries
    rw [events]
  obtain ⟨whole, done⟩ := only.settle_buffer (hold.trans h.running) (State.placeRecord_fedOk fedOk code va vb)
    (by rw [traffic]; exact (by decide : 5 < Config.bufferSize))
  have keeps := State.settle_keeps _ only.quiet
  obtain ⟨mem, ⟨clock, _⟩, _, _, notice, p, c, _⟩ := keeps.blocks
  refine ⟨⟨mem, clock, notice, State.settle_slots _ only.quiet only.queue, keeps.reply.1, keeps.reply.2⟩, ?_, ?_, ?_, done⟩
  · rw [whole, traffic, clock]
    rfl
  · rw [p, ← events]
    rfl
  · rw [c, ← events]
    rfl

/-- A record that is placed behind what the event writer has on its way, whatever else the part does as it settles. -/
theorem State.settle_placed {s y : State} (quiet : y.HostQuiet) (traffic : y.ringTraffic = s.ringTraffic) (fed : y.events.FedOk)
    (idx : y.events.idx = s.events.idx) (code : Half) (va vb : Word) : s.Raises (y.placeRecord code va vb).settle code va vb := by
  have placed := State.placeRecord_traffic fed code va vb
  have quiet' : (y.placeRecord code va vb).HostQuiet := quiet
  obtain ⟨_, ⟨clock, _⟩, _, _, _, p, c, _⟩ := (State.settle_keeps _ quiet').blocks
  obtain ⟨sameP, rest⟩ := Prod.mk.inj idx
  obtain ⟨sameC, _⟩ := Prod.mk.inj rest
  refine ⟨?_, ?_, ?_⟩
  · rw [(State.settle_ring _ quiet' (State.placeRecord_fedOk fed code va vb)).1, placed, traffic, clock]
    unfold State.recordEntries EventWriter.occupancy
    rw [sameP, sameC]
    rfl
  · rw [p, ← sameP]
    rfl
  · rw [c, ← sameC]
    rfl

theorem State.ringOpen_of_idx {s y : State} (idx : y.events.idx = s.events.idx) (room : s.RingOpen) : y.RingOpen := by
  obtain ⟨p, rest⟩ := Prod.mk.inj idx
  obtain ⟨c, rest⟩ := Prod.mk.inj rest
  obtain ⟨_, overrun⟩ := Prod.mk.inj rest
  obtain ⟨short, clear⟩ := room
  refine ⟨?_, overrun.trans clear⟩
  unfold EventWriter.occupancy at short ⊢
  rw [p, c]
  exact short

/-! ### A dropped entry (R149, R153) -/

theorem State.report_events (s : State) (p : Producer) : (s.report p false).events = s.events := by
  cases p with
  | slotBody =>
    obtain ⟨w, e⟩ := s.bodyReport_eq false
    rw [show s.report .slotBody false = s.bodyReport false from rfl, e]
    rfl
  | slotHeader => rfl
  | eventWriter mark =>
    cases mark with
    | false => rfl
    | true => rw [show s.report (.eventWriter true) false = s.raiseNotice .event from rfl, State.raiseNotice_eq]
  | meshWord => rfl
  | meshSelector => rfl

theorem State.report_dropped_notice (s : State) {p : Producer} (other : p ≠ .eventWriter true) :
    (s.report p false).notice = s.notice := by
  cases p with
  | slotBody => exact s.report_quietNotice false (.inr (.inl rfl))
  | slotHeader => rfl
  | eventWriter mark =>
    cases mark with
    | false => rfl
    | true => exact absurd rfl other
  | meshWord => rfl
  | meshSelector => rfl

/-- The claim of a freed place takes nothing from what the event writer has on its way. -/
theorem State.freedEntry_ring {s : State} (fed : s.events.FedOk) : s.freedEntry.ringTraffic = s.ringTraffic ∧ s.freedEntry.events.FedOk := by
  have keep : ∀ u, RingKeeps s u → u.ringTraffic = s.ringTraffic ∧ u.events.FedOk :=
    fun u k => ⟨k.traffic, by rw [k.events]; exact fed⟩
  unfold State.freedEntry
  cases claim : s.nextClaim with
  | none => exact ⟨rfl, fed⟩
  | some t =>
    rcases s.nextClaim_cases t claim with h | ⟨_, h | h⟩
    · exact keep t (s.slotClaim_ring t h)
    · exact s.eventClaim_ring t fed h
    · exact keep t (s.meshClaim_ring t h)

theorem State.timeoutKind_drain {s : State} {e : Entry} {rest : List Entry} {left : Nat} (run : s.hold = .running) (room : s.RingOpen)
    (buffer : s.path.buffer = e :: rest) :
    (s.expired left).timeoutKind .drain
      = (((s.pass left).headLeft rest s.mem).report e.producer false).placeRecord (timeoutCode (some e.offset)) 2 (s.addrOf e.offset) := by
  obtain ⟨hold, mem, _, _, events, _⟩ := s.expired_blocks left
  have path := s.expired_path left
  have head : (s.expired left).path.buffer = e :: rest := by rw [path]; exact buffer
  have leaves : (s.expired left).leaveHead false = ((s.pass left).headLeft rest s.mem).report e.producer false := by
    unfold State.leaveHead
    rw [head, mem]
    rfl
  have offset : (s.expired left).headOffset = e.offset := by
    unfold State.headOffset
    rw [head]
  have addr : (s.expired left).addrOf e.offset = s.addrOf e.offset := State.addrOf_region (by rw [path]) _
  obtain ⟨keeps, _⟩ := State.freedEntry_grows { (s.pass left).freePort with
    mem := s.mem, path := { (s.pass left).freePort.path with buffer := rest } }
  have left' := keeps.blocks.2.1.2.2
  have outer := (State.outer_iff _ _).mp (((s.pass left).headLeft rest s.mem).report_outer e.producer false)
  unfold State.timeoutKind State.timeoutEvent
  dsimp only
  rw [leaves, offset, addr]
  refine State.raiseCode_open ((outer.2.2.2.1.trans left').trans (hold.trans run)) (State.ringOpen_of_idx ?_ room) _ _ _
  rw [State.report_events]
  exact keeps.idx.trans (congrArg EventWriter.idx events)

/-! ### One record and then a selector (log 10) -/

/-- The state with the first words of the head record queued. -/
def State.feeding (x : State) (r : Record) (n : Nat) : State :=
  { x with path := { x.path with buffer := x.path.buffer ++ r.entries.take n }, events := { x.events with fed := n } }

/-- The state with the only outgoing record queued whole. -/
def State.recordQueued (x : State) (r : Record) : State :=
  { x with
    path := { x.path with buffer := x.path.buffer ++ r.entries }, events := { x.events with fed := 0, out := [], q := r.pAfter } }

theorem State.settle_eventClaim {x y : State} (run : x.hold = .running) (room : x.path.buffer.length < 16) (slot : x.slotClaim = none)
    (claim : x.eventClaim = some y) : x.settle = y.settle := by
  refine State.settle_of_nextAction ?_
  unfold State.nextAction State.nextClaim
  rw [if_neg (by rw [run]; decide), if_neg (show ¬ Config.bufferSize ≤ x.path.buffer.length from Nat.not_le.mpr room), slot, claim]
  rfl

theorem State.eventClaim_word {y : State} {r : Record} {rest : List Record} (zero : y.events.claimZero = false)
    (out : y.events.out = r :: rest) (few : y.events.fed < 4) :
    y.eventClaim = some { y.queueEntry (0x80 + 4 * r.ring + y.events.fed) (r.word y.events.fed) (.eventWriter false) with
      events := { y.events with fed := y.events.fed + 1 } } := by
  simp [State.eventClaim, zero, out, few]

theorem State.eventClaim_last {y : State} {r : Record} {rest : List Record} (zero : y.events.claimZero = false)
    (out : y.events.out = r :: rest) (all : ¬ y.events.fed < 4) :
    y.eventClaim = some { y.queueEntry 0x100 (r.pAfter.setWidth 32) (.eventWriter r.mark) with
      events := { y.events with fed := 0, out := rest, q := r.pAfter } } := by
  simp [State.eventClaim, zero, out, all]

theorem State.feeding_claim {x : State} {r : Record} (zero : x.events.claimZero = false) (out : x.events.out = [r]) {n : Nat} (more : n < 4) :
    (x.feeding r n).eventClaim = some (x.feeding r (n + 1)) := by
  have entry : r.entries.take (n + 1)
      = r.entries.take n ++ [{ offset := 0x80 + 4 * r.ring + n, data := r.word n, producer := .eventWriter false }] := by
    match n, more with
    | 0, _ => rfl
    | 1, _ => rfl
    | 2, _ => rfl
    | 3, _ => rfl
  rw [State.eventClaim_word (y := x.feeding r n) zero out more]
  unfold State.feeding State.queueEntry
  rw [entry, ← List.append_assoc]

theorem State.feeding_done {x : State} {r : Record} (zero : x.events.claimZero = false) (out : x.events.out = [r]) :
    (x.feeding r 4).eventClaim = some (x.recordQueued r) := by
  have whole : x.path.buffer ++ r.entries = x.path.buffer ++ r.entries.take 4
      ++ [{ offset := 0x100, data := r.pAfter.setWidth 32, producer := .eventWriter r.mark }] := by
    rw [List.append_assoc]
    rfl
  rw [State.eventClaim_last (y := x.feeding r 4) zero out (Nat.lt_irrefl 4)]
  unfold State.recordQueued State.feeding State.queueEntry
  rw [whole]

/-- The event writer queues its record before the mesh generator comes to claim (log 10). -/
theorem State.settle_writes {x : State} {r : Record} (run : x.hold = .running) (room : x.path.buffer.length + 4 < 16)
    (slot : x.slotClaim = none) (zero : x.events.claimZero = false) (out : x.events.out = [r]) (fed : x.events.fed = 0) :
    x.settle = (x.recordQueued r).settle := by
  have start : x.feeding r 0 = x := by
    unfold State.feeding
    rw [List.take_zero, List.append_nil, ← fed]
  have short (n : Nat) (few : n ≤ 4) : (x.feeding r n).path.buffer.length < 16 := by
    show (x.path.buffer ++ r.entries.take n).length < 16
    rw [List.length_append, List.length_take]
    omega
  have noSlot (n : Nat) : (x.feeding r n).slotClaim = none := State.slotClaim_none_congr x _ rfl slot
  have words (n : Nat) (few : n ≤ 4) : x.settle = (x.feeding r n).settle := by
    induction n with
    | zero => rw [start]
    | succ n ih =>
      rw [ih (Nat.le_of_succ_le few)]
      exact State.settle_eventClaim run (short n (Nat.le_of_succ_le few)) (noSlot n) (State.feeding_claim zero out few)
  rw [words 4 (Nat.le_refl 4)]
  exact State.settle_eventClaim run (short 4 (Nat.le_refl 4)) (noSlot 4) (State.feeding_done zero out)

/-- With no claim left, a grant moves neither the buffer nor the generator. -/
theorem State.settle_noClaims {x : State} (quiet : x.HostQuiet) (slot : x.slotClaim = none) (event : x.eventClaim = none)
    (mesh : x.meshClaim = none) : x.settle.path.buffer = x.path.buffer ∧ x.settle.mesh = x.mesh := by
  have all := State.settle_induct (P := fun u => u.HostQuiet ∧ u.path.buffer = x.path.buffer ∧ u.slots = x.slots ∧ u.events = x.events
    ∧ u.mesh = x.mesh) ?_ ⟨quiet, rfl, rfl, rfl, rfl⟩
  · exact ⟨all.2.1, all.2.2.2.2⟩
  · rintro u v ⟨hostQuiet, buffer, slots, events, sameMesh⟩ action
    have noClaim : u.nextClaim = none := u.nextClaim_none_iff.mpr (.inr ⟨State.slotClaim_none_congr x u slots slot,
      State.eventClaim_events events event, State.meshClaim_none_congr x u sameMesh mesh⟩)
    rcases u.nextAction_cases v action with claim | ⟨_, grant⟩
    · rw [noClaim] at claim
      cases claim
    · rcases hostQuiet with host | busy
      · have k := (u.nextGrant_keeps v host grant).1
        exact ⟨.inr k.port.2, k.buffer.trans buffer, k.slots.trans slots, k.events.trans events, k.mesh.trans sameMesh⟩
      · obtain ⟨c, port⟩ := Option.isSome_iff_exists.mp busy
        rw [u.nextGrant_none_iff.mpr (.inl (by rw [port]; exact Option.some_ne_none c))] at grant
        cases grant

/-! ### The cycles (O16) -/

theorem State.Awaiting.times_out_read {s : State} {addr : Word} {left : Nat} (h : s.Awaiting (.hostRead addr) left) (room : s.RingOpen) :
    ∃ t, exec .memoryTimeout s = .next t ∧ t.mem = s.mem ∧ t.clock = (s.pass left).clock
      ∧ t.path.reply = some (.readData 0xFFFFFFFF) ∧ t.path.host = none ∧ t.slots = s.slots ∧ t.notice = s.notice
      ∧ s.Records t (timeoutCode (s.offsetOf addr)) 0 addr := by
  obtain ⟨hold, mem, slots, notice, events, clock⟩ := s.expired_blocks left
  have path := s.expired_path left
  have noMesh := State.expired_meshClaim left h.noClaims.2.2
  have eq : s.timeoutCycle = ((s.expired left).timeoutKind (.hostRead addr)).settle := State.timeoutCycle_eq h.port
  have offset : (s.expired left).offsetOf addr = s.offsetOf addr := State.offsetOf_region (by rw [path]) addr
  generalize s.expired left = z at *
  have kind : z.timeoutKind (.hostRead addr)
      = (z.answerRead 0xFFFFFFFF).placeRecord (timeoutCode (s.offsetOf addr)) 0 addr := by
    rw [← offset]
    exact State.raiseCode_open (s := z.answerRead 0xFFFFFFFF) (hold.trans h.running)
      (State.ringOpen_of_idx (congrArg EventWriter.idx events) room) _ _ _
  obtain ⟨only, records⟩ := h.settle_recorded (y := z.answerRead 0xFFFFFFFF) (code := timeoutCode (s.offsetOf addr)) (va := 0) (vb := addr)
    events hold (by rw [show (z.answerRead _).slots = s.slots from slots]; exact h.queue)
    (State.meshClaim_none_congr z _ rfl noMesh) rfl (by rw [show (z.answerRead _).path.buffer = z.path.buffer from rfl, path]; exact h.buffer)
  refine ⟨_, congrArg Host.Outcome.next eq, ?_⟩
  rw [kind]
  exact ⟨only.mem.trans mem, only.clock.trans clock, only.reply, only.host, only.slots.trans slots, only.notice.trans notice, records⟩

theorem State.Awaiting.times_out_write {s : State} {addr data : Word} {be : BitVec 4} {superseded : Bool} {left : Nat}
    (h : s.Awaiting (.hostWrite addr data be .plain superseded) left) (room : s.RingOpen) :
    ∃ t, exec .memoryTimeout s = .next t ∧ t.mem = s.mem ∧ t.clock = (s.pass left).clock
      ∧ t.path.reply = some .writeDone ∧ t.path.host = none ∧ t.notice = s.notice ∧ t.slots.views = s.slots.views
      ∧ s.Records t (timeoutCode (s.offsetOf addr)) 1 addr := by
  obtain ⟨hold, mem, slots, notice, events, clock⟩ := s.expired_blocks left
  have path := s.expired_path left
  have noMesh := State.expired_meshClaim left h.noClaims.2.2
  have eq : s.timeoutCycle = ((s.expired left).timeoutKind (.hostWrite addr data be .plain superseded)).settle :=
    State.timeoutCycle_eq h.port
  have offset : (s.expired left).offsetOf addr = s.offsetOf addr := State.offsetOf_region (by rw [path]) addr
  generalize s.expired left = z at *
  obtain ⟨v, ended⟩ := z.answerWrite.plainEnd_keeps addr data be superseded
  have kind : z.timeoutKind (.hostWrite addr data be .plain superseded)
      = (z.answerWrite.plainEnd addr data be superseded).placeRecord (timeoutCode (s.offsetOf addr)) 1 addr := by
    rw [← offset]
    refine State.raiseCode_open (s := z.answerWrite.plainEnd addr data be superseded) ?_ ?_ _ _ _
    · rw [ended]
      exact hold.trans h.running
    · rw [ended]
      exact State.ringOpen_of_idx (congrArg EventWriter.idx events) room
  generalize z.answerWrite.plainEnd addr data be superseded = y at *
  have slots' : y.slots = { s.slots with shadow := v } := by
    rw [ended]
    show { z.slots with shadow := v } = _
    rw [slots]
  have path' : y.path = { z.path with host := none, reply := some .writeDone } := by rw [ended]; rfl
  have blocks : y.events = z.events ∧ y.hold = z.hold ∧ y.mesh = z.mesh ∧ y.mem = z.mem ∧ y.clock = z.clock ∧ y.notice = z.notice := by
    rw [ended]
    exact ⟨rfl, rfl, rfl, rfl, rfl, rfl⟩
  obtain ⟨events', hold', mesh', mem', clock', notice'⟩ := blocks
  obtain ⟨only, records⟩ := h.settle_recorded (code := timeoutCode (s.offsetOf addr)) (va := 1) (vb := addr)
    (events'.trans events) (hold'.trans hold) (by rw [slots']; exact h.queue) (State.meshClaim_none_congr z _ mesh' noMesh)
    (by rw [path']) (by rw [path', path]; exact h.buffer)
  refine ⟨_, congrArg Host.Outcome.next eq, ?_⟩
  rw [kind]
  exact ⟨only.mem.trans (mem'.trans mem), only.clock.trans (clock'.trans clock), only.reply.trans (by rw [path']),
    only.host.trans (by rw [path']), only.notice.trans (notice'.trans notice), by rw [only.slots, slots'], records⟩

theorem State.times_out_drain {s : State} {e : Entry} {rest : List Entry} {left : Nat} (run : s.hold = .running) (room : s.RingOpen)
    (inv : s.RingInv) (port : s.path.port = some { kind := .drain, left := left }) (host : s.path.host = none)
    (buffer : s.path.buffer = e :: rest) :
    ∃ t, exec .memoryTimeout s = .next t ∧ t.mem = s.mem ∧ t.clock = (s.pass left).clock
      ∧ (s.withBuffer rest).Raises t (timeoutCode (some e.offset)) 2 (s.addrOf e.offset)
      ∧ (∃ more, t.path.buffer = rest ++ more)
      ∧ (e.producer ≠ .eventWriter true → t.notice = s.notice) := by
  obtain ⟨_, mem, _, notice, events, clock⟩ := s.expired_blocks left
  have path := s.expired_path left
  have eq : s.timeoutCycle = ((s.expired left).timeoutKind .drain).settle := State.timeoutCycle_eq port
  rw [State.timeoutKind_drain run room buffer] at eq
  obtain ⟨keeps, more, grown⟩ := State.freedEntry_grows { s.expired left with
    mem := s.mem, path := { (s.expired left).path with buffer := rest } }
  obtain ⟨traffic, fed⟩ := State.freedEntry_ring (s := { s.expired left with
    mem := s.mem, path := { (s.expired left).path with buffer := rest } }) (by rw [show State.events _ = s.events from events]; exact inv.fedOk)
  change SettleKeeps _ ((s.pass left).headLeft rest s.mem) at keeps
  change ((s.pass left).headLeft rest s.mem).path.buffer = rest ++ more at grown
  change ((s.pass left).headLeft rest s.mem).ringTraffic = _ at traffic
  change ((s.pass left).headLeft rest s.mem).events.FedOk at fed
  have traffic' : ((s.pass left).headLeft rest s.mem).ringTraffic = (s.withBuffer rest).ringTraffic := by
    rw [traffic]
    unfold State.ringTraffic
    rw [show State.events { s.expired left with mem := s.mem, path := { (s.expired left).path with buffer := rest } } = s.events from events]
    rfl
  have idx : ((s.pass left).headLeft rest s.mem).events.idx = s.events.idx := keeps.idx.trans (congrArg EventWriter.idx events)
  have yHost : ((s.pass left).headLeft rest s.mem).path.host = none := keeps.reply.1.trans (by
    show (s.expired left).path.host = none
    rw [path]
    exact host)
  obtain ⟨yMem, ⟨yClock, _⟩, _, _, yNotice, _⟩ := keeps.blocks
  generalize (s.pass left).headLeft rest s.mem = y at *
  have told := y.report_events e.producer
  obtain ⟨_, _, clock', _, _, mem', path', _⟩ := (State.outer_iff _ _).mp (y.report_outer e.producer false)
  have quietNotice := fun other => y.report_dropped_notice (p := e.producer) other
  generalize y.report e.producer false = x at *
  have quiet : x.HostQuiet := .inl (by rw [path']; exact yHost)
  have quiet' : (x.placeRecord (timeoutCode (some e.offset)) 2 (s.addrOf e.offset)).HostQuiet := quiet
  obtain ⟨settleMem, ⟨settleClock, _⟩, _, _, settleNotice, _⟩ := (State.settle_keeps _ quiet').blocks
  obtain ⟨added, grown'⟩ := State.settle_grows quiet'
  have raises := State.settle_placed (s := s.withBuffer rest) quiet (by
    rw [← traffic']
    unfold State.ringTraffic
    rw [told, path']) (by rw [told]; exact fed) (by rw [told]; exact idx) (timeoutCode (some e.offset)) 2 (s.addrOf e.offset)
  refine ⟨_, congrArg Host.Outcome.next eq, settleMem.trans (mem'.trans yMem), settleClock.trans (clock'.trans yClock), raises,
    ⟨more ++ added, ?_⟩, fun other => settleNotice.trans ((quietNotice other).trans (yNotice.trans notice))⟩
  rw [grown', show (State.placeRecord _ _ _ _).path = x.path from rfl, path', grown, List.append_assoc]

/-- The record that `placeRecord` adds. -/
def State.newRecord (s : State) (code : Half) (va vb : Word) : Record :=
  { ring := s.events.p.toNat % Config.ringSize
    w0 := s.events.p ++ code
    w1 := va
    w2 := vb
    w3 := s.clock.uptime
    pAfter := s.events.p + 1
    mark := decide (s.events.occupancy + 1 = Config.eventMark) }

theorem State.placeRecord_eq (s : State) (code : Half) (va vb : Word) :
    s.placeRecord code va vb
      = { s with events := { s.events with p := s.events.p + 1, out := s.events.out ++ [s.newRecord code va vb] } } := rfl

/-- The selector entry that the mesh generator queues (R73). -/
def Snapshot.selector (sn : Snapshot) : Entry :=
  { offset := 0x103, data := selectorWord sn.bank sn.gen, producer := .meshSelector }

/-- A record and then the selector that is queued again (log 10). -/
theorem State.settle_requeues {x : State} {r : Record} {sn : Snapshot} (run : x.hold = .running) (room : x.path.buffer.length ≤ 10)
    (host : x.path.host = none) (slot : x.slotClaim = none) (zero : x.events.claimZero = false) (out : x.events.out = [r])
    (fed : x.events.fed = 0) (flip : x.mesh.st = .flipPending) (snapshot : x.mesh.snapshot = some sn)
    (again : x.mesh.requeueSelector = true) :
    x.settle.path.buffer = x.path.buffer ++ r.entries ++ [sn.selector]
      ∧ x.settle.mesh = { x.mesh with requeueSelector := false } := by
  have claim : (x.recordQueued r).meshClaim = some { (x.recordQueued r).queueEntry selectorOffset (selectorWord sn.bank sn.gen) .meshSelector with
      mesh := { x.mesh with requeueSelector := false } } := by
    unfold State.meshClaim
    rw [show (x.recordQueued r).mesh = x.mesh from rfl, snapshot]
    dsimp only
    rw [flip, again]
    rfl
  have noSlot : (x.recordQueued r).slotClaim = none := State.slotClaim_none_congr x _ rfl slot
  have noEvent : (x.recordQueued r).eventClaim = none := (State.eventClaim_none_iff _).mpr ⟨zero, rfl⟩
  have short : (x.recordQueued r).path.buffer.length < 16 := by
    show (x.path.buffer ++ r.entries).length < 16
    rw [List.length_append]
    exact Nat.lt_of_le_of_lt (Nat.add_le_add_right room r.entries.length) (by decide : 15 < 16)
  rw [State.settle_writes run (Nat.lt_of_le_of_lt (Nat.add_le_add_right room 4) (by decide)) slot zero out fed,
    State.settle_of_nextAction (s := x.recordQueued r) (by
      unfold State.nextAction State.nextClaim
      rw [if_neg (by rw [show (x.recordQueued r).hold = .running from run]; decide),
        if_neg (show ¬ Config.bufferSize ≤ (x.recordQueued r).path.buffer.length from Nat.not_le.mpr short), noSlot, noEvent, claim]
      rfl)]
  refine State.settle_noClaims (.inl host) (State.slotClaim_none_congr (x.recordQueued r) _ rfl noSlot)
    (State.eventClaim_events (s := x.recordQueued r) rfl noEvent) ?_
  unfold State.meshClaim
  dsimp only
  rw [snapshot, flip]
  rfl

theorem State.Quiet.times_out_selector {s : State} {e : Entry} {rest : List Entry} {left : Nat} {sn : Snapshot} (h : s.Quiet)
    (room : s.RingOpen) (inv : s.RingInv) (port : s.path.port = some { kind := .drain, left := left }) (host : s.path.host = none)
    (buffer : s.path.buffer = e :: rest) (producer : e.producer = .meshSelector) (few : rest.length ≤ 10)
    (flip : s.mesh.st = .flipPending) (snapshot : s.mesh.snapshot = some sn) :
    ∃ t, exec .memoryTimeout s = .next t ∧ t.mem = s.mem ∧ t.clock = (s.pass left).clock
      ∧ t.path.buffer =
          rest ++ s.recordEntries t.clock.uptime (timeoutCode (some e.offset)) 2 (s.addrOf e.offset)
            ++ [{ offset := 0x103, data := selectorWord sn.bank sn.gen, producer := .meshSelector }]
      ∧ t.mesh.st = .flipPending ∧ t.mesh.snapshot = s.mesh.snapshot ∧ t.mesh.gen = s.mesh.gen ∧ t.notice = s.notice := by
  obtain ⟨noSlot, noEvent, noMesh⟩ := h.noClaimsIn (by
    rw [buffer]
    exact Nat.lt_of_le_of_lt (Nat.succ_le_succ few) (by decide))
  obtain ⟨zero, out⟩ := s.eventClaim_none_iff.mp noEvent
  obtain ⟨hold, mem, slots, notice, events, clock⟩ := s.expired_blocks left
  have path := s.expired_path left
  have noMesh' := State.expired_meshClaim left noMesh
  obtain ⟨us, ms, aged⟩ := s.pass_aged left
  have mesh : (s.expired left).mesh = { s.mesh with retireTimer := countDown ms s.mesh.retireTimer } := by
    show (s.pass left).mesh = _
    rw [aged]
    rfl
  have eq : s.timeoutCycle = ((s.expired left).timeoutKind .drain).settle := State.timeoutCycle_eq port
  rw [State.timeoutKind_drain h.running room buffer, producer] at eq
  have freed : (s.pass left).headLeft rest s.mem
      = { s.expired left with mem := s.mem, path := { (s.expired left).path with buffer := rest } } := by
    show State.freedEntry _ = _
    unfold State.freedEntry
    rw [(State.nextClaim_none_iff _).mpr (.inr ⟨?_, ?_, ?_⟩)]
    · rfl
    · exact State.slotClaim_none_congr s _ slots noSlot
    · exact State.eventClaim_events events noEvent
    · exact State.meshClaim_none_congr (s.expired left) _ rfl noMesh'
  rw [freed] at eq
  generalize s.expired left = z at *
  have settled := State.settle_requeues (r := State.newRecord z (timeoutCode (some e.offset)) 2 (s.addrOf e.offset)) (sn := sn)
    (x := ((State.report { z with mem := s.mem, path := { z.path with buffer := rest } } .meshSelector false).placeRecord
      (timeoutCode (some e.offset)) 2 (s.addrOf e.offset)))
    (hold.trans h.running) few (by show z.path.host = none; rw [path]; exact host) (State.slotClaim_none_congr s _ slots noSlot)
    (by show z.events.claimZero = false; rw [events]; exact zero)
    (by show z.events.out ++ [_] = _; rw [show z.events.out = [] by rw [events]; exact out]; rfl) (by show z.events.fed = 0; rw [events]; exact inv.fedOk.2 out)
    (by show z.mesh.st = _; rw [mesh]; exact flip) (by show z.mesh.snapshot = _; rw [mesh]; exact snapshot) rfl
  have quiet : ((State.report { z with mem := s.mem, path := { z.path with buffer := rest } } .meshSelector false).placeRecord
      (timeoutCode (some e.offset)) 2 (s.addrOf e.offset)).HostQuiet := .inl (by show z.path.host = none; rw [path]; exact host)
  obtain ⟨settleMem, ⟨settleClock, _⟩, _, _, settleNotice, _⟩ := (State.settle_keeps _ quiet).blocks
  obtain ⟨settleBuffer, settleMesh⟩ := settled
  refine ⟨_, congrArg Host.Outcome.next eq, settleMem, settleClock.trans clock, ?_, ?_, ?_, ?_, settleNotice.trans notice⟩
  · rw [settleBuffer, settleClock]
    unfold State.recordEntries
    rw [← events]
    rfl
  · rw [settleMesh]
    show z.mesh.st = _
    rw [mesh]
    exact flip
  · rw [settleMesh]
    show z.mesh.snapshot = _
    rw [mesh]
  · rw [settleMesh]
    show z.mesh.gen = _
    rw [mesh]

theorem State.times_out_readBack {s : State} {left : Nat} (run : s.hold = .running) (room : s.RingOpen) (inv : s.RingInv)
    (port : s.path.port = some { kind := .selector, left := left }) (host : s.path.host = none) :
    ∃ t, exec .memoryTimeout s = .next t ∧ t.mem = s.mem ∧ t.clock = (s.pass left).clock
      ∧ s.Raises t (timeoutCode (some 0x103)) 3 (s.addrOf 0x103) ∧ (∃ more, t.path.buffer = s.path.buffer ++ more)
      ∧ t.mesh.awaitRead = false ∧ t.mesh.gen = 0 ∧ t.mesh.markA = .free ∧ t.mesh.markB = .free
      ∧ t.mesh.retireTimer = none ∧ t.notice = s.notice
      ∧ (s.mesh.st = .idle → s.mesh.dirty = true →
          t.mesh.st = .building ∧ t.mesh.snapshot = some { params := s.meshParams, gen := 1, bank := .a }) := by
  obtain ⟨hold, mem, slots, notice, events, clock⟩ := s.expired_blocks left
  have path := s.expired_path left
  obtain ⟨us, ms, aged⟩ := s.pass_aged left
  have mesh : (s.expired left).mesh = { s.mesh with retireTimer := countDown ms s.mesh.retireTimer } := by
    show (s.pass left).mesh = _
    rw [aged]
    rfl
  have params : (s.expired left).meshParams = s.meshParams := by
    show (s.pass left).meshParams = _
    rw [aged]
    rfl
  have eq : s.timeoutCycle = ((s.expired left).timeoutKind .selector).settle := State.timeoutCycle_eq port
  have addr : (s.expired left).addrOf 0x103 = s.addrOf 0x103 := State.addrOf_region (by rw [path]) _
  generalize s.expired left = z at *
  have begins : z.mesh.st = .idle → z.mesh.dirty = true →
      (State.meshRun { z with mesh := z.mesh.readBack none }).mesh.Filling { params := s.meshParams, gen := 1, bank := .a } := by
    intro idle dirty
    rw [State.meshRun_idle (s := { z with mesh := z.mesh.readBack none }) idle dirty rfl rfl, ← params]
    exact ⟨rfl, rfl, rfl⟩
  have banks : (State.meshRun { z with mesh := z.mesh.readBack none }).mesh.banks = (z.mesh.readBack none).banks := State.meshRun_banks _
  have kind : z.timeoutKind .selector
      = (State.meshRun { z with mesh := z.mesh.readBack none }).timeoutEvent (some selectorOffset) 3 (z.addrOf selectorOffset) := by
    show (z.selectorAnswer none).timeoutEvent (some selectorOffset) 3 (z.addrOf selectorOffset) = _
    rw [State.selectorAnswer_eq]
    rfl
  have only := State.meshRun_eq { z with mesh := z.mesh.readBack none }
  rw [kind] at eq
  generalize State.meshRun { z with mesh := z.mesh.readBack none } = y at *
  have blocks : y.hold = z.hold ∧ y.path = z.path ∧ y.mem = z.mem ∧ y.clock = z.clock ∧ y.notice = z.notice ∧ y.events = z.events := by
    rw [only]
    exact ⟨rfl, rfl, rfl, rfl, rfl, rfl⟩
  obtain ⟨hold', path', mem', clock', notice', events'⟩ := blocks
  have told : y.timeoutEvent (some selectorOffset) 3 (z.addrOf selectorOffset)
      = y.placeRecord (timeoutCode (some 0x103)) 3 (s.addrOf 0x103) := by
    rw [← addr]
    exact State.raiseCode_open (hold'.trans (hold.trans run))
      (State.ringOpen_of_idx (congrArg EventWriter.idx (events'.trans events)) room) _ _ _
  rw [told] at eq
  have quiet : y.HostQuiet := .inl (by rw [path', path]; exact host)
  have quiet' : (y.placeRecord (timeoutCode (some 0x103)) 3 (s.addrOf 0x103)).HostQuiet := quiet
  have raises := State.settle_placed (s := s) quiet (by
    unfold State.ringTraffic
    rw [events', events, path', path]) (by rw [events', events]; exact inv.fedOk) (by rw [events', events])
    (timeoutCode (some 0x103)) 3 (s.addrOf 0x103)
  obtain ⟨settleMem, ⟨settleClock, _⟩, _, _, settleNotice, _⟩ := (State.settle_keeps _ quiet').blocks
  obtain ⟨more, grown⟩ := State.settle_grows quiet'
  obtain ⟨read, gen, markA, markB, timer⟩ := (Mesh.banks_iff _ _).mp
    ((State.settle_banks (y.placeRecord (timeoutCode (some 0x103)) 3 (s.addrOf 0x103))).trans banks)
  refine ⟨_, congrArg Host.Outcome.next eq, settleMem.trans (mem'.trans mem), settleClock.trans (clock'.trans clock), raises,
    ⟨more, ?_⟩, read, gen, markA, markB, timer, settleNotice.trans (notice'.trans notice), fun idle dirty => ?_⟩
  · rw [grown, show (State.placeRecord y _ _ _).path = y.path from rfl, path', path]
  · have filling := State.settle_filling (s := y.placeRecord (timeoutCode (some 0x103)) 3 (s.addrOf 0x103))
      (begins (by rw [mesh]; exact idle) (by rw [mesh]; exact dirty))
    exact ⟨filling.building, filling.snapshot⟩

/-- Settles O16: per kind of cycle, what the end of it leaves, the record of the timeout, and what settling keeps. -/
theorem memoryTimeout : Obligations.MemoryTimeout :=
  ⟨fun _ _ _ room h => h.times_out_read room, fun _ _ _ _ _ _ room h => h.times_out_write room,
    fun _ _ _ _ run room inv port host buffer _ => State.times_out_drain run room inv port host buffer,
    fun _ _ _ _ _ h room inv port host buffer producer few flip snapshot =>
      h.times_out_selector room inv port host buffer producer few flip snapshot,
    fun _ _ run room inv port host => State.times_out_readBack run room inv port host⟩

end Sys2Proof.Machine
end

section
/-! SUPPORT for O15. The header of a completion after its body (R165). -/

namespace Sys2Proof.Machine

/-- A claim of the slot unit while the body is not all in memory is for a word of the body. -/
theorem State.slotClaim_bodyFirst {s t : State} {c : Completion} {rest : List Completion} (queue : s.slots.queue = c :: rest)
    (left : 0 < s.slots.writer.inBuffer ∨ s.slots.writer.queued < c.body.length) (claim : s.slotClaim = some t) :
    t.slots.queue = s.slots.queue ∧ t.slots.views = s.slots.views := by
  unfold State.slotClaim at claim
  rw [queue] at claim
  dsimp only at claim
  split at claim
  · cases claim
    have kept : ∀ (k : SlotId) (w : Nat) (d : Word) (p : Producer),
        (s.queueSlotWord k w d p).slots.queue = s.slots.queue ∧ (s.queueSlotWord k w d p).slots.views = s.slots.views := by
      intro k w d p
      rw [State.queueSlotWord_slots]
      exact ⟨rfl, rfl⟩
    exact kept _ _ _ _
  · next whole =>
    rw [if_neg (fun q => by omega)] at claim
    cases claim

/-! ### The last body word drains (R149, R165) -/

/-- A body entry as the slot unit queues it. -/
def Completion.entry (c : Completion) (i : Nat) : Entry :=
  { offset := slotOffset c.slot (i + 1), data := c.body.getD i 0, producer := .slotBody }

theorem Completion.entries_data (c : Completion) : ((List.range c.body.length).map c.entry).map Entry.data = c.body := by
  refine List.ext_getElem (by simp) fun i _ inside => ?_
  simp [Completion.entry, inside]

theorem Completion.entries_offset (c : Completion) :
    ((List.range c.body.length).map c.entry).map Entry.offset = (List.range c.body.length).map (fun i => slotOffset c.slot (i + 1)) := by
  rw [List.map_map]
  rfl

/-- The pass over the body has queued its first n words, and nothing else has been claimed. -/
structure State.Repeats (x u : State) (c : Completion) (n : Nat) : Prop where
  queue : u.slots.queue = [c]
  writer : u.slots.writer = { queued := n, inBuffer := n, dropped := false }
  view : u.view c.slot = x.view c.slot
  buffer : u.path.buffer = (List.range n).map c.entry
  quiet : u.HostQuiet
  events : u.events = x.events
  mesh : u.mesh = x.mesh
  hold : u.hold = x.hold
  within : n ≤ c.body.length

section
variable {x u v : State} {c : Completion} {n : Nat}

theorem State.Repeats.slotClaim (r : x.Repeats u c n) (left : n < c.body.length) :
    u.slotClaim = some ((u.queueSlotWord c.slot (n + 1) (c.body.getD n 0) .slotBody).setWriter
      { queued := n + 1, inBuffer := n + 1, dropped := false }) := by
  unfold State.slotClaim
  rw [r.queue, r.writer]
  exact if_pos left

theorem State.Repeats.of_word (r : x.Repeats u c n) (nonempty : 0 < c.body.length) (quiet : v.HostQuiet) (hold : v.hold = u.hold)
    (claim : u.slotClaim = some v) : x.Repeats v c (n + 1) := by
  rcases Nat.lt_or_eq_of_le r.within with left | whole
  · rw [r.slotClaim left, Option.some.injEq] at claim
    have slots := State.queueSlotWord_slots u c.slot (n + 1) (c.body.getD n 0) .slotBody
    subst claim
    refine ⟨(congrArg SlotUnit.queue slots).trans r.queue, rfl,
      ((State.view_congr slots _).trans (State.view_setShadow _ _ _ _ _)).trans r.view, ?_, quiet,
      (State.supersede_events _ _).trans r.events, ?_, ?_, left⟩
    · rw [List.range_succ, List.map_append, ← r.buffer]
      exact State.supersede_buffer _ _
    · exact (State.supersede_mesh _ _).trans r.mesh
    · exact hold.trans r.hold
  · unfold State.slotClaim at claim
    rw [r.queue, r.writer] at claim
    dsimp only at claim
    rw [if_neg (by omega), if_neg (fun q => by omega)] at claim
    cases claim

/-- With no claim left the body is queued whole. -/
theorem State.Repeats.whole (r : x.Repeats u c n) (fits : c.body.length ≤ 15) (noClaim : u.nextClaim = none) : n = c.body.length := by
  have within := r.within
  rcases (State.nextClaim_none_iff u).mp noClaim with full | ⟨noSlot, _⟩
  · rw [r.buffer, List.length_map, List.length_range] at full
    exact absurd (Nat.le_trans full within) (Nat.not_le.mpr (Nat.lt_of_le_of_lt fits (by decide)))
  · rcases Nat.lt_or_eq_of_le within with left | whole
    · rw [r.slotClaim left] at noSlot
      cases noSlot
    · exact whole

/-- A body whose pass begins again is queued whole, and waits in the buffer (R165). -/
theorem State.Repeats.settle (r : x.Repeats x c 0) (nonempty : 0 < c.body.length) (fits : c.body.length ≤ 15) (run : x.hold = .running)
    (noEvent : x.eventClaim = none) (noMesh : x.meshClaim = none) : x.Repeats x.settle c c.body.length := by
  obtain ⟨n, repeats⟩ := State.settle_induct (P := fun u => ∃ n, x.Repeats u c n) (fun u v ⟨n, repeats⟩ action => by
    have quiet := (u.nextAction_keeps v repeats.quiet action).2
    rcases u.nextAction_cases v action with claim | ⟨_, grant⟩
    · rcases u.nextClaim_cases v claim with slot | ⟨_, event | mesh⟩
      · exact ⟨n + 1, repeats.of_word nonempty quiet (congrArg (fun i => i.2.2.2.1) (u.nextClaim_keeps v claim).inner) slot⟩
      · rw [State.eventClaim_events repeats.events noEvent] at event
        cases event
      · rw [State.meshClaim_none_congr x u repeats.mesh noMesh] at mesh
        cases mesh
    · have k := u.nextGrant_quiet v repeats.quiet grant
      exact ⟨n, (congrArg SlotUnit.queue k.slots).trans repeats.queue, (congrArg SlotUnit.writer k.slots).trans repeats.writer,
        (State.view_congr k.slots _).trans repeats.view, k.buffer.trans repeats.buffer, quiet, k.events.trans repeats.events,
        k.mesh.trans repeats.mesh, (congrArg (fun i => i.2.2.2.1) k.inner).trans repeats.hold, repeats.within⟩)
    (s := x) ⟨0, r⟩
  have noClaim := ((State.nextAction_none_iff (repeats.hold.trans run)).mp x.settle_ends).1
  exact (repeats.whole fits noClaim) ▸ repeats

end

/-- The header of a completion whose body is in memory is queued, and its slot is the host's again (R165). -/
theorem State.settle_queuesHeader {x : State} {c : Completion} {kind : BitVec 6} {tag : BitVec 8} {taken : Bool} (run : x.hold = .running)
    (quiet : x.HostQuiet) (buffer : x.path.buffer = []) (queue : x.slots.queue = [c])
    (writer : x.slots.writer = { queued := c.body.length, inBuffer := 0, dropped := false })
    (view : x.view c.slot = .part kind tag taken .completing) (noEvent : x.eventClaim = none) (noMesh : x.meshClaim = none) :
    x.settle.slots = (x.queueHeader c [] kind tag).slots ∧ x.settle.path.buffer = (x.queueHeader c [] kind tag).path.buffer := by
  have claim : x.slotClaim = some (x.queueHeader c [] kind tag) := by
    unfold State.slotClaim
    rw [queue, writer]
    dsimp only
    rw [if_neg (Nat.lt_irrefl _), if_pos ⟨rfl, rfl⟩, view]
  have action : x.nextAction = some (x.queueHeader c [] kind tag) := by
    unfold State.nextAction State.nextClaim
    rw [if_neg (fun q => q run), buffer, if_neg (by decide), claim]
    rfl
  have quiet' := (x.nextAction_keeps _ quiet action).2
  rw [State.settle_of_nextAction action]
  refine ⟨State.settle_slots _ quiet' rfl, (State.settle_noClaims quiet' (State.slotClaim_none_of_queue _ rfl) ?_ ?_).1⟩
  · exact State.eventClaim_events (s := x) (State.supersede_events _ _) noEvent
  · exact State.meshClaim_none_congr x _ (State.supersede_mesh _ _) noMesh

theorem State.queueHeader_rules (x : State) (c : Completion) (kind : BitVec 6) (tag : BitVec 8) (buffer : x.path.buffer = []) :
    (x.queueHeader c [] kind tag).view c.slot = .host
      ∧ (x.queueHeader c [] kind tag).shadowWord c.slot 0 = completionHeader kind tag c.body.length c.result
      ∧ (x.queueHeader c [] kind tag).path.buffer =
          [{ offset := slotOffset c.slot 0, data := completionHeader kind tag c.body.length c.result, producer := .slotHeader }] := by
  refine ⟨State.view_setView_self _ _ _, ?_, ?_⟩
  · exact (State.shadowWord_congr (State.queueSlotWord_slots x c.slot 0 (completionHeader kind tag c.body.length c.result) .slotHeader)
      c.slot 0).trans (State.shadowWord_setShadow_self _ _ _ _)
  · refine (State.supersede_buffer _ _).trans ?_
    show x.path.buffer ++ _ = _
    rw [buffer]
    rfl

/-- The state in which the last body word has drained. -/
def State.bodyDrained (s : State) (e : Entry) (w : Progress) : State :=
  { s.freePort with
    mem := Memory.writeWord s.mem (wordBase (s.addrOf e.offset)) e.data 0xF
    path := { s.freePort.path with buffer := [] }
    slots := { s.slots with writer := w } }

theorem State.answerCycle_bodyDrained {s : State} {e : Entry} {left : Nat} {c : Completion} {dropped : Bool} (buffer : s.path.buffer = [e])
    (port : s.path.port = some { kind := .drain, left := left }) (producer : e.producer = .slotBody) (queue : s.slots.queue = [c])
    (writer : s.slots.writer = { queued := c.body.length, inBuffer := 1, dropped := dropped })
    (noEvent : s.eventClaim = none) (noMesh : s.meshClaim = none) :
    s.answerCycle = (s.bodyDrained e
      (if dropped then Initial.progress else { queued := c.body.length, inBuffer := 0, dropped := false })).settle := by
  rw [State.answerCycle_drains buffer port, producer]
  have freed : s.headLeft [] (Memory.writeWord s.mem (wordBase (s.addrOf e.offset)) e.data 0xF) = s.bodyDrained e s.slots.writer := by
    have noSlot : (s.bodyDrained e s.slots.writer).slotClaim = none := by
      unfold State.slotClaim
      rw [show (s.bodyDrained e s.slots.writer).slots = s.slots from rfl, queue, writer]
      dsimp only
      rw [if_neg (Nat.lt_irrefl _), if_neg (fun q => by cases q.1)]
    have noClaim : (s.bodyDrained e s.slots.writer).nextClaim = none := (State.nextClaim_none_iff _).mpr
      (.inr ⟨noSlot, State.eventClaim_events (s := s) rfl noEvent, State.meshClaim_none_congr s _ rfl noMesh⟩)
    show (s.bodyDrained e s.slots.writer).nextClaim.getD (s.bodyDrained e s.slots.writer) = _
    rw [noClaim]
    rfl
  rw [freed]
  show (State.bodyReport _ true).settle = _
  unfold State.bodyReport
  rw [show (s.bodyDrained e s.slots.writer).slots = s.slots from rfl, queue, writer]
  cases dropped with
  | false =>
    dsimp only
    rw [if_neg (fun q => nomatch q.2.2)]
    rfl
  | true =>
    dsimp only
    rw [if_pos ⟨rfl, rfl, rfl⟩]
    rfl

/-- Settles O15: the claims while a body is on its way, and the drain of its last word. -/
theorem headerAfterBody : Obligations.HeaderAfterBody := by
  refine ⟨fun s t c rest queue left claim => State.slotClaim_bodyFirst queue left claim,
    fun s e left c kind tag taken dropped run host buffer port _ producer queue nonempty fits writer view noEvent noMesh => ?_⟩
  rw [Option.isNone_iff_eq_none] at noEvent noMesh
  refine ⟨_, congrArg Host.Outcome.next (State.answerCycle_bodyDrained buffer port producer queue writer noEvent noMesh), ?_⟩
  cases dropped with
  | false =>
    refine ⟨fun _ => ?_, nofun⟩
    rw [if_neg (by decide)]
    have settled := State.settle_queuesHeader
      (x := s.bodyDrained e { queued := c.body.length, inBuffer := 0, dropped := false }) run (.inl host) rfl queue rfl view
      (State.eventClaim_events (s := s) rfl noEvent) (State.meshClaim_none_congr s _ rfl noMesh)
    obtain ⟨slots, settledBuffer⟩ := settled
    obtain ⟨host', header, entries⟩ := State.queueHeader_rules
      (s.bodyDrained e { queued := c.body.length, inBuffer := 0, dropped := false }) c kind tag rfl
    refine ⟨(State.view_congr slots _).trans host', ?_, (State.shadowWord_congr slots _ _).trans header, settledBuffer.trans entries⟩
    rw [slots]
    rfl
  | true =>
    refine ⟨nofun, fun _ => ?_⟩
    rw [if_pos rfl]
    have start : (s.bodyDrained e Initial.progress).Repeats (s.bodyDrained e Initial.progress) c 0 :=
      ⟨queue, rfl, rfl, rfl, .inl host, rfl, rfl, rfl, Nat.zero_le _⟩
    have repeats := start.settle nonempty fits run (State.eventClaim_events (s := s) rfl noEvent) (State.meshClaim_none_congr s _ rfl noMesh)
    refine ⟨repeats.view, repeats.queue, ?_, ?_⟩
    · rw [repeats.buffer, c.entries_data]
    · rw [repeats.buffer, c.entries_offset]

end Sys2Proof.Machine
end

section
/-! SUPPORT for O17. The slot unit's own checks: lengths, static ranges, refused posts and the NOP (R160, R162, R180). -/

namespace Sys2Proof.Machine

/-! ### Lengths and static ranges (12.4, R180) -/

theorem lengthOk_iff (kind : Kind) (body : List Word) : lengthOk kind body = true ↔
    match kind with
    | .nop | .thermalResume | .powerUp => body.length = 0
    | .axisHome | .axisStop | .orient | .powerDown => body.length = 1
    | .axisReport | .place | .keystone | .fanFloor | .fanReport | .noticeSetup => body.length = 2
    | .axisMoveTo | .axisMoveBy => body.length = 3
    | .corners => body.length = 4
    | .thresholds => body.length = 5
    | .axisSetup =>
      2 ≤ body.length ∧ body.length = 2 + ((List.range 9).filter (fun bit => (bodyWord body 2).getLsbD bit)).length
    | .fanCurve => 4 ≤ body.length ∧ body.length = 4 + (bodyWord body 4).toNat := by
  cases kind <;> simp only [lengthOk, Bool.and_eq_true, decide_eq_true_eq]
  exact Iff.rfl

theorem lowHalf_eq (w : Word) : lowHalf w = (w.extractLsb' 0 16).toInt := by
  rw [lowHalf, BitVec.setWidth_eq_extractLsb' (by decide)]

theorem highHalf_eq (w : Word) : highHalf w = (w.extractLsb' 16 16).toInt := rfl

theorem inRange_iff (lo hi i : Int) : inRange lo hi i = true ↔ lo ≤ i ∧ i ≤ hi := by simp [inRange]

theorem isFlag_iff (w : Word) : isFlag w = true ↔ w.toNat ≤ 1 := decide_eq_true_iff

theorem dispInRange_iff (w : Word) :
    dispInRange (dispOfWord w) = true
      ↔ -240 ≤ (w.extractLsb' 0 16).toInt ∧ (w.extractLsb' 0 16).toInt ≤ 240
        ∧ -180 ≤ (w.extractLsb' 16 16).toInt ∧ (w.extractLsb' 16 16).toInt ≤ 180 := by
  simp [dispInRange, dispOfWord, inRange_iff, lowHalf_eq, highHalf_eq, and_assoc]

/-- Temperatures strictly rise when each lies below every later one. -/
theorem risingPoints_iff (l : List (Int × Nat)) : risingPoints l = true ↔ l.Pairwise (fun p q => p.1 < q.1) := by
  refine ⟨risingPoints_pairwise, fun rises => ?_⟩
  induction l with
  | nil => rfl
  | cons p l ih =>
    cases l with
    | nil => rfl
    | cons q rest =>
      obtain ⟨first, later⟩ := List.pairwise_cons.mp rises
      rw [risingPoints, ih later, decide_eq_true (first q List.mem_cons_self)]
      rfl

theorem staticOk_corners (w1 w2 w3 w4 : Word) : staticOk .corners [w1, w2, w3, w4] = true
    ↔ dispInRange (dispOfWord w1) = true ∧ dispInRange (dispOfWord w2) = true ∧ dispInRange (dispOfWord w3) = true
      ∧ dispInRange (dispOfWord w4) = true := by
  simp [staticOk, cornersOfBody, bodyWord, and_assoc]

theorem staticOk_fanCurve (w1 w2 w3 w4 : Word) (points : List Word) :
    staticOk .fanCurve (w1 :: w2 :: w3 :: w4 :: points) = true
      ↔ w1.toNat ≤ 1 ∧ w2.toNat ≤ 2 ∧ w3.toNat ≤ 3 ∧ 1 ≤ w4.toNat ∧ w4.toNat ≤ 8
        ∧ (∀ w ∈ points, -80 ≤ (w.extractLsb' 0 16).toInt ∧ (w.extractLsb' 0 16).toInt ≤ 300 ∧ (w.extractLsb' 16 16).toNat ≤ 100)
        ∧ (points.map (fun w => (w.extractLsb' 0 16).toInt)).Pairwise (fun x y => x < y) := by
  have pts : curvePoints (w1 :: w2 :: w3 :: w4 :: points)
      = points.map (fun w => ((w.extractLsb' 0 16).toInt, (w.extractLsb' 16 16).toNat)) :=
    List.map_congr_left fun w _ => congrArg (·, (w.extractLsb' 16 16).toNat) (lowHalf_eq w)
  have words (n : Nat) : bodyWord (w1 :: w2 :: w3 :: w4 :: points) n = (w1 :: w2 :: w3 :: w4 :: points).getD (n - 1) 0 := rfl
  simp only [staticOk, pts, words, Bool.and_eq_true, risingPoints_iff, List.pairwise_map, List.all_eq_true, List.forall_mem_map,
    inRange_iff, isFlag_iff, decide_eq_true_iff, and_assoc, List.getD_cons_zero, List.getD_cons_succ, Nat.reduceSub]
  rfl

/-! ### The fields of AXIS_SETUP (R31, R180) -/

theorem byteNat_eq (w : Word) (k : Nat) : byteNat w k = (w.extractLsb' (8 * k) 8).toNat := by
  rw [byteNat, byteOf_eq_extractLsb']

theorem setupFieldOk_iff {bit : Nat} (inside : bit < 9) (w : Word) : setupFieldOk bit w = true ↔ SetupFieldInRange bit w := by
  have size := w.isLt
  match bit, inside with
  | 0, _ =>
    simp [setupFieldOk, SetupFieldInRange, BitVec.toNat_eq, BitVec.extractLsb'_toNat, Nat.shiftRight_eq_div_pow]
    omega
  | 1, _ => simp [setupFieldOk, SetupFieldInRange, inRange_iff]
  | 2, _ => simp [setupFieldOk, SetupFieldInRange]
  | 3, _ => simp [setupFieldOk, SetupFieldInRange]
  | 4, _ =>
    simp [setupFieldOk, SetupFieldInRange, byteNat_eq, BitVec.toNat_eq, BitVec.extractLsb'_toNat, Nat.shiftRight_eq_div_pow]
    omega
  | 5, _ =>
    simp [setupFieldOk, SetupFieldInRange, byteNat_eq, BitVec.toNat_eq, BitVec.extractLsb'_toNat, Nat.shiftRight_eq_div_pow]
    omega
  | 6, _ => simp [setupFieldOk, SetupFieldInRange, inRange_iff]
  | 7, _ =>
    simp [setupFieldOk, SetupFieldInRange, byteNat_eq, BitVec.toNat_eq, BitVec.extractLsb'_toNat, Nat.shiftRight_eq_div_pow, and_assoc]
  | 8, _ =>
    simp [setupFieldOk, SetupFieldInRange, byteNat_eq, BitVec.toNat_eq, BitVec.extractLsb'_toNat, Nat.shiftRight_eq_div_pow, and_assoc]

theorem setupFields_eq {body : List Word} (len : lengthOk .axisSetup body = true) :
    setupFields body = (setupBits (bodyWord body 2)).map (fun bit => (bit, setupWord body bit)) := by
  obtain ⟨_, length⟩ := (lengthOk_iff .axisSetup body).mp len
  have words (b : Nat) : (body.drop 2).getD ((List.range b).filter (fun b => (bodyWord body 2).getLsbD b)).length 0
      = setupWord body b := by
    have word (n : Nat) : (body.drop 2).getD n 0 = bodyWord body (3 + n) := by
      rw [bodyWord, show 3 + n - 1 = 2 + n by omega]
      simp [List.getD, List.getElem?_drop]
    exact word _
  unfold setupFields setupBits
  rw [zip_filter_range _ _ 0 9 (by rw [List.length_drop]; omega)]
  simp only [words]

theorem word_one_iff {w : Word} (flag : w.toNat ≤ 1) : ¬ w = 0 ↔ w = 1 := by
  rw [BitVec.toNat_eq, BitVec.toNat_eq]
  show ¬ w.toNat = 0 ↔ w.toNat = 1
  omega

theorem staticOk_axisSetup {body : List Word} (len : lengthOk .axisSetup body = true) : staticOk .axisSetup body = true ↔
    (bodyWord body 1).toNat ≤ 1 ∧ (bodyWord body 2).toNat < 512
      ∧ ((bodyWord body 2).getLsbD 8 = true → bodyWord body 1 = 1)
      ∧ ∀ bit, bit < 9 → (bodyWord body 2).getLsbD bit = true → SetupFieldInRange bit (setupWord body bit) := by
  have fields : (setupFields body).all (fun f => setupFieldOk f.1 f.2) = true
      ↔ ∀ bit, bit < 9 → (bodyWord body 2).getLsbD bit = true → SetupFieldInRange bit (setupWord body bit) := by
    rw [setupFields_eq len, List.all_map, List.all_eq_true]
    unfold setupBits
    simp only [List.mem_filter, List.mem_range, Function.comp_apply, and_imp]
    exact forall_congr' fun bit => forall_congr' fun inside => forall_congr' fun _ => setupFieldOk_iff inside _
  unfold staticOk
  simp only [Bool.and_eq_true, fields, isFlag_iff, decide_eq_true_iff, Bool.not_eq_true', Bool.and_eq_false_imp, and_assoc,
    decide_eq_false_iff_not]
  refine and_congr_right fun flag => and_congr_right fun _ => and_congr_left fun _ => ?_
  exact forall_congr' fun _ => word_one_iff flag

/-! ### Posts (R160, R162) -/

theorem exec_requestRow (s : State) (kind : Kind) (p : Post) : exec (requestRow kind p) s = .next (s.postRow kind.number p false) := by
  cases kind <;> rfl

/-- The header write reaches no word of the body. -/
theorem State.body_handed {s : State} {p : Post} {body : List Word} (kind : Kind) (len : p.len.toNat = body.length)
    (words : s.body p.slot body.length = body) : (s.taken kind p).body p.slot p.len.toNat = body := by
  have fits := p.len.isLt
  have same : (s.taken kind p).body p.slot p.len.toNat = s.body p.slot p.len.toNat := by
    refine List.map_congr_left fun i hi => ?_
    have inside := List.mem_range.mp hi
    unfold State.taken
    rw [State.shadowWord_setView]
    refine State.shadowWord_setShadow_other _ _ _ _ _ fun q => ?_
    have := congrArg Fin.val q
    simp only [Fin.val_zero] at this
    omega
  rw [same, len, words]

/-- A post that fails a check of the slot unit ends REFUSED with an empty body (R160, R180). -/
theorem State.Ready.postRow_refused {s : State} (h : s.Ready) {kind : Kind} {p : Post} {body : List Word} {code : ResCode}
    (len : p.len.toNat = body.length) (view : s.view p.slot = .host) (words : s.body p.slot body.length = body)
    (check : postCheck kind p.abort body = some code) :
    s.Answers (s.taken kind p) (s.postRow kind.number p false) kind p { cls := .refused, code := code } [] := by
  have refused : (s.taken kind p).checkAndRoute p.slot kind (postHeader kind.number p)
      = (s.taken kind p).complete p.slot (refusedWith code) [] := by
    unfold State.checkAndRoute
    rw [headerLen_post, headerAbort_post, State.body_handed kind len words]
    dsimp only
    rw [check]
  rw [s.postRow_ready kind.number p h view, State.takePost_handed, refused]
  exact State.Holds.answers ⟨rfl, rfl, rfl, rfl, rfl⟩ h _ [] (by decide)

theorem postCheck_refuses {kind : Kind} {abort : Bool} {body : List Word} {code : ResCode}
    (fails : (lengthOk kind body = false ∧ code = .badLength)
      ∨ (lengthOk kind body = true ∧ abort = true ∧ code = .badValue)
      ∨ (lengthOk kind body = true ∧ abort = false ∧ staticOk kind body = false ∧ code = .badValue)) :
    postCheck kind abort body = some code := by
  unfold postCheck
  rcases fails with ⟨len, rfl⟩ | ⟨len, flag, rfl⟩ | ⟨len, flag, static, rfl⟩
  · rw [len]; rfl
  · rw [len, flag]; rfl
  · rw [len, flag, static]; rfl

/-! ### A post of no kind (R160 step 1) -/

theorem kindOfCode_none (c : BitVec 6) (unknown : c = 0 ∨ 20 ≤ c.toNat) : kindOfCode c = none := by
  have all : ∀ c : BitVec 6, c = 0 ∨ 20 ≤ c.toNat → kindOfCode c = none := by decide
  exact all c unknown

theorem State.answerCycle_badKind {s : State} {k : SlotId} {data : Word} {left : Nat}
    (port : s.path.port = some { kind := .hostWrite (s.addrOf (slotOffset k 0)) data 0xF .post false, left := left })
    (unknown : data.extractLsb' 24 6 = 0 ∨ 20 ≤ (data.extractLsb' 24 6).toNat) :
    s.answerCycle = ((((s.written (s.addrOf (slotOffset k 0)) data 0xF).setShadow k 0 data).setView k
      (.part (headerKind data) (headerTag data) false .completing)).complete k (refusedWith .badKind) []).settle := by
  rw [State.answerCycle_eq port]
  have slot : slotOffset k 0 < 0x80 := slotOffset_lt k 0
  have offset : (s.written (s.addrOf (slotOffset k 0)) data 0xF).offsetOf (s.addrOf (slotOffset k 0)) = some (slotOffset k 0) :=
    s.offsetOf_addrOf _ (Nat.lt_trans slot (by decide))
  show ((s.written (s.addrOf (slotOffset k 0)) data 0xF).endHostWrite (s.addrOf (slotOffset k 0)) data 0xF .post false).settle = _
  unfold State.endHostWrite
  rw [offset]
  dsimp only
  rw [if_pos slot]
  unfold State.slotWriteEnd State.mergedWord
  rw [slotOfOffset_slotOffset k 0 (by decide), wordOfOffset_slotOffset k 0 (by decide), mergeWord_all]
  dsimp only
  rw [if_neg (by decide)]
  unfold State.takePost
  rw [show ((s.written (s.addrOf (slotOffset k 0)) data 0xF).setShadow k ⟨0, by decide⟩ data).shadowWord k 0 = data from
    State.shadowWord_setShadow_self _ _ _ _]
  dsimp only
  rw [kindOfCode_none (headerKind data) unknown]
  rfl

/-- A post whose kind code names no kind ends REFUSED/BAD_KIND, and the slot is the host's again (R160 step 1). -/
theorem badKindPost {s : State} {k : SlotId} {data : Word} {left : Nat}
    (h : s.Awaiting (.hostWrite (s.addrOf (slotOffset k 0)) data 0xF .post false) left)
    (writer : s.slots.writer = Initial.progress) (unknown : data.extractLsb' 24 6 = 0 ∨ 20 ≤ (data.extractLsb' 24 6).toNat) :
    ∃ t, exec .memoryAnswer s = .next t ∧ t.view k = .host ∧ t.slots.queue = []
      ∧ t.path.buffer =
          [{ offset := slotOffset k 0
             data := completionHeader (data.extractLsb' 24 6) (data.extractLsb' 16 8) 0 { cls := .refused, code := .badKind }
             producer := .slotHeader }]
      ∧ s.SameTime t ∧ s.SameLens t ∧ s.SameCooling t ∧ s.SameMesh t ∧ s.SameNews t := by
  have eq := State.answerCycle_badKind h.port unknown
  obtain ⟨_, noEvent, noMesh⟩ := h.noClaims
  have taken := State.view_setView_self ((s.written (s.addrOf (slotOffset k 0)) data 0xF).setShadow k 0 data) k
    (.part (headerKind data) (headerTag data) false .completing)
  have blocks : ∀ y, y = ((s.written (s.addrOf (slotOffset k 0)) data 0xF).setShadow k 0 data).setView k
      (.part (headerKind data) (headerTag data) false .completing) →
      y.hold = s.hold ∧ y.path = { s.path with port := none, host := none, reply := some .writeDone } ∧ y.mesh = s.mesh
        ∧ y.events = s.events ∧ y.slots.queue = [] ∧ y.slots.writer = Initial.progress
        ∧ s.SameTime y ∧ s.SameLens y ∧ s.SameCooling y ∧ y.notice = s.notice := by
    intro y e
    subst e
    exact ⟨rfl, rfl, rfl, rfl, h.queue, writer, ⟨rfl, rfl, rfl⟩, ⟨rfl, rfl, rfl⟩, ⟨rfl, rfl, rfl⟩, rfl⟩
  generalize ((s.written (s.addrOf (slotOffset k 0)) data 0xF).setShadow k 0 data).setView k
      (.part (headerKind data) (headerTag data) false .completing) = y at *
  obtain ⟨hold, path, mesh, events, queue, progress, time, lens, cooling, notice⟩ := blocks y rfl
  obtain ⟨queued, kept⟩ := State.complete_queue y k (refusedWith .badKind) []
  have only := State.complete_eq y k (refusedWith .badKind) []
  have view' := State.view_setHolder_self .completing taken
  change (y.complete k (refusedWith .badKind) []).view k = _ at view'
  generalize y.complete k (refusedWith .badKind) [] = x at *
  have same : x.hold = y.hold ∧ x.path = y.path ∧ x.mesh = y.mesh ∧ x.events = y.events ∧ y.SameTime x ∧ y.SameLens x
      ∧ y.SameCooling x ∧ x.notice = y.notice := by
    rw [only]
    exact ⟨rfl, rfl, rfl, rfl, ⟨rfl, rfl, rfl⟩, ⟨rfl, rfl, rfl⟩, ⟨rfl, rfl, rfl⟩, rfl⟩
  obtain ⟨hold', path', mesh', events', time', lens', cooling', notice'⟩ := same
  have noMesh' := State.meshClaim_none_congr s x (mesh'.trans mesh) noMesh
  have quiet : x.HostQuiet := .inl (by rw [path', path])
  have buffer : x.path.buffer = [] := by
    rw [path', path]
    exact h.buffer
  obtain ⟨slots, settledBuffer⟩ := State.settle_queuesHeader (c := { slot := k, result := refusedWith .badKind, body := [] })
    (hold'.trans (hold.trans h.running)) quiet buffer (by rw [queued, queue]; rfl) (kept.trans progress) view'
    (State.eventClaim_events (events'.trans events) noEvent) noMesh'
  obtain ⟨host, _, entries⟩ := x.queueHeader_rules { slot := k, result := refusedWith .badKind, body := [] } (headerKind data) (headerTag data)
    buffer
  obtain ⟨_, time'', lens'', cooling'', notice'', p, c, lost, overrun⟩ := (State.settle_keeps x quiet).blocks
  refine ⟨_, congrArg Host.Outcome.next eq, (State.view_congr slots k).trans host, by rw [slots]; rfl, settledBuffer.trans entries,
    (time.trans time').trans time'', (lens.trans lens').trans lens'', (cooling.trans cooling').trans cooling'',
    (State.settle_mesh x quiet noMesh').trans (mesh'.trans mesh), notice''.trans (notice'.trans notice), ?_⟩
  rw [p, c, lost, overrun, events', events]
  exact ⟨rfl, rfl, rfl, rfl⟩

/-- Settles O17: the refused post, the post of no kind, the NOP, and the lengths and ranges of every kind. -/
theorem slotUnitPosts : Obligations.SlotUnitPosts := by
  refine ⟨fun s kind p body code h len view words fails => ?_, fun s k data left h _ writer unknown => badKindPost h writer unknown, fun s p h posted => ?_,
    lengthOk_iff, fun w1 w2 w3 w4 w5 => ?_, fun body len => staticOk_axisSetup len⟩
  · have answers := h.postRow_refused len view words (postCheck_refuses fails)
    obtain ⟨_, time, lens, cooling, news⟩ := answers.keeps.blocks
    exact ⟨_, exec_requestRow s kind p, answers.handsOver, answers.ends, time, lens, cooling, answers.mesh, news⟩
  · have answers := (State.Holds.answers (x := s.taken .nop p) ⟨rfl, rfl, rfl, rfl, rfl⟩ h doneOk [] (by decide))
    rw [show (s.taken .nop p).complete p.slot doneOk [] = (s.taken .nop p).route p.slot .nop [] from rfl,
      ← State.postRow_routed .nop h posted rfl] at answers
    obtain ⟨_, time, lens, cooling, news⟩ := answers.keeps.blocks
    exact ⟨_, rfl, answers.handsOver, answers.ends, time, lens, cooling, answers.mesh, news⟩
  · dsimp only
    refine ⟨⟨rfl, rfl, rfl⟩, ?_⟩
    simp only [staticOk_corners, dispInRange_iff, staticOk_fanCurve]
    simp only [staticOk, bodyWord, isFlag_iff, inRange_iff, Bool.and_eq_true, decide_eq_true_eq, Config.codeMin, Config.codeMax, and_assoc,
      List.getD_cons_zero, List.getD_cons_succ, Nat.reduceSub]
    simp only [true_and, implies_true]

end Sys2Proof.Machine
end

section
/-! SUPPORT for O18. Aborts that the slot unit takes (R12, R54, R77, R158, R163, R164). -/

namespace Sys2Proof.Machine

/-! ### The header write of an abort (R158, R159) -/

/-- Memory has answered the header write that is on the port, and the shadow has its word. -/
def State.headerWritten (s : State) (k : SlotId) (header : Word) : State :=
  (s.written (s.addrOf (slotOffset k 0)) header 0xF).setShadow k 0 header

theorem State.answerCycle_abort {s : State} {k : SlotId} {header : Word} {left : Nat}
    (port : s.path.port = some { kind := .hostWrite (s.addrOf (slotOffset k 0)) header 0xF .abort false, left := left }) :
    s.answerCycle = ((s.headerWritten k header).takeAbort k).settle := by
  rw [State.answerCycle_eq port]
  have slot : slotOffset k 0 < 0x80 := slotOffset_lt k 0
  have offset : (s.written (s.addrOf (slotOffset k 0)) header 0xF).offsetOf (s.addrOf (slotOffset k 0)) = some (slotOffset k 0) :=
    s.offsetOf_addrOf _ (Nat.lt_trans slot (by decide))
  show ((s.written (s.addrOf (slotOffset k 0)) header 0xF).endHostWrite (s.addrOf (slotOffset k 0)) header 0xF .abort false).settle = _
  unfold State.endHostWrite
  rw [offset]
  dsimp only
  rw [if_pos slot]
  unfold State.slotWriteEnd State.mergedWord
  rw [slotOfOffset_slotOffset k 0 (by decide), wordOfOffset_slotOffset k 0 (by decide), mergeWord_all]
  rfl

/-- An abort's header on the port is seen as the abort row's (log 8). -/
theorem State.headerOnPort_abort {s : State} {p : Post} {code : BitVec 6} {left : Nat}
    (port : s.path.port = some { kind := (.hostWrite (s.addrOf (slotOffset p.slot 0))
      (postHeader code { p with abort := true }) 0xF .abort false), left := left }) : s.headerOnPort p.slot code true = true := by
  have offset := s.offsetOf_addrOf (slotOffset p.slot 0) (Nat.lt_trans (slotOffset_lt p.slot 0) (by decide))
  unfold State.headerOnPort
  rw [port]
  simp only [State.mergedWord, mergeWord_all, headerKind_post, headerAbort_post, offset, decide_true, beq_self_eq_true, Bool.and_self,
    if_true]

theorem State.classifyWrite_abort {s : State} {p : Post} {code kind : BitVec 6} {taken : Bool} {h : Holder} (other : kind ≠ 17)
    (view : s.view p.slot = .part kind p.tag taken h) :
    s.classifyWrite (slotOffset p.slot 0) (postHeader code { p with abort := true }) 0xF = some .abort := by
  have slot : slotOffset p.slot 0 < 0x80 := slotOffset_lt p.slot 0
  have header : slotOffset p.slot 0 % 16 = 0 := by
    simp only [slotOffset]
    omega
  have notPower : (kind != Kind.powerDown.number) = true := bne_iff_ne.mpr other
  unfold State.classifyWrite State.slotClass
  rw [if_pos slot, State.mergedWord, mergeWord_all, slotOfOffset_slotOffset p.slot 0 (by decide), view]
  dsimp only
  rw [decide_eq_true header, headerOwner_post, headerAbort_post, headerTag_post, notPower, if_pos (by simp)]

/-- The state in which the header write has been granted. -/
def State.headerGranted (s : State) (p : Post) (code : BitVec 6) : State :=
  State.beginCycle { s with path := { s.path with host := some (s.postAccess code p), streak := 0 } }
    (.hostWrite (s.addrOf (slotOffset p.slot 0)) (postHeader code p) 0xF .abort false)

/-- Out of a ready state the host's abort is granted at once, and memory answers it. -/
theorem State.Ready.postRow_abort {s : State} (h : s.Ready) {p : Post} {code kind : BitVec 6} {taken : Bool} {g : Holder}
    (other : kind ≠ 17) (view : s.view p.slot = .part kind p.tag taken g) :
    s.postRow code { p with abort := true } true
      = (((s.headerGranted { p with abort := true } code).headerWritten p.slot (postHeader code { p with abort := true })).takeAbort
          p.slot).settle := by
  have slot : slotOffset p.slot 0 < 0x80 := slotOffset_lt p.slot 0
  have offset := s.offsetOf_addrOf (slotOffset p.slot 0) (Nat.lt_trans slot (by decide))
  have notLive : isLive (slotOffset p.slot 0) = false := by
    simp only [isLive, Bool.and_eq_false_iff, decide_eq_false_iff_not]
    omega
  have classified := State.classifyWrite_abort (s := s.granting (.write (s.addrOf (slotOffset p.slot 0)) (postHeader code { p with abort := true }) 0xF))
    (code := code) other view
  have idle : s.headerOnPort p.slot code true = false := by
    unfold State.headerOnPort
    rw [h.port]
  have access : s.hostAccess (s.postAccess code { p with abort := true }) = s.headerGranted { p with abort := true } code := by
    unfold State.postAccess
    rw [State.hostAccess_presented h.host,
      State.arrive_write_waits (fun o e => Option.some.inj (offset.symm.trans e) ▸ notLive), h.settle_presented,
      State.grantHost_write (s := s.granting _) (act := .abort) (.inr ⟨_, offset, by omega, by omega, classified⟩)]
    exact h.settle_busy (Option.some_ne_none _) h.buffer rfl rfl rfl rfl
  unfold State.postRow
  rw [idle, access]
  dsimp only
  rw [if_neg (by decide), if_pos ⟨h.host, State.headerOnPort_abort (s := s.headerGranted { p with abort := true } code) rfl⟩,
    State.answerCycle_abort (s := s.headerGranted { p with abort := true } code) rfl]

/-! ### The taken abort (R163) -/

/-- A header write has been taken for a slot: the header stands in memory, the slot has a new view, and nothing else has moved but
the port. -/
structure State.HeaderTaken (s v : State) (k : SlotId) (header : Word) (x : SlotView) : Prop where
  view : v.view k = x
  others : ∀ j, j ≠ k → v.view j = s.view j
  mem : s.TakesHeader v k header
  queue : v.slots.queue = s.slots.queue
  writer : v.slots.writer = s.slots.writer
  port : v.path.port = none
  host : v.path.host = none
  buffer : v.path.buffer = s.path.buffer
  selector : v.path.selPending = s.path.selPending
  time : s.SameTime v
  lens : s.SameLens v
  cooling : s.SameCooling v
  mesh : v.mesh = s.mesh
  notice : v.notice = s.notice
  events : v.events = s.events

/-- The abort has been taken for a slot, which its holder has not acted on. -/
abbrev State.AbortTaken (s v : State) (p : Post) (code kind : BitVec 6) (h : Holder) : Prop :=
  s.HeaderTaken v p.slot (postHeader code { p with abort := true }) (.part kind p.tag true h)

theorem State.headerWritten_view (s : State) (k j : SlotId) (header : Word) : (s.headerWritten k header).view j = s.view j :=
  State.view_setShadow _ _ _ _ _

/-- The slot's request had not been aborted before: its holder acts on the abort. -/
theorem State.takeAbort_first {s : State} {k : SlotId} {kind : BitVec 6} {tag : BitVec 8} {h : Holder}
    (view : s.view k = .part kind tag false h) : s.takeAbort k = (s.setView k (.part kind tag true h)).abortHolder k h := by
  unfold State.takeAbort
  rw [view]
  rfl

/-- Nothing but the path differs, and of that neither the region nor the buffer. -/
structure State.PortOnly (s w : State) : Prop where
  eq : w = { s with path := w.path }
  region : w.path.region = s.path.region
  buffer : w.path.buffer = s.path.buffer
  selector : w.path.selPending = s.path.selPending

theorem State.PortOnly.headerTaken {s w : State} (only : s.PortOnly w) (k : SlotId) (header : Word) (x : SlotView) :
    s.HeaderTaken ((w.headerWritten k header).setView k x) k header x := by
  have addr : w.addrOf (slotOffset k 0) = s.addrOf (slotOffset k 0) := State.addrOf_region only.region _
  have blocks : w.mem = s.mem ∧ w.slots = s.slots ∧ s.SameTime w ∧ s.SameLens w ∧ s.SameCooling w ∧ w.mesh = s.mesh
      ∧ w.notice = s.notice ∧ w.events = s.events := by
    rw [only.eq]
    exact ⟨rfl, rfl, ⟨rfl, rfl, rfl⟩, ⟨rfl, rfl, rfl⟩, ⟨rfl, rfl, rfl⟩, rfl, rfl, rfl⟩
  obtain ⟨mem, slots, time, lens, cooling, mesh, notice, events⟩ := blocks
  refine ⟨State.view_setView_self _ _ _, fun j apart => ?_, ?_, ?_, ?_, rfl, rfl,
    only.buffer, only.selector, time, lens, cooling, mesh, notice, events⟩
  · exact ((State.view_setView_other _ _ _ _ apart).trans (State.headerWritten_view _ _ _ _)).trans (State.view_congr slots j)
  · show Memory.writeWord w.mem (wordBase (w.addrOf (slotOffset k 0))) _ 0xF = _
    rw [mem, addr]
    rfl
  · show w.slots.queue = _
    rw [slots]
  · show w.slots.writer = _
    rw [slots]

theorem State.Ready.takesAbort {s : State} (ready : s.Ready) {p : Post} {code kind : BitVec 6} {h : Holder} (other : kind ≠ 17)
    (view : s.view p.slot = .part kind p.tag false h) :
    ∃ v, s.AbortTaken v p code kind h ∧ exec (.abort code p) s = .next (v.abortHolder p.slot h).settle := by
  have eq := ready.postRow_abort (code := code) other view
  have only : s.PortOnly (s.headerGranted { p with abort := true } code) := ⟨rfl, rfl, rfl, rfl⟩
  have view' : (s.headerGranted { p with abort := true } code).view p.slot = .part kind p.tag false h := view
  generalize s.headerGranted { p with abort := true } code = w at *
  rw [State.takeAbort_first ((State.headerWritten_view _ _ _ _).trans view')] at eq
  exact ⟨_, only.headerTaken _ _ _, congrArg Host.Outcome.next eq⟩

/-- Axes, placement, budget, mesh generator and slots alone differ: what the holders of requests reach. -/
def State.HolderOnly (v x : State) : Prop :=
  x = { v with axes := x.axes, placement := x.placement, budget := x.budget, mesh := x.mesh, slots := x.slots }

section
variable {s v x : State} {p : Post} {code kind : BitVec 6} {h : Holder}

/-- What a taken abort leaves as it was, once its holder has acted and the part has settled. -/
structure State.AbortSettles (s x : State) (p : Post) (code : BitVec 6) : Prop where
  quiet : x.HostQuiet
  header : s.TakesHeader x.settle p.slot (postHeader code { p with abort := true })
  lens : x.SameLens x.settle
  mesh : x.settle.mesh = x.mesh
  time : s.SameTime x.settle
  cooling : s.SameCooling x.settle
  news : s.SameNews x.settle

theorem State.AbortTaken.settles (a : s.AbortTaken v p code kind h) (only : v.HolderOnly x) (noMesh : x.meshClaim = none) :
    s.AbortSettles x p code := by
  have blocks : x.path = v.path ∧ x.mem = v.mem ∧ x.events = v.events ∧ x.notice = v.notice ∧ v.SameTime x ∧ v.SameCooling x := by
    rw [only]
    exact ⟨rfl, rfl, rfl, rfl, ⟨rfl, rfl, rfl⟩, rfl, rfl, rfl⟩
  obtain ⟨path, mem, events, notice, time, cooling⟩ := blocks
  have quiet : x.HostQuiet := .inl (by rw [path]; exact a.host)
  obtain ⟨mem', time', lens', cooling', notice', p', c', lost', overrun'⟩ := (State.settle_keeps x quiet).blocks
  refine ⟨quiet, mem'.trans (mem.trans a.mem), lens', State.settle_mesh x quiet noMesh, (a.time.trans time).trans time',
    (a.cooling.trans cooling).trans cooling', notice'.trans (notice.trans a.notice), ?_⟩
  rw [p', c', lost', overrun', events, a.events]
  exact ⟨rfl, rfl, rfl, rfl⟩

/-- A request that its abort ends at once waits on the completion queue for its body (R164, R165). -/
theorem State.AbortTaken.ends (ready : s.Ready) (a : s.AbortTaken v p code kind h) {y : State} (only : v.HolderOnly y)
    (slots : y.slots = v.slots) (noMesh : y.meshClaim = none) (r : Result) {body : List Word} (nonempty : body ≠ []) :
    s.AbortSettles (y.complete p.slot r body) p code
      ∧ (y.complete p.slot r body).settle.slots.queue = [{ slot := p.slot, result := r, body := body }]
      ∧ (y.complete p.slot r body).settle.view p.slot = .part kind p.tag true .completing := by
  have completed := State.complete_eq y p.slot r body
  have settles : s.AbortSettles (y.complete p.slot r body) p code := by
    refine a.settles ?_ (State.meshClaim_none_congr y _ (State.complete_mesh _ _ _ _) noMesh)
    unfold State.HolderOnly at only ⊢
    rw [completed, only]
  obtain ⟨queued, writer⟩ := State.complete_queue y p.slot r body
  rw [slots, a.queue, ready.queue] at queued
  have waits := State.settle_headWaits queued nonempty (by rw [writer, slots, a.writer, ready.writer]) settles.quiet
  exact ⟨settles, waits.queue.trans queued,
    (waits.view p.slot).trans (State.view_setHolder_self .completing ((State.view_congr slots _).trans a.view))⟩

/-- A request that stays with its holder (R12, R55, R164). -/
theorem State.AbortTaken.stays (ready : s.Ready) (a : s.AbortTaken v p code kind h) (lens : v.LensOnly x) :
    s.AbortSettles x p code ∧ x.settle.slots.queue = [] ∧ x.settle.view p.slot = .part kind p.tag true h := by
  obtain ⟨_, slots, _, _, mesh, _⟩ := lens.blocks
  have settles : s.AbortSettles x p code := by
    refine a.settles ?_ (State.meshClaim_none_congr s x (mesh.trans a.mesh) (ready.noMesh rfl))
    unfold State.LensOnly at lens
    unfold State.HolderOnly
    rw [lens]
  have queue : x.slots.queue = [] := by rw [slots, a.queue, ready.queue]
  have settled := State.settle_slots x settles.quiet queue
  exact ⟨settles, by rw [settled]; exact queue, (State.view_congr settled _).trans ((State.view_congr slots _).trans a.view)⟩

end

/-! ### Aborts on an axis (R53 to R55) -/

theorem State.axis_of_axes {s t : State} (axes : t.axes = s.axes) (a : AxisId) : t.axis a = s.axis a :=
  congrArg (fun q : PerAxis Axis => q.get a) axes

theorem State.Stopped.of_axes {s v t : State} {a : AxisId} {c : ResCode} (axes : v.axes = s.axes) (h : v.Stopped t a c) : s.Stopped t a c := by
  unfold State.Stopped at h ⊢
  rwa [State.axis_of_axes axes] at h

theorem State.Stopped.of_settled {s x t : State} {a : AxisId} {c : ResCode} (axes : t.axes = x.axes) (h : s.Stopped x a c) : s.Stopped t a c := by
  unfold State.Stopped at h ⊢
  rwa [State.axis_of_axes axes]

/-- An abort of a request that waits on an axis: on its queue, or for its stop (R54, R55). -/
theorem State.AbortTaken.ends_waiting {s v : State} {p : Post} {code kind : BitVec 6} {h : Holder} (ready : s.Ready)
    (taken : s.AbortTaken v p code kind h) (a : AxisId) (x : Axis) (counter : x.counter = (s.axis a).counter) :
    let t := ((v.setAxis a x).complete p.slot (endedWith .aborted) ((v.setAxis a x).positionBody a)).settle
    s.TakesHeader t p.slot (postHeader code { p with abort := true })
      ∧ t.slots.queue = [{ slot := p.slot, result := { cls := .ended, code := .aborted }, body := [(s.axis a).counter] }]
      ∧ t.view p.slot = .part kind p.tag true .completing ∧ t.axis a = x ∧ t.axis (otherAxis a) = s.axis (otherAxis a)
      ∧ t.placement = s.placement ∧ s.SameTime t ∧ s.SameCooling t ∧ s.SameMesh t ∧ s.SameNews t := by
  intro t
  have body : (v.setAxis a x).positionBody a = [(s.axis a).counter] := by
    unfold State.positionBody
    rw [State.axis_setAxis_self, counter]
  obtain ⟨settles, queue, view⟩ := taken.ends ready (y := v.setAxis a x) rfl rfl
    (State.meshClaim_none_congr s _ taken.mesh (ready.noMesh rfl)) (endedWith .aborted) (List.cons_ne_nil (s.axis a).counter [])
  have only := State.complete_eq (v.setAxis a x) p.slot (endedWith .aborted) [(s.axis a).counter]
  rw [← body] at settles queue view only
  obtain ⟨axes, placement, _⟩ := settles.lens
  have axes' : t.axes = (v.setAxis a x).axes := axes.trans (by rw [only])
  have placement' : t.placement = v.placement := placement.trans (by rw [only]; rfl)
  refine ⟨settles.header, queue.trans (by rw [body]; rfl), view, ?_, ?_, placement'.trans taken.lens.2.1, settles.time, settles.cooling,
    settles.mesh.trans (by rw [only]; exact taken.mesh), settles.news⟩
  · rw [State.axis_of_axes axes', State.axis_setAxis_self]
  · rw [State.axis_of_axes axes', State.axis_setAxis_other _ _ _ _ (otherAxis_ne a), State.axis_of_axes taken.lens.1]

/-! ### Aborts of the placement's reference (R10, R12) -/

theorem State.stopPlacementMove_stops {s : State} {a : AxisId} (runs : (s.axis a).runsPlacement = true)
    (active : (s.axis a).st.active = true) : (s.stopPlacementMove a).axis a = (s.axis a).toStopping (endedWith .stopped) := by
  unfold State.stopPlacementMove
  rw [if_pos runs, State.stopCause_active active]
  exact (s.axis_enterStopping a _).1

theorem State.stopPlacementMove_idle {s : State} {a : AxisId}
    (still : ¬ ((s.axis a).runsPlacement = true ∧ (s.axis a).st.active = true)) : s.stopPlacementMove a = s := by
  unfold State.stopPlacementMove
  split
  · next runs => exact State.stopCause_still (Bool.eq_false_iff.mpr fun active => still ⟨runs, active⟩) _
  · rfl

/-- An axis that does not drive is left alone by what stops the other's move. -/
theorem State.stopPlacementMove_standing {s : State} {a b : AxisId} (other : b ≠ a) (still : (s.axis b).st.driving = false) :
    (s.stopPlacementMove a).axis b = s.axis b := by
  unfold State.stopPlacementMove
  split
  · exact s.axis_stopCause_still _ other still
  · rfl

theorem State.stopPlacementMove_lens (s : State) (a : AxisId) : s.LensOnly (s.stopPlacementMove a) :=
  .ite (s.stopCause_lens a .stopped) rfl

theorem State.failPlacement_lens (s : State) (c : ResCode) : s.LensOnly (s.failPlacement c) :=
  (show s.LensOnly (s.failed c) from rfl).trans (((s.failed c).stopPlacementMove_lens .h).trans (State.stopPlacementMove_lens _ .v))

/-- A failing placement stops the placement moves that run, and reaches nothing else but the drive (R10). -/
theorem State.failPlacement_axis (s : State) (c : ResCode) (a : AxisId) :
    ((s.axis a).runsPlacement = true → (s.axis a).st.active = true → s.Stopped (s.failPlacement c) a .stopped)
      ∧ (¬ ((s.axis a).runsPlacement = true ∧ (s.axis a).st.active = true) → (s.axis a).SameButDrive ((s.failPlacement c).axis a)) := by
  cases a with
  | h =>
    have other : AxisId.h ≠ .v := by decide
    refine ⟨fun runs active => Axis.toStopping_stopped (x := s.axis .h) (.refl _) ?_, fun still => ?_⟩
    · have first : ((s.failed c).stopPlacementMove .h).axis .h = (s.axis .h).toStopping (endedWith .stopped) :=
        State.stopPlacementMove_stops (s := s.failed c) runs active
      exact (State.stopPlacementMove_standing other (congrArg (fun x : Axis => x.st.driving) first)).trans first
    · show (s.axis .h).SameButDrive ((((s.failed c).stopPlacementMove .h).stopPlacementMove .v).axis .h)
      rw [State.stopPlacementMove_idle (s := s.failed c) (a := .h) still]
      exact (s.failed c).stopPlacementMove_other other
  | v =>
    have same : (s.axis .v).SameButDrive (((s.failed c).stopPlacementMove .h).axis .v) :=
      (s.failed c).stopPlacementMove_other (by decide)
    refine ⟨fun runs active => Axis.toStopping_stopped same ?_, fun still => ?_⟩
    · exact State.stopPlacementMove_stops (same.runsPlacement.trans runs) (same.active.trans active)
    · show (s.axis .v).SameButDrive ((((s.failed c).stopPlacementMove .h).stopPlacementMove .v).axis .v)
      rw [State.stopPlacementMove_idle (s := (s.failed c).stopPlacementMove .h) (a := .v)
        (by rw [same.runsPlacement, same.active]; exact still)]
      exact same

theorem State.failPlacement_runs (s : State) (c : ResCode) (a : AxisId) :
    ((s.failPlacement c).axis a).runsPlacement = (s.axis a).runsPlacement := by
  obtain ⟨stopped, kept⟩ := s.failPlacement_axis c a
  by_cases both : (s.axis a).runsPlacement = true ∧ (s.axis a).st.active = true
  · obtain ⟨_, _, moves⟩ := stopped both.1 both.2
    unfold Axis.runsPlacement
    cases move : (s.axis a).move with
    | none =>
      have := both.1
      unfold Axis.runsPlacement at this
      rw [move] at this
      cases this
    | some m =>
      obtain ⟨n, move', kind, _⟩ := moves m move
      rw [move']
      dsimp only
      rw [kind]
  · exact (kept both).runsPlacement

theorem State.failPlacement_placement (s : State) (c : ResCode) :
    (s.failPlacement c).placement = { s.placement with status := .failed, firstFailure := some c } := by
  have stop (t : State) (a : AxisId) : (t.stopPlacementMove a).placement = t.placement := by
    unfold State.stopPlacementMove
    split
    · unfold State.stopCause
      split
      · rfl
      · rfl
    · rfl
  show (((s.failed c).stopPlacementMove .h).stopPlacementMove .v).placement = _
  rw [stop, stop]
  rfl

/-- An abort in MOVING while a placement move runs: the moves are stopped, and the reference stays (R12). -/
theorem State.placementAbort_moving {s : State} (moving : s.placement.status = .moving) (runs : s.anyPlacementMove = true) :
    s.placementAbort = s.failPlacement .aborted := by
  unfold State.placementAbort
  rw [moving]
  refine if_neg (fun q => ?_)
  have any := q.2
  rw [State.anyPlacementMove_eq _ .h, State.failPlacement_runs, State.failPlacement_runs, ← State.anyPlacementMove_eq, runs] at any
  cases any

/-- A failure in APPLYING ends the reference at once (R10, R12). -/
theorem State.failApplying_eq {s : State} {k : SlotId} (ref : s.placement.ref = some k) (c : ResCode) :
    s.failApplying c
      = State.complete { s with placement := { s.placement with status := .failed, ref := none } } k (endedWith c) s.positions := by
  unfold State.failApplying
  rw [ref]
  unfold State.completeRef
  dsimp only
  rw [State.complete_eq, State.complete_eq { s with placement := { s.placement with status := .failed, ref := none } },
    State.complete_slots_congr (s := s) (t := { s with placement := { s.placement with status := .failed, ref := none } }) rfl]

/-! ### Aborts that change nothing (R158, R163) -/

theorem State.setView_view {s : State} {k : SlotId} {x : SlotView} (same : s.view k = x) : s.setView k x = s := by
  subst same
  simp [State.setView, State.view]

/-- The slot unit's claim depends on the queue, the progress, and on which slots are the host's. -/
theorem State.slotClaim_none_of_hosts {s t : State} (queue : t.slots.queue = s.slots.queue) (writer : t.slots.writer = s.slots.writer)
    (hosts : ∀ k, s.view k = .host → t.view k = .host) (none_ : s.slotClaim = none) : t.slotClaim = none := by
  unfold State.slotClaim at none_ ⊢
  rw [queue, writer]
  cases q : s.slots.queue with
  | nil => rfl
  | cons c rest =>
    rw [q] at none_
    dsimp only at none_ ⊢
    split at none_
    · cases none_
    · next whole =>
      rw [if_neg whole]
      split at none_
      · next drained =>
        rw [if_pos drained]
        cases view : s.view c.slot with
        | host => rw [hosts c.slot view]
        | part kind tag taken h => rw [view] at none_; cases none_
      · next waits => rw [if_neg waits]

/-- With no claim left, or no room for one, a grant moves the port alone. -/
theorem State.settle_noClaim {x : State} (quiet : x.HostQuiet) (noClaim : x.nextClaim = none) :
    x.settle.path.buffer = x.path.buffer ∧ x.settle.slots = x.slots ∧ x.settle.events = x.events ∧ x.settle.mesh = x.mesh := by
  have all := State.settle_induct (P := fun u => u.HostQuiet ∧ u.path.buffer = x.path.buffer ∧ u.slots = x.slots ∧ u.events = x.events
    ∧ u.mesh = x.mesh) ?_ ⟨quiet, rfl, rfl, rfl, rfl⟩
  · exact all.2
  · rintro u v ⟨hostQuiet, buffer, slots, events, mesh⟩ action
    have none_ : u.nextClaim = none := by
      have same := x.nextClaim_isNone_congr u (by rw [buffer]) slots events mesh
      rw [noClaim] at same
      exact Option.isNone_iff_eq_none.mp same
    rcases u.nextAction_cases v action with claim | ⟨_, grant⟩
    · rw [none_] at claim
      cases claim
    · have k := u.nextGrant_quiet v hostQuiet grant
      exact ⟨(u.nextAction_keeps v hostQuiet action).2, k.buffer.trans buffer, k.slots.trans slots, k.events.trans events, k.mesh.trans mesh⟩

theorem State.HeaderOnTheWay.takesAbort {s : State} {code kind : BitVec 6} {p : Post} {taken : Bool} {h : Holder} {left : Nat}
    (way : s.HeaderOnTheWay p.slot (postHeader code { p with abort := true }) .abort left) (view : s.view p.slot = .part kind p.tag taken h)
    (nothing : taken = true ∨ h = .completing) :
    ∃ v, s.AbortTaken v p code kind h ∧ exec (.abort code p) s = .next v.settle := by
  have only : s.PortOnly s := ⟨rfl, rfl, rfl, rfl⟩
  have view' := (s.headerWritten_view p.slot p.slot (postHeader code { p with abort := true })).trans view
  have row : s.postRow code { p with abort := true } true = s.answerCycle := if_pos (State.headerOnPort_abort way.port)
  have acts : (s.headerWritten p.slot (postHeader code { p with abort := true })).takeAbort p.slot
      = (s.headerWritten p.slot (postHeader code { p with abort := true })).setView p.slot (.part kind p.tag true h) := by
    cases taken with
    | true =>
      rw [State.setView_view view']
      unfold State.takeAbort
      rw [view']
      rfl
    | false =>
      obtain rfl := nothing.resolve_left nofun
      rw [State.takeAbort_first view']
      rfl
  refine ⟨_, only.headerTaken _ _ _, congrArg Host.Outcome.next ?_⟩
  rw [row, State.answerCycle_abort way.port, acts]

/-- Settles O18: each holder's act on the abort, and what the part then keeps. -/
theorem aborts : Obligations.Aborts := by
  refine ⟨fun s code kind p a ready other => ⟨fun view => ?_, fun m view active move => ?_, fun view => ?_⟩,
    fun s code kind p ready other view => ?_,
    fun s code kind p ready other view ref => ⟨fun moving runs => ?_, fun applying => ?_, fun failed => ?_⟩,
    fun s code kind p taken h left way view nothing => ?_⟩
  · obtain ⟨v, taken, eq⟩ := ready.takesAbort (code := code) other view
    obtain ⟨header, queue, view', axis, rest⟩ := taken.ends_waiting ready a
      { s.axis a with queue := (s.axis a).queue.filter (fun q => decide (q.slot ≠ p.slot)) } rfl
    have acts : v.abortHolder p.slot (.axisQueue a)
        = (v.setAxis a { s.axis a with queue := (s.axis a).queue.filter (fun q => decide (q.slot ≠ p.slot)) }).complete p.slot (endedWith .aborted)
          ((v.setAxis a { s.axis a with queue := (s.axis a).queue.filter (fun q => decide (q.slot ≠ p.slot)) }).positionBody a) := by
      rw [← State.axis_of_axes taken.lens.1 a]
      rfl
    rw [acts] at eq
    exact ⟨_, eq, header, queue, view', axis, rest⟩
  · obtain ⟨v, taken, eq⟩ := ready.takesAbort (code := code) other view
    rw [show v.abortHolder p.slot (.axisRunning a) = v.stopCause a .aborted from rfl] at eq
    obtain ⟨settles, queue, view'⟩ := taken.stays ready (v.stopCause_lens a .aborted)
    obtain ⟨axes, placement, _⟩ := settles.lens
    have active' : (v.axis a).st.active = true := by rw [State.axis_of_axes taken.lens.1]; exact active
    have rest : (v.stopCause a .aborted).placement = v.placement ∧ (v.stopCause a .aborted).mesh = v.mesh := by
      rw [State.stopCause_active active']
      exact ⟨rfl, rfl⟩
    refine ⟨_, eq, settles.header, queue, view', (State.stopCause_stopped active' .aborted).of_axes taken.lens.1 |>.of_settled axes, ?_,
      placement.trans (rest.1.trans taken.lens.2.1), settles.time, settles.cooling, settles.mesh.trans (rest.2.trans taken.mesh),
      settles.news⟩
    rw [State.axis_of_axes axes (otherAxis a), ← State.axis_of_axes taken.lens.1 (otherAxis a)]
    exact v.axis_stopCause_other .aborted (otherAxis_ne a)
  · obtain ⟨v, taken, eq⟩ := ready.takesAbort (code := code) other view
    obtain ⟨header, queue, _, axis, rest⟩ := taken.ends_waiting ready a
      { s.axis a with stopWait := (s.axis a).stopWait.filter (fun q => decide (q ≠ p.slot)) } rfl
    have acts : v.abortHolder p.slot (.stopWait a)
        = (v.setAxis a { s.axis a with stopWait := (s.axis a).stopWait.filter (fun q => decide (q ≠ p.slot)) }).complete p.slot (endedWith .aborted)
          ((v.setAxis a { s.axis a with stopWait := (s.axis a).stopWait.filter (fun q => decide (q ≠ p.slot)) }).positionBody a) := by
      rw [← State.axis_of_axes taken.lens.1 a]
      rfl
    rw [acts] at eq
    exact ⟨_, eq, header, queue, axis, rest⟩
  · obtain ⟨v, taken, eq⟩ := ready.takesAbort (code := code) other view
    have acts : v.abortHolder p.slot .meshWait = State.complete { v with
        mesh := { s.mesh with waiting := s.mesh.waiting.filter (fun w => decide (w.slot ≠ p.slot)) } } p.slot (endedWith .aborted)
        [s.mesh.gen.setWidth 32] := by
      rw [← taken.mesh]
      rfl
    rw [acts] at eq
    obtain ⟨settles, queue, view'⟩ := taken.ends ready (y := { v with
      mesh := { s.mesh with waiting := s.mesh.waiting.filter (fun w => decide (w.slot ≠ p.slot)) } }) rfl rfl
      (State.meshClaim_none_of_same (s := s) rfl rfl rfl rfl (ready.noMesh rfl)) (endedWith .aborted)
      (List.cons_ne_nil (s.mesh.gen.setWidth 32) [])
    have only := State.complete_eq { v with
      mesh := { s.mesh with waiting := s.mesh.waiting.filter (fun w => decide (w.slot ≠ p.slot)) } } p.slot (endedWith .aborted)
      [s.mesh.gen.setWidth 32]
    exact ⟨_, eq, settles.header, queue, view', settles.mesh.trans (State.complete_mesh _ _ _ _), settles.time,
      taken.lens.trans (State.SameLens.trans (by rw [only]; exact ⟨rfl, rfl, rfl⟩) settles.lens), settles.cooling, settles.news⟩
  · obtain ⟨v, taken, eq⟩ := ready.takesAbort (code := code) other view
    obtain ⟨axes, placement, _⟩ := taken.lens
    have fails : v.abortHolder p.slot .placement = v.failPlacement .aborted :=
      State.placementAbort_moving (by rw [placement]; exact moving) (by
        unfold State.anyPlacementMove at runs ⊢
        rw [axes]
        exact runs)
    rw [fails] at eq
    have lens := v.failPlacement_lens .aborted
    obtain ⟨settles, queue, view'⟩ := taken.stays ready lens
    obtain ⟨axes', placement', _⟩ := settles.lens
    have axis (a : AxisId) := v.failPlacement_axis .aborted a
    refine ⟨_, eq, settles.header, placement'.trans ((v.failPlacement_placement .aborted).trans (by rw [placement])), queue, view',
      fun a runs active => ?_, fun a still => ?_, settles.time, settles.cooling,
      settles.mesh.trans (lens.blocks.2.2.2.2.1.trans taken.mesh), settles.news⟩
    · have stopped := (axis a).1
      rw [State.axis_of_axes axes] at stopped
      exact ((stopped runs active).of_axes axes).of_settled axes'
    · have kept := (axis a).2
      rw [State.axis_of_axes axes] at kept
      rw [State.axis_of_axes axes' a]
      exact kept still
  · obtain ⟨v, taken, eq⟩ := ready.takesAbort (code := code) other view
    obtain ⟨axes, placement, budget⟩ := taken.lens
    have fails : v.abortHolder p.slot .placement = v.failApplying .aborted := by
      show v.placementAbort = _
      unfold State.placementAbort
      rw [placement, applying]
    rw [fails, State.failApplying_eq (by rw [placement]; exact ref)] at eq
    obtain ⟨settles, queue, view'⟩ := taken.ends ready (y := { v with placement := { v.placement with status := .failed, ref := none } })
      rfl rfl (State.meshClaim_none_congr s _ taken.mesh (ready.noMesh rfl)) (endedWith .aborted) (body := v.positions)
      (List.cons_ne_nil _ _)
    have only := State.complete_eq { v with placement := { v.placement with status := .failed, ref := none } } p.slot (endedWith .aborted)
      v.positions
    obtain ⟨axes', placement', budget'⟩ := settles.lens
    refine ⟨_, eq, settles.header, placement'.trans ?_, queue.trans ?_, view', axes'.trans ?_, budget'.trans ?_, settles.time,
      settles.cooling, settles.mesh.trans (by rw [only]; exact taken.mesh), settles.news⟩
    · rw [only, ← placement]
    · unfold State.positions
      rw [axes]
      rfl
    · rw [only]
      exact axes
    · rw [only]
      exact budget
  · obtain ⟨v, taken, eq⟩ := ready.takesAbort (code := code) other view
    have idle : v.abortHolder p.slot .placement = v := by
      show v.placementAbort = _
      unfold State.placementAbort
      rw [taken.lens.2.1, failed]
    rw [idle] at eq
    obtain ⟨settles, queue, view'⟩ := taken.stays ready (.refl v)
    exact ⟨_, eq, settles.header, queue, view', settles.time, taken.lens.trans settles.lens, settles.cooling,
      settles.mesh.trans taken.mesh, settles.news⟩
  · obtain ⟨v, abort, eq⟩ := way.takesAbort view nothing
    obtain ⟨noClaim, _⟩ := (State.nextAction_none_iff way.running).mp (Option.isNone_iff_eq_none.mp way.still)
    have hosts : ∀ k, s.view k = .host → v.view k = .host := fun k host => by
      by_cases same : k = p.slot
      · rw [same, view] at host
        cases host
      · rw [abort.others k same, host]
    have noClaim' : v.nextClaim = none := by
      refine (State.nextClaim_none_iff v).mpr (((State.nextClaim_none_iff s).mp noClaim).imp (fun full => ?_) (fun ⟨slot, event, mesh⟩ => ?_))
      · rw [abort.buffer]
        exact full
      · exact ⟨State.slotClaim_none_of_hosts abort.queue abort.writer hosts slot, State.eventClaim_events abort.events event,
          State.meshClaim_none_congr s v abort.mesh mesh⟩
    have quiet : v.HostQuiet := .inl abort.host
    obtain ⟨buffer, slots, events, mesh⟩ := State.settle_noClaim quiet noClaim'
    obtain ⟨mem, time, lens, cooling, notice, _⟩ := (State.settle_keeps v quiet).blocks
    exact ⟨_, eq, mem.trans abort.mem, (State.view_congr slots _).trans abort.view,
      fun k apart => (State.view_congr slots _).trans (abort.others k apart), (congrArg SlotUnit.queue slots).trans abort.queue,
      buffer.trans abort.buffer, events.trans abort.events, abort.time.trans time, abort.lens.trans lens, abort.cooling.trans cooling,
      mesh.trans abort.mesh, notice.trans abort.notice⟩

end Sys2Proof.Machine
end

section
/-! SUPPORT for O34. POWER_DOWN: the axes' queues and moves, the placement in APPLYING, the fans, and the parks that are asked (R10,
R57, R128 to R130, R44). -/

namespace Sys2Proof.Machine

/-! ### An axis takes the POWER_DOWN (R57) -/

theorem AxisState.driving_of_still {x : AxisState} (still : x.active = false) : x.driving = false := by
  have notMoving : x ≠ .moving := fun e => by rw [e] at still; cases still
  have notHoming : x ≠ .homing := fun e => by rw [e] at still; cases still
  simp [AxisState.driving, notMoving, notHoming]

/-- What the POWER_DOWN makes of an axis: its queue is gone, and its move is stopped if one was active. -/
structure Axis.PoweredDown (x y : Axis) : Prop where
  still : x.st.active = false → y = { x with queue := [] }
  stopped : x.st.active = true → ∃ z, x.SameButDrive z ∧ y = Axis.toStopping { z with queue := [] } (endedWith .powerState)

theorem Axis.PoweredDown.resting {x y : Axis} (h : x.PoweredDown y) : y.st.driving = false := by
  cases active : x.st.active with
  | false =>
    rw [h.still active]
    exact AxisState.driving_of_still active
  | true =>
    obtain ⟨_, _, e⟩ := h.stopped active
    rw [e]
    rfl

theorem Axis.PoweredDown.kept {x y : Axis} (h : x.PoweredDown y) : y.queue = [] ∧ y.counter = x.counter := by
  cases active : x.st.active with
  | false =>
    rw [h.still active]
    exact ⟨rfl, rfl⟩
  | true =>
    obtain ⟨z, same, e⟩ := h.stopped active
    rw [e, same.eq]
    exact ⟨rfl, rfl⟩

theorem Axis.PoweredDown.redriven {x y z : Axis} (h : x.PoweredDown y) (r : y.Redriven z) : x.PoweredDown z := by
  rw [r.2 h.resting]
  exact h

theorem Axis.PoweredDown.of_redriven {x y z : Axis} (r : x.Redriven y) (h : y.PoweredDown z) : x.PoweredDown z where
  still := fun still => by
    have same := r.2 (AxisState.driving_of_still still)
    rw [same] at h
    exact h.still still
  stopped := fun active => by
    obtain ⟨w, same, e⟩ := h.stopped (r.1.active.trans active)
    exact ⟨w, r.1.trans same, e⟩

/-- The move that was active has been stopped, whatever becomes of the pending park. -/
theorem Axis.PoweredDown.stops {x y : Axis} (h : x.PoweredDown y) (active : x.st.active = true) :
    y.st = .stopping ∧ y.drive.duty = 0
      ∧ ∀ m, x.move = some m → ∃ n, y.move = some n ∧ n.kind = m.kind ∧ n.owner = m.owner
          ∧ n.result = some (m.result.getD { cls := .ended, code := .powerState }) := by
  obtain ⟨z, same, e⟩ := h.stopped active
  rw [e, same.eq]
  exact ⟨rfl, rfl, fun m move => ⟨_, congrArg (Option.map _) move, rfl, rfl, rfl⟩⟩

theorem State.axisPowerDown_axis (s : State) (a : AxisId) :
    (s.axis a).PoweredDown ((s.axisPowerDown a).axis a) ∧ ∀ b, b ≠ a → (s.axis b).Redriven ((s.axisPowerDown a).axis b) := by
  obtain ⟨cut, others⟩ := s.axis_abortQueue a
  refine ⟨⟨fun still => ?_, fun active => ⟨s.axis a, .refl _, ?_⟩⟩, fun b other => ?_⟩
  · show ((s.abortQueue a).stopCause a .powerState).axis a = _
    rw [State.stopCause_still (by rw [cut]; exact still), cut]
  · show ((s.abortQueue a).stopCause a .powerState).axis a = _
    rw [State.stopCause_active (by rw [cut]; exact active), ((s.abortQueue a).axis_enterStopping a _).1, cut]
  · have r := (s.abortQueue a).stopCause_redriven .powerState other
    rw [others b other] at r
    exact r

theorem State.axisPowerDown_andSlots (s : State) (a : AxisId) : s.LensAndSlots (s.axisPowerDown a) :=
  (s.abortQueue_andSlots a).trans (State.stopCause_lens _ _ _).andSlots

theorem State.axisPowerDown_placement (s : State) (a : AxisId) : (s.axisPowerDown a).placement = s.placement := by
  obtain ⟨_, _, _, kept, _⟩ := ((s.abortQueue a).stopCause_only a .powerState).blocks
  refine kept.trans ?_
  rw [(s.abortQueue_eq a).1]
  rfl

theorem State.axisPowerDown_queue (s : State) (a : AxisId) :
    (s.axisPowerDown a).slots.queue = s.slots.queue ++ abortedQueue (s.axis a) := by
  refine (congrArg SlotUnit.queue ((s.abortQueue a).stopCause_lens a .powerState).blocks.2.1).trans ?_
  exact (s.abortQueue_eq a).2.1

/-- Requests that end leave the views of the others alone. -/
theorem State.view_foldl_complete_other {α : Type} {slot : α → SlotId} {r : Result} {body : State → List Word} {k : SlotId} (l : List α)
    (apart : ∀ x ∈ l, slot x ≠ k) (s : State) : (l.foldl (fun t x => t.complete (slot x) r (body t)) s).view k = s.view k := by
  induction l generalizing s with
  | nil => rfl
  | cons x l ih =>
    exact (ih (fun y m => apart y (List.mem_cons_of_mem _ m)) _).trans
      (State.view_complete_other s (slot x) k r _ (apart x List.mem_cons_self).symm)

theorem State.axisPowerDown_view (s : State) {a : AxisId} {k : SlotId} (apart : ∀ q ∈ (s.axis a).queue, q.slot ≠ k) :
    (s.axisPowerDown a).view k = s.view k :=
  (State.view_congr ((s.abortQueue a).stopCause_lens a .powerState).blocks.2.1 k).trans
    (State.view_foldl_complete_other (s.axis a).queue apart _)

/-- Both axes have taken the POWER_DOWN. -/
def State.axesDown (s : State) : State := (s.axisPowerDown .h).axisPowerDown .v

theorem State.axesDown_axis (s : State) (a : AxisId) : (s.axis a).PoweredDown (s.axesDown.axis a) := by
  cases a with
  | h =>
    exact (s.axisPowerDown_axis .h).1.redriven (((s.axisPowerDown .h).axisPowerDown_axis .v).2 .h (by decide))
  | v => exact Axis.PoweredDown.of_redriven ((s.axisPowerDown_axis .h).2 .v (by decide)) ((s.axisPowerDown .h).axisPowerDown_axis .v).1

theorem State.axesDown_queue (s : State) :
    s.axesDown.slots.queue = s.slots.queue ++ abortedQueue (s.axis .h) ++ abortedQueue (s.axis .v) := by
  have same := ((s.axisPowerDown_axis .h).2 .v (by decide)).1.eq
  unfold State.axesDown
  rw [State.axisPowerDown_queue, State.axisPowerDown_queue, same]
  rfl

theorem State.axesDown_view (s : State) {k : SlotId} (apart : ∀ a, ∀ q ∈ (s.axis a).queue, q.slot ≠ k) : s.axesDown.view k = s.view k := by
  have same := ((s.axisPowerDown_axis .h).2 .v (by decide)).1.eq
  refine (State.axisPowerDown_view _ ?_).trans (s.axisPowerDown_view (apart .h))
  rw [same]
  exact apart .v

/-! ### A placement in APPLYING (R10) -/

/-- The completions of a placement that fails in APPLYING. -/
def State.placementEnds (s : State) : List Completion :=
  if s.placement.status = .applying then
    s.placement.ref.toList.map (fun k =>
      { slot := k, result := { cls := .ended, code := .powerState }, body := [s.axes.h.counter, s.axes.v.counter] })
  else []

/-- A placement in APPLYING fails with the POWER_DOWN; any other is left alone. -/
def State.placementDown (s : State) : State :=
  if s.placement.status = .applying then s.failApplying .powerState else s

theorem State.placementDown_eq (s : State) :
    s.placementDown = { s with
        slots := s.placementDown.slots
        placement := if s.placement.status = .applying then { s.placement with status := .failed, ref := none } else s.placement }
      ∧ s.placementDown.slots.queue = s.slots.queue ++ s.placementEnds ∧ s.placementDown.slots.writer = s.slots.writer := by
  unfold State.placementDown State.placementEnds
  by_cases applying : s.placement.status = .applying
  · rw [if_pos applying, if_pos applying, if_pos applying]
    cases ref : s.placement.ref with
    | none =>
      unfold State.failApplying
      rw [ref]
      exact ⟨rfl, (List.append_nil _).symm, rfl⟩
    | some k =>
      rw [State.failApplying_eq ref, State.complete_eq]
      obtain ⟨queue, writer⟩ := State.complete_queue { s with placement := { s.placement with status := .failed, ref := none } } k
        (endedWith .powerState) s.positions
      exact ⟨rfl, queue, writer⟩
  · rw [if_neg applying, if_neg applying, if_neg applying]
    exact ⟨rfl, (List.append_nil _).symm, rfl⟩

theorem State.placementDown_view (s : State) {k : SlotId} (apart : s.placement.status = .applying → s.placement.ref ≠ some k) :
    s.placementDown.view k = s.view k := by
  unfold State.placementDown
  split
  · next applying =>
    unfold State.failApplying State.completeRef
    cases ref : s.placement.ref with
    | none => rfl
    | some j =>
      have other : k ≠ j := fun e => apart applying (by rw [ref, e])
      exact State.view_complete_other s j k (endedWith .powerState) s.positions other
  · rfl

/-! ### Parks that are asked (R44, R130) -/

theorem State.parkCheck_none {s : State} {a : AxisId} (may : s.MayPark a) : s.parkCheck a = none := by
  obtain ⟨host, lock, level, sound, homed⟩ := may
  simp [State.parkCheck, State.autonomous, host, lock, level, sound, homed]

theorem State.parkCheck_refused {s : State} {a : AxisId} {code : ResCode} (why : s.ParkRefusal a code) : s.parkCheck a = some code := by
  unfold State.parkCheck State.autonomous
  rcases why with ⟨host, rfl⟩ | ⟨host, lock, rfl⟩ | ⟨host, lock, level, rfl⟩ | ⟨host, lock, level, ⟨fault, rfl⟩ | ⟨sound, homed, rfl⟩⟩
  · simp [host]
  · simp [host, lock]
  · simp [host, lock, level]
  · simp [host, lock, level, fault]
  · simp [host, lock, level, sound, homed]

theorem State.launch_redriven (s : State) (a : AxisId) (y : Axis) (c : Machine.Class) :
    (s.axis (otherAxis a)).Redriven ((s.launch a y c).axis (otherAxis a)) := by
  have r := State.rebudget_redriven { s.setAxis a y with
    budget := { s.budget with
      order := s.budget.order.filter (fun b => decide (b ≠ a)) ++ [a]
      desire := s.budget.desire.set a c } } (otherAxis a)
  have same : State.axis { s.setAxis a y with
    budget := { s.budget with
      order := s.budget.order.filter (fun b => decide (b ≠ a)) ++ [a]
      desire := s.budget.desire.set a c } } (otherAxis a) = s.axis (otherAxis a) := State.axis_setAxis_other _ _ _ _ (otherAxis_ne a)
  rw [same] at r
  exact r

/-- What the sequencer's question does, while a cool-down has begun: a park starts, is refused, or waits (R130). -/
structure State.Asked (u t : State) (a : AxisId) : Prop where
  eq : t = { u with axes := t.axes, budget := t.budget, power := { u.power with park := t.power.park } }
  other : (u.axis (otherAxis a)).Redriven (t.axis (otherAxis a))
  parkOther : t.power.park.get (otherAxis a) = u.power.park.get (otherAxis a)
  queue : (t.axis a).queue = (u.axis a).queue
  starts : (u.axis a).st = .idle ∨ (u.axis a).st = .fault → u.MayPark a →
    t.power.park.get a = .waiting ∧ (t.axis a).st = .moving
      ∧ ∃ m, (t.axis a).move = some m ∧ m.Fresh .park none (u.axis a).cfg.park .near
  refused : (u.axis a).st = .idle ∨ (u.axis a).st = .fault → ∀ code, u.ParkRefusal a code →
    t.power.park.get a = .result { cls := .refused, code := code } ∧ t.axis a = { u.axis a with pendingPark := false }
  pends : ¬ ((u.axis a).st = .idle ∨ (u.axis a).st = .fault) →
    t.power.park.get a = .waiting ∧ t.axis a = { u.axis a with pendingPark := true }

theorem State.setPark_coolDone {u : State} (minMet : u.power.minMet = false) (a : AxisId) (p : Park) :
    (u.setPark a p).coolDone = false := by
  unfold State.coolDone
  rw [show (u.setPark a p).power.minMet = false from minMet]
  simp

theorem State.asked {u : State} {a : AxisId} (waiting : u.power.park.get a = .waiting) (minMet : u.power.minMet = false) :
    u.Asked (u.askPark a) a := by
  by_cases rests : (u.axis a).st = .idle ∨ (u.axis a).st = .fault
  · have asks : u.askPark a = (u.setAxis a { u.axis a with pendingPark := true }).presentPark a := if_pos rests
    have again : (u.setAxis a { u.axis a with pendingPark := true }).setAxis a
        { (u.setAxis a { u.axis a with pendingPark := true }).axis a with pendingPark := false }
        = u.setAxis a { u.axis a with pendingPark := false } := by
      rw [State.setAxis_setAxis, State.axis_setAxis_self]
    have checks : (u.setAxis a { u.axis a with pendingPark := true }).parkCheck a = u.parkCheck a := by
      unfold State.parkCheck
      rw [State.axis_setAxis_self]
      rfl
    cases check : u.parkCheck a with
    | some c =>
      have refuses : u.askPark a = (u.setAxis a { u.axis a with pendingPark := false }).setPark a (.result (refusedWith c)) := by
        rw [asks]
        unfold State.presentPark
        rw [checks, check, again]
        dsimp only
        unfold State.parkReport
        rw [if_pos (by exact waiting)]
        unfold State.checkCooldown
        rw [if_neg (fun q => by
          have done := q.2
          rw [State.setPark_coolDone (u := u.setAxis a { u.axis a with pendingPark := false }) minMet] at done
          cases done)]
      rw [refuses]
      refine ⟨rfl, ?_, PerAxis.get_set_other _ _ _ _ (otherAxis_ne a), ?_, fun _ may => ?_, fun _ code why => ⟨?_, ?_⟩,
        fun moves => absurd rests moves⟩
      · have kept : ((u.setAxis a { u.axis a with pendingPark := false }).setPark a (.result (refusedWith c))).axis (otherAxis a)
            = u.axis (otherAxis a) := State.axis_setAxis_other u a (otherAxis a) _ (otherAxis_ne a)
        rw [kept]
        exact .refl _
      · have same : ((u.setAxis a { u.axis a with pendingPark := false }).setPark a (.result (refusedWith c))).axis a
            = { u.axis a with pendingPark := false } := State.axis_setAxis_self u a _
        rw [same]
      · rw [State.parkCheck_none may] at check
        cases check
      · rw [State.parkCheck_refused why] at check
        cases check
        exact PerAxis.get_set_self _ _ _
      · exact State.axis_setAxis_self u a _
    | none =>
      have starts : u.askPark a = u.launch a { u.axis a with
          pendingPark := false
          st := .moving
          move := some (freshMove .park none (u.axis a).cfg.park .near (u.axis a).counter)
          target := (u.axis a).cfg.park } .zero := by
        rw [asks]
        unfold State.presentPark
        rw [checks, check, again]
        dsimp only
        unfold State.startMove State.launch
        dsimp only
        rw [State.setAxis_setAxis, State.axis_setAxis_self]
      rw [starts]
      have axis := (u.launch_axis a { u.axis a with
          pendingPark := false
          st := .moving
          move := some (freshMove .park none (u.axis a).cfg.park .near (u.axis a).counter)
          target := (u.axis a).cfg.park } .zero).eq
      refine ⟨rfl, u.launch_redriven a _ .zero, rfl, by rw [axis], fun _ _ => ⟨waiting, by rw [axis], ?_⟩, fun _ code why => ?_,
        fun moves => absurd rests moves⟩
      · rw [axis]
        exact ⟨_, rfl, rfl, rfl, rfl, rfl, rfl, rfl, rfl, rfl, rfl, rfl, rfl⟩
      · rw [State.parkCheck_refused why] at check
        cases check
  · have waits : u.askPark a = u.setAxis a { u.axis a with pendingPark := true } := if_neg rests
    rw [waits]
    refine ⟨rfl, ?_, rfl, by rw [State.axis_setAxis_self], fun q => absurd q rests, fun q => absurd q rests,
      fun _ => ⟨waiting, State.axis_setAxis_self u a _⟩⟩
    rw [State.axis_setAxis_other u a (otherAxis a) _ (otherAxis_ne a)]
    exact .refl _

end Sys2Proof.Machine
end

section
/-! SUPPORT for O34. POWER_DOWN: the cool-down that begins, and the parks of both axes (R128 to R130). -/

namespace Sys2Proof.Machine

/-! ### The cool-down begins (R129) -/

/-- The POWER_DOWN is with the power unit and the mode is COOLDOWN; neither lens nor fan has followed yet. -/
def State.coolingBy (s : State) (k : SlotId) (p : Park) : State :=
  State.setHolder
    { s with
      power := { mode := .cooldown, kind := .shutdown, elapsed := 0, minMet := false, park := { h := p, v := p }, ref := some k } }
    k .power

/-- The cool-down has begun; no park has been asked for. -/
def State.coolsDown (s : State) (k : SlotId) (p : Park) : State := (s.coolingBy k p).axesDown.placementDown.refreshFans

theorem State.beginCooldown_eq (s : State) (k : SlotId) (park : Bool) :
    s.beginCooldown k park
      = if park then ((s.coolsDown k .waiting).askPark .h).askPark .v else s.coolsDown k .notAsked := by
  unfold State.beginCooldown State.coolsDown State.placementDown State.axesDown State.coolingBy
  dsimp only
  cases park with
  | false => rw [if_neg Bool.false_ne_true, if_neg Bool.false_ne_true, if_neg Bool.false_ne_true]
  | true => rw [if_pos rfl, if_pos rfl, if_pos rfl]

/-- What the beginning of a cool-down leaves of a state. -/
structure State.CoolsDown (s t : State) (k : SlotId) (p : Park) : Prop where
  outer : t.outer = s.outer
  events : t.events = s.events
  notice : t.notice = s.notice
  mesh : t.mesh = s.mesh
  thermal : t.thermal = s.thermal
  power : t.power = { mode := .cooldown, kind := .shutdown, elapsed := 0, minMet := false, park := { h := p, v := p }, ref := some k }
  writer : t.slots.writer = s.slots.writer
  queue : t.slots.queue = s.slots.queue ++ abortedQueue (s.axis .h) ++ abortedQueue (s.axis .v) ++ s.placementEnds
  placement : t.placement =
    if s.placement.status = .applying then { s.placement with status := .failed, ref := none } else s.placement
  axis : ∀ a, (s.axis a).PoweredDown (t.axis a)
  fan : ∀ f, 60 ≤ (t.fan f).demand ∧ (t.fan f).commanded = max (s.fan f).commanded (t.fan f).demand

theorem State.axesDown_placementEnds (s : State) : s.axesDown.placementEnds = s.placementEnds := by
  have placement : s.axesDown.placement = s.placement :=
    ((s.axisPowerDown .h).axisPowerDown_placement .v).trans (s.axisPowerDown_placement .h)
  have h : s.axesDown.axes.h.counter = s.axes.h.counter := (s.axesDown_axis .h).kept.2
  have v : s.axesDown.axes.v.counter = s.axes.v.counter := (s.axesDown_axis .v).kept.2
  unfold State.placementEnds
  rw [placement, h, v]

theorem State.coolingBy_eq (s : State) (k : SlotId) (p : Park) :
    s.coolingBy k p = { s with
      slots := (s.coolingBy k p).slots
      power := { mode := .cooldown, kind := .shutdown, elapsed := 0, minMet := false, park := { h := p, v := p }, ref := some k } } :=
  State.setHolder_eq _ _ _

theorem State.cooled_demand {u : State} (mode : u.power.mode = .cooldown) (f : FanId) :
    60 ≤ (u.refreshFans.fan f).demand ∧ (u.refreshFans.fan f).commanded = max (u.fan f).commanded (u.refreshFans.fan f).demand := by
  obtain ⟨demand, commanded, _⟩ := u.refreshFans_commanded f
  rw [demand, commanded, if_neg (by rw [mode]; decide)]
  exact ⟨State.le_demandOf (by rw [mode]; decide) (le_foldl_max (.inr (by simp [mode, Config.cooldownDuty]))), rfl⟩

theorem State.coolsDown_rules (s : State) (k : SlotId) (p : Park) : s.CoolsDown (s.coolsDown k p) k p := by
  have cooling := s.coolingBy_eq k p
  have queue₀ : (s.coolingBy k p).slots.queue = s.slots.queue := State.setHolder_queue _ _ _
  have writer₀ : (s.coolingBy k p).slots.writer = s.slots.writer := State.setHolder_writer _ _ _
  have ends : (s.coolingBy k p).placementEnds = s.placementEnds := by rw [cooling]; rfl
  have axes : (s.coolingBy k p).axes = s.axes := by rw [cooling]
  have slots := ((s.coolingBy k p).axisPowerDown_andSlots .h).trans (((s.coolingBy k p).axisPowerDown .h).axisPowerDown_andSlots .v)
  have axis := (s.coolingBy k p).axesDown_axis
  have queue := (s.coolingBy k p).axesDown_queue
  have place := (((s.coolingBy k p).axisPowerDown .h).axisPowerDown_placement .v).trans ((s.coolingBy k p).axisPowerDown_placement .h)
  have ends' := (s.coolingBy k p).axesDown_placementEnds.trans ends
  change (s.coolingBy k p).LensAndSlots (s.coolingBy k p).axesDown at slots
  change (s.coolingBy k p).axesDown.placement = _ at place
  unfold State.coolsDown
  generalize s.coolingBy k p = x at *
  obtain ⟨blocks, writer⟩ := slots
  generalize x.axesDown = y at *
  obtain ⟨down, queue', writer'⟩ := y.placementDown_eq
  generalize y.placementDown = z at *
  have only := z.refreshFans_only
  have same (b : AxisId) : x.axis b = s.axis b := State.axis_of_axes axes b
  have kept (b : AxisId) : z.axis b = y.axis b := by rw [down]; rfl
  have fans (f : FanId) : z.fan f = s.fan f := by
    rw [down, blocks, cooling]
    rfl
  have placement : y.placement = s.placement := place.trans (by rw [cooling])
  refine ⟨only.outer.trans ?_, only.events.trans ?_, only.notice.trans ?_, only.mesh.trans ?_, only.thermal.trans ?_,
    only.power.trans ?_, ?_, ?_, only.placement.trans ?_, fun b => ?_, fun f => ?_⟩
  · rw [down, blocks, cooling]; rfl
  · rw [down, blocks, cooling]
  · rw [down, blocks, cooling]
  · rw [down, blocks, cooling]
  · rw [down, blocks, cooling]
  · rw [down, blocks, cooling]
  · rw [only.slots, writer', writer, writer₀]
  · rw [only.slots, queue', queue, queue₀, ends', same, same]
  · rw [down, placement]
  · have powered := axis b
    rw [same, ← kept] at powered
    exact powered.redriven (z.refreshFans_redriven b)
  · have mode : z.power.mode = .cooldown := by rw [down, blocks, cooling]
    rw [← fans]
    exact State.cooled_demand mode f

/-! ### The parks of both axes -/

/-- What the sequencer's question leaves of one axis, in terms of the state before both axes were asked. -/
structure State.AskedAxis (u : State) (a : AxisId) (y : Axis) (p : Park) : Prop where
  queue : y.queue = (u.axis a).queue
  starts : (u.axis a).st = .idle ∨ (u.axis a).st = .fault → u.MayPark a →
    p = .waiting ∧ y.st = .moving ∧ ∃ m, y.move = some m ∧ m.Fresh .park none (u.axis a).cfg.park .near
  refused : (u.axis a).st = .idle ∨ (u.axis a).st = .fault → ∀ code, u.ParkRefusal a code →
    p = .result { cls := .refused, code := code } ∧ y = { u.axis a with pendingPark := false }
  pends : ¬ ((u.axis a).st = .idle ∨ (u.axis a).st = .fault) → p = .waiting ∧ y = { u.axis a with pendingPark := true }

theorem State.Asked.askedAxis {u t : State} {a : AxisId} (h : u.Asked t a) (resting : (u.axis a).st.driving = false) {y : Axis}
    (r : (t.axis a).Redriven y) : u.AskedAxis a y (t.power.park.get a) where
  queue := by rw [r.1.eq]; exact h.queue
  starts := fun rests may => by
    obtain ⟨park, st, move⟩ := h.starts rests may
    rw [r.1.eq]
    exact ⟨park, st, move⟩
  refused := fun rests code why => by
    obtain ⟨park, axis⟩ := h.refused rests code why
    exact ⟨park, (r.2 (by rw [axis]; exact resting)).trans axis⟩
  pends := fun moves => by
    obtain ⟨park, axis⟩ := h.pends moves
    exact ⟨park, (r.2 (by rw [axis]; exact resting)).trans axis⟩

theorem State.AskedAxis.of_same {u t : State} {a : AxisId} {y : Axis} {p : Park} (h : t.AskedAxis a y p) (axis : t.axis a = u.axis a)
    (thermal : t.thermal = u.thermal) (pins : t.pins = u.pins) : u.AskedAxis a y p where
  queue := by rw [← axis]; exact h.queue
  starts := fun rests may => by
    rw [← axis] at rests ⊢
    refine h.starts rests ?_
    unfold State.MayPark
    rw [axis, thermal, pins]
    exact may
  refused := fun rests code why => by
    rw [← axis] at rests ⊢
    refine h.refused rests code ?_
    unfold State.ParkRefusal
    rw [axis, thermal, pins]
    exact why
  pends := fun moves => by
    rw [← axis] at moves ⊢
    exact h.pends moves

/-- Both axes have been asked. -/
structure State.BothAsked (u t : State) : Prop where
  eq : t = { u with axes := t.axes, budget := t.budget, power := { u.power with park := t.power.park } }
  axis : ∀ a, u.AskedAxis a (t.axis a) (t.power.park.get a)

theorem State.bothAsked {u : State} (waiting : u.power.park = { h := .waiting, v := .waiting }) (minMet : u.power.minMet = false)
    (resting : ∀ a, (u.axis a).st.driving = false) : u.BothAsked ((u.askPark .h).askPark .v) := by
  have first : u.Asked (u.askPark .h) .h := State.asked (by rw [waiting]; rfl) minMet
  generalize u.askPark .h = t at *
  have still : t.axis .v = u.axis .v := first.other.2 (resting .v)
  have waiting' : t.power.park.get .v = .waiting := by
    refine first.parkOther.trans ?_
    rw [waiting]
    rfl
  have second : t.Asked (t.askPark .v) .v := State.asked waiting' (by rw [first.eq]; exact minMet)
  generalize t.askPark .v = w at *
  refine ⟨by rw [second.eq, first.eq], fun a => ?_⟩
  cases a with
  | h =>
    rw [show w.power.park.get .h = t.power.park.get .h from second.parkOther]
    exact first.askedAxis (resting .h) second.other
  | v =>
    exact (second.askedAxis (by rw [still]; exact resting .v) (.refl _)).of_same still (by rw [first.eq]) (by rw [first.eq])

end Sys2Proof.Machine
end

section
/-! SUPPORT for O34. POWER_DOWN: the settled answer in every mode (R128, R129). -/

namespace Sys2Proof.Machine

theorem State.coolsDown_view {s : State} {k : SlotId} {p : Park} {kind : BitVec 6} {tag : BitVec 8} {taken : Bool} {f : Holder}
    (view : s.view k = .part kind tag taken f) (apart : ∀ a, ∀ q ∈ (s.axis a).queue, q.slot ≠ k)
    (unrelated : s.placement.status = .applying → s.placement.ref ≠ some k) :
    (s.coolsDown k p).view k = .part kind tag taken .power := by
  have cooling := s.coolingBy_eq k p
  have held : (s.coolingBy k p).view k = .part kind tag taken .power := State.view_setHolder_self .power view
  have axes : (s.coolingBy k p).axes = s.axes := by rw [cooling]
  have apart' : ∀ a, ∀ q ∈ ((s.coolingBy k p).axis a).queue, q.slot ≠ k := fun a => by
    rw [State.axis_of_axes axes]
    exact apart a
  have place : (s.coolingBy k p).axesDown.placement = s.placement :=
    ((((s.coolingBy k p).axisPowerDown .h).axisPowerDown_placement .v).trans
      ((s.coolingBy k p).axisPowerDown_placement .h)).trans (by rw [cooling])
  have down := (s.coolingBy k p).axesDown_view apart'
  have fails := State.placementDown_view (s := (s.coolingBy k p).axesDown) (k := k) (by rw [place]; exact unrelated)
  exact (State.view_congr (State.refreshFans_only _).slots k).trans (fails.trans (down.trans held))

/-- The part has begun its cool-down and settled; whether parks were asked is told of the axes alone. -/
structure State.PoweredDown (s t : State) (p : Post) : Prop where
  handsOver : s.HandsOver t .powerDown p
  view : t.view p.slot = .part 17 p.tag false .power
  power : t.power = { mode := .cooldown, kind := .shutdown, elapsed := 0, minMet := false, park := t.power.park, ref := some p.slot }
  fan : ∀ f, 60 ≤ (t.fan f).demand ∧ (t.fan f).commanded = max (s.fan f).commanded (t.fan f).demand
  queue : t.slots.queue = abortedQueue (s.axis .h) ++ abortedQueue (s.axis .v) ++ s.placementEnds
  placement : t.placement =
    if s.placement.status = .applying then { s.placement with status := .failed, ref := none } else s.placement
  thermal : t.thermal = s.thermal
  time : s.SameTime t
  mesh : s.SameMesh t
  news : s.SameNews t

theorem State.placementEnds_bodies (s : State) : ∀ c ∈ s.placementEnds, c.body ≠ [] := by
  intro c m
  unfold State.placementEnds at m
  split at m
  · obtain ⟨k, _, rfl⟩ := List.mem_map.mp m
    exact List.cons_ne_nil _ _
  · cases m

theorem abortedQueue_bodies (x : Axis) : ∀ c ∈ abortedQueue x, c.body ≠ [] := by
  intro c m
  obtain ⟨k, _, rfl⟩ := List.mem_map.mp m
  exact List.cons_ne_nil _ _

/-- A cool-down begun out of a ready state, the parks asked or not, settles. -/
theorem State.Ready.powersDown {s w z : State} {p : Post} {body : List Word} {park : Park} (h : s.Ready) (posted : s.Posted p body)
    (good : postCheck .powerDown false body = none) (routes : (s.taken .powerDown p).route p.slot .powerDown body = z)
    (cooled : w = (s.taken .powerDown p).coolsDown p.slot park)
    (asked : z = { w with axes := z.axes, budget := z.budget, power := { w.power with park := z.power.park } })
    (apart : ∀ a, ∀ q ∈ (s.axis a).queue, q.slot ≠ p.slot)
    (unrelated : s.placement.status = .applying → s.placement.ref ≠ some p.slot) :
    s.PoweredDown (s.postRow Kind.powerDown.number p false) p
      ∧ (s.postRow Kind.powerDown.number p false).axes = z.axes
      ∧ (s.postRow Kind.powerDown.number p false).power = z.power := by
  have cools := (s.taken .powerDown p).coolsDown_rules p.slot park
  have view : ((s.taken .powerDown p).coolsDown p.slot park).view p.slot = .part 17 p.tag false .power :=
    State.coolsDown_view (State.view_setView_self _ _ _) apart unrelated
  rw [← cooled] at cools view
  have slots : z.slots = w.slots := by rw [asked]
  have outer : z.outer = (s.taken .powerDown p).outer := Eq.trans (by rw [asked]; rfl) cools.outer
  have events : z.events = s.events := Eq.trans (by rw [asked]) cools.events
  have mesh : z.mesh = s.mesh := Eq.trans (by rw [asked]) cools.mesh
  have notice : z.notice = s.notice := Eq.trans (by rw [asked]) cools.notice
  have thermal : z.thermal = s.thermal := Eq.trans (by rw [asked]) cools.thermal
  have placement := Eq.trans (show z.placement = w.placement by rw [asked]) cools.placement
  have fan (f : FanId) : z.fan f = w.fan f := by rw [asked]; rfl
  have power : z.power = { w.power with park := z.power.park } := by
    conv => lhs; rw [asked]
  rw [cools.power] at power
  have ends : (s.taken .powerDown p).placementEnds = s.placementEnds := rfl
  have queue : z.slots.queue = abortedQueue (s.axis .h) ++ abortedQueue (s.axis .v) ++ s.placementEnds := by
    rw [slots, cools.queue, ends, show (s.taken .powerDown p).slots.queue = [] from h.queue]
    rfl
  have bodies : ∀ c ∈ z.slots.queue, c.body ≠ [] := fun c m => by
    rw [queue, List.mem_append, List.mem_append] at m
    rcases m with (m | m) | m
    · exact abortedQueue_bodies _ c m
    · exact abortedQueue_bodies _ c m
    · exact s.placementEnds_bodies c m
  obtain ⟨queue', view', keeps, mesh'⟩ :=
    h.settle_ended outer (by rw [slots]; exact cools.writer) bodies (h.noEvent events) (h.noMesh mesh)
  obtain ⟨mem, time, ⟨axes, placement', _⟩, ⟨fans, thermal', power'⟩, ⟨notice', p', c, lost, full⟩⟩ := keeps.blocks
  obtain ⟨_, _, _, _, _, taken, time'⟩ := h.takenPath outer
  rw [State.postRow_routed .powerDown h posted good, routes]
  refine ⟨⟨h.handsOver (mem.trans taken), (view' _).trans ((State.view_congr slots _).trans view), ?_, fun f => ?_,
    queue'.trans queue, placement'.trans placement, thermal'.trans thermal, time'.trans time, mesh'.trans mesh, ?_⟩, axes, power'⟩
  · rw [power']
    exact power
  · rw [State.fan_congr fans, fan]
    exact cools.fan f
  · rw [events] at p' c lost full
    exact ⟨notice'.trans notice, p', c, lost, full⟩

/-- What the axes and their parks are once the cool-down has begun (R129, R130). -/
structure State.AxesParked (s t : State) (park : Bool) : Prop where
  unasked : park = false → t.power.park = { h := .notAsked, v := .notAsked }
    ∧ ∀ a, (s.axis a).st.active = false → t.axis a = { s.axis a with queue := [] }
  asked : park = true → ∀ a,
    ((s.axis a).st = .idle ∨ (s.axis a).st = .fault →
      (s.MayPark a →
        t.power.park.get a = .waiting ∧ (t.axis a).st = .moving
          ∧ (∃ m, (t.axis a).move = some m ∧ m.Fresh .park none (s.axis a).cfg.park .near))
      ∧ (∀ code, s.ParkRefusal a code →
          t.power.park.get a = .result { cls := .refused, code := code }
            ∧ t.axis a = { s.axis a with queue := [], pendingPark := false }))
    ∧ ((s.axis a).st ≠ .idle → (s.axis a).st ≠ .fault →
        t.power.park.get a = .waiting ∧ (t.axis a).pendingPark = true)
    ∧ ((s.axis a).st = .stopping → t.axis a = { s.axis a with queue := [], pendingPark := true })

theorem State.AxesParked.of_unasked {s t : State} (park : t.power.park = { h := .notAsked, v := .notAsked })
    (axis : ∀ a, (s.axis a).PoweredDown (t.axis a)) : s.AxesParked t false :=
  ⟨fun _ => ⟨park, fun a => (axis a).still⟩, nofun⟩

theorem AxisState.still_of_rest {x : AxisState} (rests : x = .idle ∨ x = .fault) : x.active = false := by
  rcases rests with e | e <;> rw [e] <;> rfl

/-- An axis that rests after the POWER_DOWN rested before it. -/
theorem Axis.PoweredDown.rests_iff {x y : Axis} (h : x.PoweredDown y) : (y.st = .idle ∨ y.st = .fault) ↔ (x.st = .idle ∨ x.st = .fault) := by
  cases active : x.st.active with
  | false => rw [h.still active]
  | true =>
    rw [(h.stops active).1]
    refine ⟨(nomatch ·), fun q => ?_⟩
    rw [AxisState.still_of_rest q] at active
    cases active

theorem State.AskedAxis.powered {s t u : State} {a : AxisId} (h : u.AskedAxis a (t.axis a) (t.power.park.get a))
    (down : (s.axis a).PoweredDown (u.axis a)) :
    (t.axis a).queue = [] ∧ ((s.axis a).st.active = true → s.Stopped t a .powerState) := by
  refine ⟨h.queue.trans down.kept.1, fun active => ?_⟩
  have stops := down.stops active
  obtain ⟨_, pending⟩ := h.pends fun q => by
    rw [AxisState.still_of_rest (down.rests_iff.mp q)] at active
    cases active
  unfold State.Stopped
  rw [pending]
  exact stops

theorem State.AxesParked.of_asked {s t u : State} (down : ∀ a, (s.axis a).PoweredDown (u.axis a)) (thermal : u.thermal = s.thermal)
    (pins : u.pins = s.pins) (asked : ∀ a, u.AskedAxis a (t.axis a) (t.power.park.get a)) : s.AxesParked t true := by
  refine ⟨nofun, fun _ a => ⟨fun rests => ?_, fun notIdle sound => ?_, fun stopping => ?_⟩⟩
  · have same := (down a).still (AxisState.still_of_rest rests)
    have rests' := (down a).rests_iff.mpr rests
    refine ⟨fun may => ?_, fun code why => ?_⟩
    · obtain ⟨park, st, m, move, fresh⟩ := (asked a).starts rests' (by
        unfold State.MayPark
        rw [same, thermal, pins]
        exact may)
      refine ⟨park, st, m, move, ?_⟩
      rw [same] at fresh
      exact fresh
    · obtain ⟨park, axis⟩ := (asked a).refused rests' code (by
        unfold State.ParkRefusal
        rw [same, thermal, pins]
        exact why)
      rw [same] at axis
      exact ⟨park, axis⟩
  · obtain ⟨park, axis⟩ := (asked a).pends fun q => ((down a).rests_iff.mp q).elim notIdle sound
    exact ⟨park, by rw [axis]⟩
  · have same := (down a).still (by rw [stopping]; rfl)
    obtain ⟨_, axis⟩ := (asked a).pends fun q => by
      rcases (down a).rests_iff.mp q with e | e <;> rw [stopping] at e <;> cases e
    rw [axis, same]

/-- Settles O34: the cool-down begins axis by axis, and each axis acts on a park that is asked of it. -/
theorem powerDown : Obligations.PowerDown := by
  refine ⟨fun s p park h posted => ?_, fun s p body h posted => ⟨fun length => ?_, fun w eq large => ?_⟩⟩
  · have good : postCheck .powerDown false [natWord (boolNat park)] = none := by cases park <;> rfl
    have flag : decide (bodyWord [natWord (boolNat park)] 1 ≠ 0) = park := by cases park <;> rfl
    refine ⟨fun notRun => ?_, fun mode apart unrelated => ?_⟩
    · have zeros (r : Result) (routes : (s.taken .powerDown p).route p.slot .powerDown [natWord (boolNat park)]
          = (s.taken .powerDown p).complete p.slot r [0, 0, 0]) :=
        h.answer posted good (.of_taken s .powerDown p) routes (by simp)
      cases mode : s.power.mode with
      | run => exact absurd mode notRun
      | cooldown =>
        have routes : (s.taken .powerDown p).takePowerDown p.slot [natWord (boolNat park)]
            = (s.taken .powerDown p).complete p.slot (refusedWith .powerState) [0, 0, 0] := by
          unfold State.takePowerDown
          rw [show (s.taken .powerDown p).power.mode = .cooldown from mode]
        have t := zeros _ routes
        obtain ⟨_, time, lens, cooling, news⟩ := t.keeps.blocks
        exact ⟨_, rfl, t.handsOver, fun _ => t.ends, nofun, time, lens, cooling, t.mesh, news⟩
      | standby =>
        have routes : (s.taken .powerDown p).takePowerDown p.slot [natWord (boolNat park)]
            = (s.taken .powerDown p).complete p.slot doneAlready [0, 0, 0] := by
          unfold State.takePowerDown
          rw [show (s.taken .powerDown p).power.mode = .standby from mode]
        have t := zeros _ routes
        obtain ⟨_, time, lens, cooling, news⟩ := t.keeps.blocks
        exact ⟨_, rfl, t.handsOver, nofun, fun _ => t.ends, time, lens, cooling, t.mesh, news⟩
    · have routes : (s.taken .powerDown p).route p.slot .powerDown [natWord (boolNat park)]
          = if park then (((s.taken .powerDown p).coolsDown p.slot .waiting).askPark .h).askPark .v
            else (s.taken .powerDown p).coolsDown p.slot .notAsked := by
        show (s.taken .powerDown p).takePowerDown p.slot _ = _
        unfold State.takePowerDown
        rw [show (s.taken .powerDown p).power.mode = .run from mode, flag]
        exact State.beginCooldown_eq _ _ _
      obtain ⟨t, row, d, parked, stopped⟩ : ∃ t, exec (.powerDown p) s = .next t ∧ s.PoweredDown t p ∧ s.AxesParked t park
          ∧ ∀ a, (t.axis a).queue = [] ∧ ((s.axis a).st.active = true → s.Stopped t a .powerState) := by
        cases park with
        | false =>
          have cools := (s.taken .powerDown p).coolsDown_rules p.slot .notAsked
          rw [if_neg Bool.false_ne_true] at routes
          obtain ⟨w, cooled⟩ : ∃ w, w = (s.taken .powerDown p).coolsDown p.slot .notAsked := ⟨_, rfl⟩
          rw [← cooled] at cools routes
          obtain ⟨d, axes, power⟩ := h.powersDown posted good routes cooled rfl apart unrelated
          have axis (a : AxisId) : (s.axis a).PoweredDown ((s.postRow Kind.powerDown.number p false).axis a) := by
            rw [State.axis_of_axes axes]
            exact cools.axis a
          exact ⟨_, rfl, d, .of_unasked (by rw [power]; exact congrArg Power.park cools.power) axis,
            fun a => ⟨(axis a).kept.1, (axis a).stops⟩⟩
        | true =>
          have cools := (s.taken .powerDown p).coolsDown_rules p.slot .waiting
          rw [if_pos rfl] at routes
          obtain ⟨w, cooled⟩ : ∃ w, w = (s.taken .powerDown p).coolsDown p.slot .waiting := ⟨_, rfl⟩
          rw [← cooled] at cools routes
          have both := State.bothAsked (congrArg Power.park cools.power) (congrArg Power.minMet cools.power)
            fun a => (cools.axis a).resting
          obtain ⟨d, axes, power⟩ := h.powersDown posted good routes cooled both.eq apart unrelated
          obtain ⟨_, _, _, _, pins, _⟩ := (State.outer_iff _ _).mp cools.outer
          generalize (w.askPark .h).askPark .v = z at *
          have down (a : AxisId) : (s.axis a).PoweredDown (w.axis a) := cools.axis a
          have asked (a : AxisId) : w.AskedAxis a ((s.postRow Kind.powerDown.number p false).axis a)
              ((s.postRow Kind.powerDown.number p false).power.park.get a) := by
            rw [power, State.axis_of_axes axes]
            exact both.axis a
          exact ⟨_, rfl, d, .of_asked down cools.thermal pins asked, fun a => (asked a).powered (down a)⟩
      have mode' : t.power.mode = .cooldown := by rw [d.power]
      refine ⟨t, row, d.handsOver, d.view, mode', by rw [d.power], by rw [d.power], by rw [d.power], by rw [d.power],
        (State.cut_iff _).mpr (.inr (by rw [mode']; decide)), d.fan, d.queue, fun a => (stopped a).1, fun a => (stopped a).2,
        fun applying => d.placement.trans (if_pos applying), fun other => d.placement.trans (if_neg other), parked.unasked,
        parked.asked, d.thermal, d.time, d.mesh, d.news⟩
  · have t := State.postRow_badLength .powerDown h posted (by
      rw [← Bool.not_eq_true, lengthOk_iff]
      exact length)
    obtain ⟨_, _, _, ⟨_, _, power⟩, _⟩ := t.keeps.blocks
    exact ⟨_, rfl, t.ends, power⟩
  · have t := h.postRow_refused (code := .badValue) posted.len posted.view posted.words (postCheck_refuses (kind := .powerDown) (.inr (.inr
      ⟨by rw [eq]; rfl, posted.noAbort, by
        rw [eq, ← Bool.not_eq_true]
        exact fun q => by
          have := (isFlag_iff w).mp q
          omega, rfl⟩)))
    obtain ⟨_, _, _, ⟨_, _, power⟩, _⟩ := t.keeps.blocks
    exact ⟨_, rfl, t.ends, power⟩

end Sys2Proof.Machine
end

section
/-! SUPPORT for O27. KEYSTONE and CORNERS: the post as it is taken, the corner record, and the words of the build that begins (R62 to
R64, R67, R71, R72, R75). -/

namespace Sys2Proof.Machine

/-! ### The post's header, taken out of a ready state or from the port (R158 to R160) -/

/-- A post has been taken for a slot, and its owning unit has not acted on it. -/
abbrev State.PostTaken (s v : State) (kind : Kind) (p : Post) : Prop :=
  s.HeaderTaken v p.slot (postHeader kind.number p) (.part kind.number p.tag false .completing)

theorem postCheck_passes {kind : Kind} {body : List Word} (len : lengthOk kind body = true) (static : staticOk kind body = true) :
    postCheck kind false body = none := by
  unfold postCheck
  rw [len, static]
  rfl

theorem State.Ready.postTaken {s : State} (ready : s.Ready) (kind : Kind) (p : Post) : s.PostTaken (s.taken kind p) kind p where
  view := State.view_setView_self _ _ _
  others := fun j apart => (State.view_setView_other _ _ _ _ apart).trans (State.view_setShadow _ _ _ _ _)
  mem := rfl
  queue := rfl
  writer := rfl
  port := ready.port
  host := ready.host
  buffer := rfl
  selector := rfl
  time := ⟨rfl, rfl, rfl⟩
  lens := ⟨rfl, rfl, rfl⟩
  cooling := ⟨rfl, rfl, rfl⟩
  mesh := rfl
  notice := rfl
  events := rfl

theorem State.headerOnPort_post {s : State} {kind : Kind} {p : Post} {left : Nat}
    (port : s.path.port = some { kind := (.hostWrite (s.addrOf (slotOffset p.slot 0))
      (postHeader kind.number p) 0xF .post false), left := left }) : s.headerOnPort p.slot kind.number false = true := by
  have offset := s.offsetOf_addrOf (slotOffset p.slot 0) (Nat.lt_trans (slotOffset_lt p.slot 0) (by decide))
  unfold State.headerOnPort
  rw [port]
  simp only [State.mergedWord, mergeWord_all, headerKind_post, offset, decide_true, beq_self_eq_true, Bool.and_self,
    Bool.false_eq_true, if_false]

/-- The header word is in the shadow, and the body words are the host's still. -/
theorem State.body_headerWritten {s : State} {kind : Kind} {p : Post} {body : List Word} (posted : s.Posted p body) (x : SlotView) :
    ((s.headerWritten p.slot (postHeader kind.number p)).setView p.slot x).body p.slot p.len.toNat = body := by
  have fits := p.len.isLt
  have same : ((s.headerWritten p.slot (postHeader kind.number p)).setView p.slot x).body p.slot p.len.toNat
      = s.body p.slot p.len.toNat := by
    refine List.map_congr_left fun i hi => ?_
    have inside := List.mem_range.mp hi
    unfold State.headerWritten
    rw [State.shadowWord_setView]
    refine State.shadowWord_setShadow_other _ _ _ _ _ fun q => ?_
    have := congrArg Fin.val q
    simp only [Fin.val_zero] at this
    omega
  rw [same, posted.len, posted.words]

/-- Memory answers the post's header write, and the request goes to its owning unit (R160). -/
theorem State.HeaderOnTheWay.takesPost {s : State} {kind : Kind} {p : Post} {body : List Word} {left : Nat}
    (way : s.HeaderOnTheWay p.slot (postHeader kind.number p) .post left) (posted : s.Posted p body)
    (good : postCheck kind false body = none) :
    ∃ v, s.PostTaken v kind p ∧ exec (requestRow kind p) s = .next (v.route p.slot kind body).settle := by
  have only : s.PortOnly s := ⟨rfl, rfl, rfl, rfl⟩
  have row : s.postRow kind.number p false = s.answerCycle := if_pos (State.headerOnPort_post way.port)
  have slot : slotOffset p.slot 0 < 0x80 := slotOffset_lt p.slot 0
  have offset : (s.written (s.addrOf (slotOffset p.slot 0)) (postHeader kind.number p) 0xF).offsetOf (s.addrOf (slotOffset p.slot 0))
      = some (slotOffset p.slot 0) := s.offsetOf_addrOf _ (Nat.lt_trans slot (by decide))
  have answers : s.answerCycle = ((s.headerWritten p.slot (postHeader kind.number p)).takePost p.slot).settle := by
    rw [State.answerCycle_eq way.port]
    show ((s.written (s.addrOf (slotOffset p.slot 0)) (postHeader kind.number p) 0xF).endHostWrite (s.addrOf (slotOffset p.slot 0))
      (postHeader kind.number p) 0xF .post false).settle = _
    unfold State.endHostWrite
    rw [offset]
    dsimp only
    rw [if_pos slot]
    unfold State.slotWriteEnd State.mergedWord
    rw [slotOfOffset_slotOffset p.slot 0 (by decide), wordOfOffset_slotOffset p.slot 0 (by decide), mergeWord_all]
    rfl
  have header : (s.headerWritten p.slot (postHeader kind.number p)).shadowWord p.slot 0 = postHeader kind.number p :=
    State.shadowWord_setShadow_self _ _ _ _
  have routes : (s.headerWritten p.slot (postHeader kind.number p)).takePost p.slot
      = ((s.headerWritten p.slot (postHeader kind.number p)).setView p.slot (.part kind.number p.tag false .completing)).route p.slot
        kind body := by
    unfold State.takePost
    simp only [header, headerKind_post, headerTag_post, kindOfCode_number]
    unfold State.checkAndRoute
    rw [headerLen_post, headerAbort_post, posted.noAbort, State.body_headerWritten posted]
    dsimp only
    rw [good]
  refine ⟨_, only.headerTaken p.slot (postHeader kind.number p) _, ?_⟩
  rw [exec_requestRow, row, answers, routes]

/-! ### The corner record (R64) -/

/-- A corner record that is valid has been taken; the generator has not acted on the change. -/
def State.recorded (s : State) (k : SlotId) (c : Corners) : State :=
  { s with
    slots := (s.setHolder k .meshWait).slots
    mesh := { s.mesh with
      corners := c
      waiting := s.mesh.waiting ++ [{ slot := k, needed := s.mesh.neededGen }]
      dirty := true } }

theorem State.setHolder_mesh (s : State) (m : Mesh) (k : SlotId) (g : Holder) :
    State.setHolder { s with mesh := m } k g = { s with mesh := m, slots := (s.setHolder k g).slots } := by
  unfold State.setHolder
  rw [State.view_congr (s := s) (t := { s with mesh := m }) rfl k]
  cases s.view k <;> rfl

theorem State.takeCornerRecord_valid {s : State} {k : SlotId} {c : Corners}
    (first : meshValid { s.meshParams with corners := c } = true)
    (second : s.placementRuns = true → meshValid
      { corners := c, translation := { dx := s.placement.remX, dy := -s.placement.remY }, orientation := s.placement.orientation } = true) :
    s.takeCornerRecord k c = (s.recorded k c).meshRun := by
  have checks : (meshValid { s.meshParams with corners := c } && (!s.placementRuns || meshValid
      { corners := c, translation := meshTerms s.placement.remX s.placement.remY, orientation := s.placement.orientation })) = true := by
    rw [first]
    cases runs : s.placementRuns with
    | false => rfl
    | true => exact second runs
  refine (if_pos checks).trans ?_
  have joined := s.setHolder_mesh
    { s.mesh with corners := c, waiting := s.mesh.waiting ++ [{ slot := k, needed := s.mesh.neededGen }] } k .meshWait
  exact congrArg (fun u : State => State.meshRun { u with mesh := { u.mesh with dirty := true } }) joined

theorem State.takeCornerRecord_refused {s : State} {k : SlotId} {c : Corners}
    (why : meshValid { s.meshParams with corners := c } = false ∨ s.placementRuns = true ∧ meshValid
      { corners := c, translation := { dx := s.placement.remX, dy := -s.placement.remY }, orientation := s.placement.orientation } = false) :
    s.takeCornerRecord k c = s.complete k (refusedWith .meshLimit) [] := by
  have checks : (meshValid { s.meshParams with corners := c } && (!s.placementRuns || meshValid
      { corners := c, translation := meshTerms s.placement.remX s.placement.remY, orientation := s.placement.orientation })) = false := by
    rcases why with first | ⟨runs, second⟩
    · rw [first]
      rfl
    · rw [runs]
      exact (congrArg (_ && ·) second).trans (Bool.and_false _)
  exact if_neg (by rw [Bool.not_eq_true]; exact checks)

/-! ### The words of a build as they join the buffer (R72) -/

/-- The claims for the first words of a build. -/
def Snapshot.words (sn : Snapshot) (n : Nat) : List Entry :=
  (List.range n).map fun i => { offset := sn.bank.offset + i, data := bankWord sn i, producer := .meshWord }

/-- The first words of a build have joined the buffer, in order, and nothing else has. -/
structure State.Fills (x u : State) (sn : Snapshot) (n : Nat) : Prop where
  quiet : u.HostQuiet
  slots : u.slots = x.slots
  events : u.events = x.events
  building : u.mesh.st = .building
  snapshot : u.mesh.snapshot = some sn
  queued : u.mesh.progress.queued = n
  buffer : u.path.buffer = x.path.buffer ++ sn.words n
  room : n ≤ 16

theorem State.Fills.claim {x u : State} {sn : Snapshot} {n : Nat} (f : x.Fills u sn n) :
    u.meshClaim = some { u.queueEntry (sn.bank.offset + n) (bankWord sn n) .meshWord with
      mesh := { u.mesh with progress := { u.mesh.progress with queued := n + 1, inBuffer := u.mesh.progress.inBuffer + 1 } } } := by
  have room := f.room
  unfold State.meshClaim
  rw [f.snapshot]
  dsimp only
  rw [f.building]
  dsimp only
  rw [f.queued, if_pos (show n < Config.bankWords by simp only [Config.bankWords]; omega)]

theorem State.Fills.step {x u v : State} {sn : Snapshot} {n : Nat} (slot : x.slotClaim = none) (event : x.eventClaim = none)
    (f : x.Fills u sn n) (action : u.nextAction = some v) : ∃ m, x.Fills v sn m := by
  have quiet := (u.nextAction_keeps v f.quiet action).2
  rcases u.nextAction_cases v action with claim | ⟨_, grant⟩
  · have room := u.nextClaim_room v claim
    rw [f.buffer] at room
    simp only [Snapshot.words, List.length_append, List.length_map, List.length_range, Config.bufferSize] at room
    rcases u.nextClaim_cases v claim with c | ⟨_, c | c⟩
    · rw [State.slotClaim_none_congr x u f.slots slot] at c
      cases c
    · rw [State.eventClaim_events f.events event] at c
      cases c
    · rw [f.claim] at c
      cases c
      refine ⟨n + 1, quiet, f.slots, f.events, f.building, f.snapshot, rfl, ?_, by omega⟩
      show u.path.buffer ++ [_] = _
      rw [f.buffer, List.append_assoc]
      unfold Snapshot.words
      rw [List.range_succ, List.map_append]
      rfl
  · have k := u.nextGrant_quiet v f.quiet grant
    exact ⟨n, quiet, k.slots.trans f.slots, k.events.trans f.events, by rw [k.mesh]; exact f.building, by rw [k.mesh]; exact f.snapshot,
      by rw [k.mesh]; exact f.queued, k.buffer.trans f.buffer, f.room⟩

/-- A build that begins with an empty buffer fills it with its first sixteen words (R72). -/
theorem State.settle_fills {x : State} {sn : Snapshot} (run : x.hold = .running) (quiet : x.HostQuiet) (slot : x.slotClaim = none)
    (event : x.eventClaim = none) (building : x.mesh.st = .building) (snapshot : x.mesh.snapshot = some sn)
    (start : x.mesh.progress.queued = 0) (empty : x.path.buffer = []) : x.settle.path.buffer = sn.words 16 := by
  have begins : x.Fills x sn 0 := ⟨quiet, rfl, rfl, building, snapshot, start, (List.append_nil _).symm, Nat.zero_le _⟩
  obtain ⟨n, f⟩ := State.settle_induct (P := fun u => ∃ n, x.Fills u sn n) (fun u v ⟨_, f⟩ action => f.step slot event action)
    ⟨0, begins⟩
  have hold : x.settle.hold = .running := (State.settle_keeps x quiet).blocks.2.1.2.2.trans run
  obtain ⟨noClaim, _⟩ := (State.nextAction_none_iff hold).mp x.settle_ends
  have full : n = 16 := by
    have room := f.room
    rcases (State.nextClaim_none_iff _).mp noClaim with full | ⟨_, _, mesh⟩
    · rw [f.buffer, empty] at full
      simp only [Snapshot.words, List.length_append, List.length_map, List.length_range, List.length_nil, Config.bufferSize] at full
      omega
    · rw [f.claim] at mesh
      cases mesh
  rw [f.buffer, empty, full]
  rfl

end Sys2Proof.Machine
end

section
/-! SUPPORT for O27. KEYSTONE and CORNERS: the settled answer (R64, R75), and what the records and the validity check are (R62, R63,
R67). -/

namespace Sys2Proof.Machine

/-! ### What the generator's own step keeps (R71) -/

theorem State.meshRun_keeps (s : State) :
    s.meshRun.mesh.corners = s.mesh.corners ∧ s.meshRun.mesh.applied = s.mesh.applied ∧ s.meshRun.mesh.gen = s.mesh.gen
      ∧ s.meshRun.mesh.waiting = s.mesh.waiting := by
  unfold State.meshRun State.takeSnapshot
  dsimp only
  split
  · split <;> exact ⟨rfl, rfl, rfl, rfl⟩
  · exact ⟨rfl, rfl, rfl, rfl⟩

/-- In IDLE with the dirty flag set and a FREE target the build begins (R71). -/
theorem State.meshRun_begins {s : State} (idle : s.mesh.st = .idle) (dirty : s.mesh.dirty = true)
    (read : s.mesh.awaitRead = false) (free : s.mesh.mark s.mesh.target = .free) : s.meshRun = s.takeSnapshot := by
  simp [State.meshRun, idle, dirty, read, free]

/-- A build or a flip that is under way goes on (R75). -/
theorem State.meshRun_busy {s : State} (busy : s.mesh.st = .building ∨ s.mesh.st = .flipPending) : s.meshRun = s := by
  rcases busy with st | st <;> simp [State.meshRun, st]

/-! ### The record out of a taken post (R64) -/

/-- The slot unit's claim depends on the queue, the progress, and on the views of the slots that the queue names. -/
theorem State.slotClaim_none_of_views {s t : State} (queue : t.slots.queue = s.slots.queue) (writer : t.slots.writer = s.slots.writer)
    (views : ∀ c ∈ s.slots.queue, t.view c.slot = s.view c.slot) (none_ : s.slotClaim = none) : t.slotClaim = none := by
  unfold State.slotClaim at none_ ⊢
  rw [queue, writer]
  cases q : s.slots.queue with
  | nil => rfl
  | cons c rest =>
    rw [q] at none_ views
    dsimp only at none_ ⊢
    rw [views c List.mem_cons_self]
    split at none_
    · cases none_
    · next whole =>
      rw [if_neg whole]
      split at none_
      · next drained =>
        rw [if_pos drained]
        cases view : s.view c.slot with
        | host => rfl
        | part kind tag taken h => rw [view] at none_; cases none_
      · next waits => rw [if_neg waits]

section
variable {s v : State} {kind : Kind} {p : Post} {c : Corners}

/-- What a recorded post leaves before the part settles. -/
structure State.RecordLeaves (s v x : State) (kind : Kind) (p : Post) : Prop where
  view : x.view p.slot = .part kind.number p.tag false .meshWait
  others : ∀ j, j ≠ p.slot → x.view j = s.view j
  queue : x.slots.queue = s.slots.queue
  writer : x.slots.writer = s.slots.writer
  outer : x.outer = v.outer
  blocks : v.SameTime x ∧ v.SameLens x ∧ v.SameCooling x ∧ x.notice = v.notice ∧ x.events = v.events ∧ x.path = v.path ∧ x.mem = v.mem

theorem State.HeaderTaken.records (taken : s.PostTaken v kind p) (c : Corners) :
    s.RecordLeaves v (v.recorded p.slot c).meshRun kind p := by
  have only := (v.recorded p.slot c).meshRun_eq
  generalize (v.recorded p.slot c).meshRun = x at *
  have slots : x.slots = (v.setHolder p.slot .meshWait).slots := by rw [only]; rfl
  refine ⟨?_, fun j apart => ?_, ?_, ?_, by rw [only]; rfl, by
    rw [only]
    exact ⟨⟨rfl, rfl, rfl⟩, ⟨rfl, rfl, rfl⟩, ⟨rfl, rfl, rfl⟩, rfl, rfl, rfl, rfl⟩⟩
  · exact (State.view_congr slots _).trans (State.view_setHolder_self .meshWait taken.view)
  · exact ((State.view_congr slots j).trans (State.view_setHolder_other v p.slot j .meshWait apart)).trans (taken.others j apart)
  · rw [slots, State.setHolder_queue, taken.queue]
  · rw [slots, State.setHolder_writer, taken.writer]

/-- Settling then moves no slot: a completion that waited still waits (R165). -/
theorem State.RecordLeaves.settle_slots {x : State} (leaves : s.RecordLeaves v x kind p) (taken : s.PostTaken v kind p)
    (host : s.view p.slot = .host) (held : s.CompletionsHeld) (noClaim : s.nextClaim = none) : x.settle.slots = x.slots := by
  obtain ⟨_, _, _, _, events, path, _⟩ := leaves.blocks
  have quiet : x.HostQuiet := .inl (by rw [path]; exact taken.host)
  rcases (State.nextClaim_none_iff s).mp noClaim with full | ⟨slot, _, _⟩
  · have full' : x.nextClaim = none := (State.nextClaim_none_iff x).mpr (.inl (by
      rw [path, taken.buffer]
      exact full))
    exact (State.settle_noClaim quiet full').2.1
  · refine x.settleFor_slots 24 quiet (State.slotClaim_none_of_views leaves.queue leaves.writer (fun d m => ?_) slot)
    refine leaves.others d.slot fun same => ?_
    obtain ⟨_, _, _, view⟩ := held d m
    rw [same, host] at view
    cases view

end

/-- What a corner record leaves of the part once it has settled. -/
structure State.Recorded (s t : State) (kind : Kind) (p : Post) (c : Corners) (needed : Half) : Prop where
  header : s.TakesHeader t p.slot (postHeader kind.number p)
  view : t.view p.slot = .part kind.number p.tag false .meshWait
  queue : t.slots.queue = s.slots.queue
  corners : t.mesh.corners = c
  applied : t.mesh.applied = s.mesh.applied
  gen : t.mesh.gen = s.mesh.gen
  waiting : t.mesh.waiting = s.mesh.waiting ++ [{ slot := p.slot, needed := needed }]
  builds : s.mesh.st = .idle → s.mesh.awaitRead = false → s.mesh.mark s.mesh.target = .free →
    t.mesh.st = .building ∧ t.mesh.dirty = false
      ∧ t.mesh.snapshot = some { params := { s.meshParams with corners := c }, gen := s.mesh.gen + 1, bank := s.mesh.target }
  busy : s.mesh.st = .building ∨ s.mesh.st = .flipPending → t.mesh.dirty = true ∧ t.mesh.snapshot = s.mesh.snapshot
  time : s.SameTime t
  lens : s.SameLens t
  cooling : s.SameCooling t
  news : s.SameNews t

theorem State.HeaderTaken.recorded {s v : State} {kind : Kind} {p : Post} (taken : s.PostTaken v kind p) (c : Corners)
    (host : s.view p.slot = .host) (held : s.CompletionsHeld) (noClaim : s.nextClaim = none) :
    s.Recorded (v.recorded p.slot c).meshRun.settle kind p c s.mesh.neededGen := by
  have leaves := taken.records c
  have slots := leaves.settle_slots taken host held noClaim
  obtain ⟨time, lens, cooling, notice, events, path, mem⟩ := leaves.blocks
  have quiet : (v.recorded p.slot c).meshRun.HostQuiet := .inl (by rw [path]; exact taken.host)
  have keeps := State.settle_keeps _ quiet
  have core : (v.recorded p.slot c).meshRun.settle.mesh.core = (v.recorded p.slot c).meshRun.mesh.core :=
    congrArg (fun i => i.2.2.2.2.2.2.2.2.1) keeps.inner
  obtain ⟨mem', time', lens', cooling', notice', p', c', lost', full'⟩ := keeps.blocks
  obtain ⟨corners, applied, gen, waiting⟩ := (v.recorded p.slot c).meshRun_keeps
  refine ⟨mem'.trans (mem.trans taken.mem), (State.view_congr slots _).trans leaves.view, (congrArg SlotUnit.queue slots).trans leaves.queue,
    (congrArg Mesh.corners core).trans corners, (congrArg Mesh.applied core).trans (applied.trans (show v.mesh.applied = _ by rw [taken.mesh])),
    (congrArg Mesh.gen core).trans (gen.trans (show v.mesh.gen = _ by rw [taken.mesh])),
    (congrArg Mesh.waiting core).trans (waiting.trans ?_), fun idle read free => ?_, fun busy => ?_,
    (taken.time.trans time).trans time', (taken.lens.trans lens).trans lens', (taken.cooling.trans cooling).trans cooling',
    notice'.trans (notice.trans taken.notice), ?_⟩
  · show v.mesh.waiting ++ _ = _
    rw [taken.mesh]
  · have begins : (v.recorded p.slot c).meshRun = (v.recorded p.slot c).takeSnapshot := by
      rw [← taken.mesh] at idle read free
      exact State.meshRun_begins idle rfl read free
    have params : (v.recorded p.slot c).meshParams = { s.meshParams with corners := c } := by
      show MeshParams.mk c (meshTerms v.mesh.applied.dx v.mesh.applied.dy) v.placement.orientation = _
      rw [taken.mesh, taken.lens.2.1]
      rfl
    have fills : (v.recorded p.slot c).meshRun.mesh.Filling
        { params := { s.meshParams with corners := c }, gen := s.mesh.gen + 1, bank := s.mesh.target } := by
      rw [begins, ← params, ← taken.mesh]
      exact ⟨rfl, rfl, rfl⟩
    have settled := State.settle_filling fills
    refine ⟨settled.building, (congrArg Mesh.dirty core).trans ?_, settled.snapshot⟩
    rw [begins]
    rfl
  · have same : (v.recorded p.slot c).meshRun = v.recorded p.slot c := by
      rw [← taken.mesh] at busy
      exact State.meshRun_busy busy
    refine ⟨(congrArg Mesh.dirty core).trans (by rw [same]; rfl), (congrArg Mesh.snapshot core).trans ?_⟩
    rw [same, ← taken.mesh]
    rfl
  · rw [p', c', lost', full', events, taken.events]
    exact ⟨rfl, rfl, rfl, rfl⟩

/-- A build that begins out of a ready state fills the buffer with its first words (R72). -/
theorem State.Ready.recordFills {s : State} {kind : Kind} {p : Post} (ready : s.Ready) (c : Corners) (idle : s.mesh.st = .idle)
    (read : s.mesh.awaitRead = false) (free : s.mesh.mark s.mesh.target = .free) :
    ((s.taken kind p).recorded p.slot c).meshRun.settle.path.buffer.map Entry.offset
      = (List.range 16).map (fun i => s.mesh.target.offset + i) := by
  have begins : ((s.taken kind p).recorded p.slot c).meshRun = ((s.taken kind p).recorded p.slot c).takeSnapshot :=
    State.meshRun_begins idle rfl read free
  have taken := ready.postTaken kind p
  have leaves := taken.records c
  obtain ⟨_, _, _, _, events, path, _⟩ := leaves.blocks
  have fills := State.settle_fills (x := ((s.taken kind p).recorded p.slot c).takeSnapshot)
    (sn := { params := ((s.taken kind p).recorded p.slot c).meshParams, gen := s.mesh.gen + 1, bank := s.mesh.target })
    ready.running (.inl ready.host) (State.slotClaim_none_of_queue _ (by rw [← begins, leaves.queue, ready.queue]))
    (ready.noEvent rfl) rfl rfl rfl ready.buffer
  rw [begins, fills]
  unfold Snapshot.words
  rw [List.map_map]
  rfl

/-! ### The validity check (R67) -/

theorem mem_allNodes {c r : Nat} : (c, r) ∈ allNodes ↔ c ≤ 8 ∧ r ≤ 6 := by
  unfold allNodes
  simp only [List.mem_flatMap, List.mem_map, List.mem_range, Prod.mk.injEq]
  constructor
  · rintro ⟨r', hr, c', hc, rfl, rfl⟩
    omega
  · rintro ⟨hc, hr⟩
    exact ⟨r, by omega, c, by omega, rfl, rfl⟩

theorem meshBounds_iff (m : MeshParams) : meshBounds m = true ↔
    ∀ c ≤ 8, ∀ r ≤ 6, 0 ≤ panelX m c r ∧ panelX m c r ≤ 30720 ∧ 0 ≤ panelY m c r ∧ panelY m c r ≤ 17280 := by
  unfold meshBounds
  simp only [List.all_eq_true, Prod.forall, mem_allNodes, Bool.and_eq_true, inRange_iff, and_assoc, and_imp]
  exact forall_congr' fun c => forall_comm

theorem meshRows_iff (m : MeshParams) : meshRows m = true ↔ ∀ c < 8, ∀ r ≤ 6, panelX m c r < panelX m (c + 1) r := by
  unfold meshRows
  simp only [List.all_eq_true, List.mem_range, decide_eq_true_iff]
  exact ⟨fun h c hc r hr => h r (by omega) c hc, fun h r hr c hc => h c hc r (by omega)⟩

theorem meshColumns_iff (m : MeshParams) : meshColumns m = true ↔ ∀ c ≤ 8, ∀ r < 6, panelY m c r < panelY m c (r + 1) := by
  unfold meshColumns
  simp only [List.all_eq_true, List.mem_range, decide_eq_true_iff]
  exact ⟨fun h c hc r hr => h c (by omega) r hr, fun h c hc r hr => h c (by omega) r hr⟩

/-- Settles O27: a valid record is taken the same way out of a ready state and out of one whose header write is on the port. -/
theorem cornerRecord : Obligations.CornerRecord := by
  refine ⟨fun s p kind body c needed posted len static which st => ?_, fun _ _ => rfl, fun w1 w2 w3 w4 => ?_, fun m => ?_⟩
  · intro first second
    have good := postCheck_passes len static
    have routes (v : State) : v.route p.slot kind body = v.takeCornerRecord p.slot c := by
      rcases which with ⟨rfl, rfl⟩ | ⟨rfl, rfl⟩ <;> rfl
    have gen : needed = s.mesh.neededGen := by
      unfold Mesh.neededGen
      rcases st with ⟨st | st, rfl⟩ | ⟨st | st, rfl⟩ <;> rw [st]
    refine ⟨fun ready why => ?_, fun left from_ valid pending => ?_⟩
    · have refused : (s.taken kind p).route p.slot kind body = (s.taken kind p).complete p.slot (refusedWith .meshLimit) [] :=
        (routes _).trans (State.takeCornerRecord_refused why)
      have t := ready.answer posted good (.of_taken s kind p) refused (by simp)
      obtain ⟨_, time, lens, cooling, news⟩ := t.keeps.blocks
      exact ⟨_, exec_requestRow s kind p, t.handsOver, t.ends, time, lens, cooling, t.mesh, news⟩
    · obtain ⟨v, taken, row, held, noClaim, buffer⟩ : ∃ v, s.PostTaken v kind p
          ∧ exec (requestRow kind p) s = .next (v.route p.slot kind body).settle ∧ s.CompletionsHeld ∧ s.nextClaim = none
          ∧ (s.Ready → s.mesh.st = .idle → s.mesh.awaitRead = false → s.mesh.mark s.mesh.target = .free →
            (v.recorded p.slot c).meshRun.settle.path.buffer.map Entry.offset
              = (List.range 16).map (fun i => s.mesh.target.offset + i)) := by
        rcases from_ with ready | ⟨way, held⟩
        · refine ⟨_, ready.postTaken kind p, ?_, fun d m => ?_, ready.toQuiet.noAction.1, fun _ => ready.recordFills c⟩
          · rw [exec_requestRow, State.postRow_routed kind ready posted good]
          · rw [ready.queue] at m
            cases m
        · obtain ⟨v, taken, row⟩ := way.takesPost posted good
          refine ⟨v, taken, row, held, way.toQuiet.noAction.1, fun ready => ?_⟩
          have port := way.port
          rw [ready.port] at port
          cases port
      have params : { v.meshParams with corners := c } = first := by
        show MeshParams.mk c (meshTerms v.mesh.applied.dx v.mesh.applied.dy) v.placement.orientation = _
        rw [taken.mesh, taken.lens.2.1]
        rfl
      have takes : v.takeCornerRecord p.slot c = (v.recorded p.slot c).meshRun := by
        refine State.takeCornerRecord_valid (by rw [params]; exact valid) fun runs => ?_
        unfold State.placementRuns at runs
        rw [taken.lens.2.1] at runs ⊢
        exact pending runs
      rw [routes, takes] at row
      have t := taken.recorded c posted.view held noClaim
      rw [gen]
      exact ⟨_, row, t.header, t.view, t.queue, t.corners, t.applied, t.gen, t.waiting, t.builds, buffer, t.busy, t.time, t.lens,
        t.cooling, t.news⟩
  · intro disp
    have half (w : Word) : dispOfWord w = disp w := by
      unfold dispOfWord
      rw [lowHalf_eq]
      rfl
    exact congr (congr (congr (congrArg Corners.mk (half w1)) (half w2)) (half w3)) (half w4)
  · unfold meshValid
    rw [Bool.and_eq_true, Bool.and_eq_true, meshBounds_iff, meshRows_iff, meshColumns_iff, and_assoc]

end Sys2Proof.Machine
end

section
/-! SUPPORT for O25 and O26. The split of a requested value, and the axes as a placement takes them (R3, R4, R7, R11, R58). -/

namespace Sys2Proof.Machine

/-! ### The split (R3, R4) -/

theorem le_floorDiv_iff {g : Nat} (positive : 0 < g) (n o : Int) : o ≤ floorDiv n g ↔ o * g ≤ n :=
  Int.le_ediv_iff_mul_le (by omega)

theorem ceilDiv_le_iff {g : Nat} (positive : 0 < g) (n o : Int) : ceilDiv n g ≤ o ↔ n ≤ o * g := by
  have flip := le_floorDiv_iff positive (-n) (-o)
  unfold floorDiv at flip
  unfold ceilDiv
  rw [Int.neg_mul] at flip
  omega

/-- Within the limits are the positions whose optical part is between the two quotients (R4). -/
theorem withinLimits_iff {c : AxisCfg} (positive : 0 < c.gainCenter.1) (o : Int) :
    (c.limits.1 ≤ c.gainCenter.2 + o * c.gainCenter.1 ∧ c.gainCenter.2 + o * c.gainCenter.1 ≤ c.limits.2)
      ↔ (ceilDiv (c.limits.1 - c.gainCenter.2) c.gainCenter.1 ≤ o ∧ o ≤ floorDiv (c.limits.2 - c.gainCenter.2) c.gainCenter.1) := by
  rw [le_floorDiv_iff positive, ceilDiv_le_iff positive]
  omega

theorem splitAxis_some {c : AxisCfg} {q : Int} {sp : AxisSplit} (positive : 0 < c.gainCenter.1) (e : splitAxis c q = some sp) :
    sp.optical + sp.remainder = q ∧ sp.target = c.gainCenter.2 + sp.optical * c.gainCenter.1
      ∧ c.limits.1 ≤ sp.target ∧ sp.target ≤ c.limits.2
      ∧ ∀ o : Int, c.limits.1 ≤ c.gainCenter.2 + o * c.gainCenter.1 → c.gainCenter.2 + o * c.gainCenter.1 ≤ c.limits.2 →
          (q - sp.optical).natAbs ≤ (q - o).natAbs := by
  have within := withinLimits_iff positive
  unfold splitAxis at e
  dsimp only at e
  generalize ceilDiv (c.limits.1 - c.gainCenter.2) c.gainCenter.1 = lo at *
  generalize floorDiv (c.limits.2 - c.gainCenter.2) c.gainCenter.1 = hi at *
  split at e
  · cases e
  · next order =>
    cases e
    have clamped : lo ≤ (if q < lo then lo else if hi < q then hi else q) ∧ (if q < lo then lo else if hi < q then hi else q) ≤ hi := by
      split
      · omega
      · split <;> omega
    obtain ⟨low, high⟩ := (within _).mpr clamped
    refine ⟨by dsimp only; omega, rfl, low, high, fun o low' high' => ?_⟩
    obtain ⟨above, below⟩ := (within o).mp ⟨low', high'⟩
    dsimp only
    split
    · omega
    · split <;> omega

theorem splitAxis_none {c : AxisCfg} {q : Int} (positive : 0 < c.gainCenter.1) (e : splitAxis c q = none) (o : Int) :
    c.gainCenter.2 + o * c.gainCenter.1 < c.limits.1 ∨ c.limits.2 < c.gainCenter.2 + o * c.gainCenter.1 := by
  have within := withinLimits_iff positive o
  unfold splitAxis at e
  dsimp only at e
  generalize ceilDiv (c.limits.1 - c.gainCenter.2) c.gainCenter.1 = lo at *
  generalize floorDiv (c.limits.2 - c.gainCenter.2) c.gainCenter.1 = hi at *
  split at e
  · omega
  · cases e

theorem sign_mul (o : Orientation) (x : Int) : sign o * x = if o = .floor then x else -x := by
  cases o with
  | floor => exact Int.one_mul x
  | ceiling => exact Int.neg_one_mul x

theorem State.split_some {s : State} {o : Orientation} {x y : Int} {sp : Split} (e : s.split o x y = some sp) :
    splitAxis s.axes.h.cfg (sign o * x) = some sp.h ∧ splitAxis s.axes.v.cfg (sign o * y) = some sp.v := by
  unfold State.split at e
  split at e
  · next h v eh ev =>
    cases e
    exact ⟨eh, ev⟩
  · cases e

/-! ### One axis (R7, R58) -/

/-- The axis as its placement target finds it: retargeted in place, started at FAR, or counted as settled. -/
structure Axis.Placed (x y : Axis) (target : Int) (settled : Bool) : Prop where
  retargets : x.runsPlacement = true → x.st = .moving ∨ x.st = .settling → (x.retarget target).SameButDrive y ∧ settled = false
  starts : x.st = .idle → x.cfg.bands.2.2 < (target - x.counter.toInt).natAbs →
    (y.st = .moving ∧ y.target = target ∧ ∃ m, y.move = some m ∧ m.Fresh .placement none target .far) ∧ settled = false
  rests : x.st = .idle → (target - x.counter.toInt).natAbs ≤ x.cfg.bands.2.2 → x.SameButDrive y ∧ settled = true

theorem Axis.Placed.trans {x y z : Axis} {target : Int} {settled : Bool} (h : x.Placed y target settled) (r : y.SameButDrive z) :
    x.Placed z target settled where
  retargets := fun runs st => ⟨(h.retargets runs st).1.trans r, (h.retargets runs st).2⟩
  starts := fun idle far => by
    rw [r.eq]
    exact h.starts idle far
  rests := fun idle near => ⟨(h.rests idle near).1.trans r, (h.rests idle near).2⟩

theorem Axis.SameButDrive.retarget {x y : Axis} (r : x.SameButDrive y) (target : Int) :
    (x.retarget target).SameButDrive (y.retarget target) := by
  rw [r.eq]
  rfl

theorem Axis.Placed.of_same {x y z : Axis} {target : Int} {settled : Bool} (r : x.SameButDrive y) (h : y.Placed z target settled) :
    x.Placed z target settled := by
  have eq := r.eq
  refine ⟨fun runs st => ?_, fun idle far => ?_, fun idle near => ?_⟩
  · obtain ⟨same, unsettled⟩ := h.retargets (r.runsPlacement.trans runs) (by rw [eq]; exact st)
    exact ⟨(r.retarget target).trans same, unsettled⟩
  · exact h.starts (by rw [eq]; exact idle) (by rw [eq]; exact far)
  · obtain ⟨same, settled⟩ := h.rests (by rw [eq]; exact idle) (by rw [eq]; exact near)
    exact ⟨r.trans same, settled⟩

/-- The axis at the start of its placement move (R7, R43). -/
def Axis.placing (x : Axis) (target : Int) : Axis :=
  { x with st := .moving, move := some (freshMove .placement none target .far x.counter), target := target }

/-- What the taking of one axis changes. -/
structure State.AxisPlaced (u w : State) (a : AxisId) : Prop where
  blocks : u.LensOnly w
  placement : w.placement = { u.placement with settled := u.placement.settled.set a (w.placement.settled.get a) }
  axis : (u.axis a).Placed (w.axis a) (u.placement.targets.get a) (w.placement.settled.get a)
  other : (u.axis (otherAxis a)).SameButDrive (w.axis (otherAxis a))

theorem State.placeAxis_placed (u : State) (a : AxisId) : u.AxisPlaced (u.placeAxis a) a := by
  have flag (b : Bool) : (u.placement.settled.set a b).get a = b := PerAxis.get_set_self _ _ _
  unfold State.placeAxis
  dsimp only
  split
  · next run =>
    have axis : ((u.setAxis a ((u.axis a).retarget (u.placement.targets.get a))).setProgress a false).axis a
        = (u.axis a).retarget (u.placement.targets.get a) := State.axis_setAxis_self u a _
    have other : ((u.setAxis a ((u.axis a).retarget (u.placement.targets.get a))).setProgress a false).axis (otherAxis a)
        = u.axis (otherAxis a) := State.axis_setAxis_other u a (otherAxis a) _ (otherAxis_ne a)
    refine ⟨rfl, ?_, ⟨fun _ _ => ⟨?_, flag false⟩, fun idle => ?_, fun idle => ?_⟩, ?_⟩
    · show _ = { u.placement with settled := u.placement.settled.set a ((u.placement.settled.set a false).get a) }
      rw [flag]
      rfl
    · rw [axis]
      exact .refl _
    · rcases run.2 with st | st <;> rw [st] at idle <;> cases idle
    · rcases run.2 with st | st <;> rw [st] at idle <;> cases idle
    · rw [other]
      exact .refl _
  · next still =>
    split
    · next idle =>
      split
      · next near =>
        refine ⟨rfl, ?_, ⟨fun _ st => ?_, fun _ far => absurd near (by omega), fun _ _ => ⟨.refl _, flag true⟩⟩, .refl _⟩
        · show _ = { u.placement with settled := u.placement.settled.set a ((u.placement.settled.set a true).get a) }
          rw [flag]
          rfl
        · rcases st with st | st <;> rw [idle] at st <;> cases st
      · next far =>
        have axis := (u.setProgress a false).launch_axis a ((u.axis a).placing (u.placement.targets.get a)) .zero
        have other := (u.setProgress a false).launch_other a ((u.axis a).placing (u.placement.targets.get a)) .zero
        refine ⟨rfl, ?_, ⟨fun _ st => ?_, fun _ _ => ⟨?_, flag false⟩, fun _ near => absurd near far⟩, other⟩
        · show _ = { u.placement with settled := u.placement.settled.set a ((u.placement.settled.set a false).get a) }
          rw [flag]
          rfl
        · rcases st with st | st <;> rw [idle] at st <;> cases st
        · have begins : ((u.setProgress a false).startMove a .placement none (u.placement.targets.get a) .far).axis a = _ := axis.eq
          rw [begins]
          exact ⟨rfl, rfl, freshMove .placement none (u.placement.targets.get a) .far (u.axis a).counter, rfl, rfl, rfl, rfl, rfl, rfl, rfl, rfl,
            rfl, rfl, rfl, rfl⟩
    · next moves =>
      refine ⟨rfl, ?_, ⟨fun runs st => absurd ⟨runs, st⟩ still, fun idle => absurd idle moves, fun idle => absurd idle moves⟩, .refl _⟩
      show _ = { u.placement with settled := u.placement.settled.set a ((u.placement.settled.set a false).get a) }
      rw [flag]
      rfl

/-! ### Both axes (R7) -/

/-- Both axes have been taken. -/
structure State.BothPlaced (u w : State) : Prop where
  blocks : u.LensOnly w
  placement : w.placement = { u.placement with settled := w.placement.settled }
  axis : ∀ a, (u.axis a).Placed (w.axis a) (u.placement.targets.get a) (w.placement.settled.get a)

theorem State.bothPlaced (u : State) : u.BothPlaced ((u.placeAxis .h).placeAxis .v) := by
  have first := u.placeAxis_placed .h
  generalize u.placeAxis .h = t at *
  have second := t.placeAxis_placed .v
  generalize t.placeAxis .v = w at *
  have settled : w.placement.settled.get .h = t.placement.settled.get .h := by
    rw [second.placement]
    rfl
  have targets : t.placement.targets = u.placement.targets := by rw [first.placement]
  refine ⟨first.blocks.trans second.blocks, ?_, fun a => ?_⟩
  · rw [second.placement, first.placement]
  · cases a with
    | h =>
      rw [settled]
      exact first.axis.trans second.other
    | v =>
      rw [← targets]
      exact Axis.Placed.of_same first.other second.axis

end Sys2Proof.Machine
end

section
/-! SUPPORT for O25 and O26. A split that the placement unit has taken, through the apply and the settling (R7, R8, R11, R15). -/

namespace Sys2Proof.Machine

/-! ### The apply (R8) -/

/-- The apply, or nothing while an axis has still to settle: the placement and the mesh generator alone differ. -/
structure State.MayApply (w t : State) : Prop where
  blocks : t = { w with placement := t.placement, mesh := t.mesh }
  placement : t.placement = { w.placement with status := t.placement.status, needed := t.placement.needed }
  applies : t.AppliesWhenSettled
  waits : t.placement.status = .moving → t.mesh = w.mesh

theorem PerAxis.both_true {p : PerAxis Bool} : p = { h := true, v := true } ↔ p.h = true ∧ p.v = true := by
  obtain ⟨h, v⟩ := p
  simp

theorem State.maybeApply_applies {w : State} (moving : w.placement.status = .moving) : w.MayApply w.maybeApply := by
  unfold State.maybeApply
  split
  · next settles =>
    obtain ⟨blocks, placement, applied⟩ := w.applyPlacement_blocks
    refine ⟨blocks, by rw [placement], ⟨fun _ => ?_, fun unsettled => ?_⟩, fun still => ?_⟩
    · rw [applied, placement]
      exact ⟨rfl, rfl⟩
    · rw [placement] at unsettled
      exact absurd (PerAxis.both_true.mpr settles.2) unsettled
    · rw [placement] at still
      cases still
  · next waits =>
    exact ⟨rfl, rfl, ⟨fun settles => absurd ⟨moving, PerAxis.both_true.mp settles⟩ waits, fun _ => moving⟩, fun _ => rfl⟩

/-! ### The split in the record (R7, R11, R15) -/

/-- The placement unit works on a split for a slot, and each axis has been taken against it. -/
structure State.SplitTaken (s t : State) (o : Orientation) (sp : Split) (k : SlotId) (x y : Int) : Prop where
  reqX : t.placement.reqX = x
  reqY : t.placement.reqY = y
  holds : t.HoldsSplit o sp k
  firstFailure : t.placement.firstFailure = none
  noisy : t.placement.noisy = false
  axis : ∀ a, (s.axis a).Placed (t.axis a) (t.placement.targets.get a) (t.placement.settled.get a)
  applies : t.AppliesWhenSettled

section
variable {s t : State} {o : Orientation} {sp : Split} {k : SlotId} {x y : Int}

theorem State.SplitTaken.settled {u : State} (h : s.SplitTaken t o sp k x y) (axes : u.axes = t.axes)
    (placement : u.placement = t.placement) (applied : u.mesh.applied = t.mesh.applied) : s.SplitTaken u o sp k x y := by
  obtain ⟨reqX, reqY, holds, firstFailure, noisy, axis, applies⟩ := h
  unfold State.HoldsSplit at holds
  unfold State.AppliesWhenSettled at applies
  rw [← placement] at reqX reqY holds firstFailure noisy axis applies
  rw [← applied] at applies
  refine ⟨reqX, reqY, holds, firstFailure, noisy, fun a => ?_, applies⟩
  rw [State.axis_of_axes axes]
  exact axis a

theorem State.SplitTaken.of_same {u : State} (same : ∀ a, (s.axis a).SameButDrive (u.axis a)) (h : u.SplitTaken t o sp k x y) :
    s.SplitTaken t o sp k x y :=
  { h with axis := fun a => Axis.Placed.of_same (same a) (h.axis a) }

theorem State.SplitTaken.moving (h : s.SplitTaken t o sp k x y) {a : AxisId} (unsettled : t.placement.settled.get a = false) :
    t.placement.status = .moving := by
  refine h.applies.2 fun both => ?_
  rw [both] at unsettled
  cases a <;> cases unsettled

theorem State.SplitTaken.takesAxis (h : s.SplitTaken t o sp k x y) {a : AxisId} (idle : (s.axis a).st = .idle) : s.TakesAxis t a := by
  refine ⟨fun far => ?_, (h.axis a).rests idle⟩
  obtain ⟨⟨st, target, move⟩, unsettled⟩ := (h.axis a).starts idle far
  exact ⟨st, target, move, h.moving unsettled, unsettled⟩

end

theorem State.setHolder_placement (s : State) (m : Placement) (k : SlotId) (g : Holder) :
    State.setHolder { s with placement := m } k g = { s with placement := m, slots := (s.setHolder k g).slots } := by
  unfold State.setHolder
  rw [State.view_congr (s := s) (t := { s with placement := m }) rfl k]
  cases s.view k <;> rfl

theorem State.takeSplit_eq (v : State) (o : Orientation) (sp : Split) (k : SlotId) : v.takeSplit o sp k =
    { v with
      slots := (v.setHolder k .placement).slots
      placement := { v.placement with
        status := .moving
        optical := { h := sp.h.optical, v := sp.v.optical }
        targets := { h := sp.h.target, v := sp.v.target }
        remX := sp.remX o
        remY := sp.remY o
        needed := 0
        firstFailure := none
        noisy := false
        ref := some k } } := State.setHolder_placement v _ k .placement

/-- Lens and mesh generator alone differ, and the slots are the ones named. -/
def State.LensMeshAnd (v : State) (slots : SlotUnit) (t : State) : Prop :=
  t = { v with slots := slots, axes := t.axes, placement := t.placement, budget := t.budget, mesh := t.mesh }

theorem State.blocks_withMesh (w : State) : w = { w with mesh := w.mesh } := rfl

/-- A slot's split has come into the record, and both axes have been taken; the generator may have moved meanwhile. -/
theorem State.splitTaken {v w : State} {o : Orientation} {sp : Split} {k : SlotId} (orientation : v.placement.orientation = o)
    (blocks : w = { ((v.takeSplit o sp k).placeAxis .h).placeAxis .v with mesh := w.mesh }) :
    v.SplitTaken w.maybeApply o sp k v.placement.reqX v.placement.reqY ∧ w.MayApply w.maybeApply
      ∧ v.LensMeshAnd (v.setHolder k .placement).slots w.maybeApply := by
  have placed := (v.takeSplit o sp k).bothPlaced
  have split := congrArg State.placement (v.takeSplit_eq o sp k)
  have axes : (v.takeSplit o sp k).axes = v.axes := by rw [v.takeSplit_eq]
  have leaves := v.takeSplit_eq o sp k
  generalize v.takeSplit o sp k = u at *
  generalize (u.placeAxis .h).placeAxis .v = x at *
  have placement : w.placement = x.placement := by rw [blocks]
  have axes' : w.axes = x.axes := by rw [blocks]
  have applies := State.maybeApply_applies (w := w) (by rw [placement, placed.placement, split])
  have lens := placed.blocks
  unfold State.LensOnly at lens
  rw [leaves] at lens
  refine ⟨?_, applies, by
    unfold State.LensMeshAnd
    rw [applies.blocks, blocks, lens]⟩
  generalize w.maybeApply = z at *
  have record := applies.placement
  rw [placement, placed.placement, split] at record
  have settled : z.placement.settled = x.placement.settled := by rw [applies.placement, placement]
  refine ⟨by rw [record], by rw [record], ?_, by rw [record], by rw [record], fun a => ?_, applies.applies⟩
  · unfold State.HoldsSplit
    rw [record]
    exact ⟨rfl, orientation, rfl, rfl, rfl, rfl⟩
  · have axis := placed.axis a
    rw [State.axis_of_axes axes, split] at axis
    rw [settled, show z.axis a = x.axis a from State.axis_of_axes (Eq.trans (by rw [applies.blocks]) axes') a]
    rw [record]
    exact axis

end Sys2Proof.Machine
end

section
/-! SUPPORT for O25. PLACE: the checks of R6 in order, and the settled answers (R6, R7, R11). -/

namespace Sys2Proof.Machine

/-! ### The checks (R6) -/

theorem State.axis_exists {P : Axis → Prop} {s : State} : (∃ a, P (s.axis a)) ↔ P s.axes.h ∨ P s.axes.v := by
  constructor
  · rintro ⟨a, holds⟩
    cases a
    · exact .inl holds
    · exact .inr holds
  · rintro (holds | holds)
    · exact ⟨.h, holds⟩
    · exact ⟨.v, holds⟩

theorem State.placeCheck_refused {s : State} {code : ResCode} (why : s.PlaceRefusal code) : s.placeCheck = some code := by
  unfold State.placeCheck State.autonomous
  rcases why with ⟨mode, rfl⟩ | ⟨mode, host, rfl⟩ | ⟨mode, host, lock, rfl⟩ | ⟨mode, host, lock, level, rfl⟩ | ⟨free, fault, rfl⟩
    | ⟨free, sound, home, rfl⟩
  · simp [mode]
  · simp [mode, host]
  · simp [mode, host, lock]
  · simp [mode, host, lock, level]
  · have fault' := State.axis_exists (P := fun x => x.st = .fault).mp fault
    simp [free.mode, free.host, free.interlock, free.level, fault']
  · have sound' : ¬ (s.axes.h.st = .fault ∨ s.axes.v.st = .fault) := fun q => q.elim (sound .h) (sound .v)
    have home' := State.axis_exists (P := fun x => x.homed = false).mp home
    simp [free.mode, free.host, free.interlock, free.level, sound', home']

theorem State.placeCheck_none {s : State} (free : s.FreeToMove) (sound : ∀ a, (s.axis a).st ≠ .fault)
    (homed : ∀ a, (s.axis a).homed = true) : s.placeCheck = none := by
  have h : s.axes.h.st ≠ .fault ∧ s.axes.h.homed = true := ⟨sound .h, homed .h⟩
  have v : s.axes.v.st ≠ .fault ∧ s.axes.v.homed = true := ⟨sound .v, homed .v⟩
  simp [State.placeCheck, State.autonomous, free.mode, free.host, free.interlock, free.level, h, v]

theorem Axis.busy_iff (x : Axis) : x.busy = true ↔ x.Busy := by
  unfold Axis.busy Axis.Busy
  cases x.move <;> simp [or_assoc]

theorem Axis.notBusy_of_rest {x : Axis} (idle : x.st = .idle) (move : x.move = none) (queue : x.queue = []) : ¬ x.Busy := by
  rintro (⟨m, e, _⟩ | waits | stops)
  · rw [move] at e
    cases e
  · exact waits queue
  · rw [idle] at stops
    cases stops

theorem State.axesBusy_iff (s : State) : s.axesBusy = true ↔ ∃ a, (s.axis a).Busy := by
  rw [State.axis_exists (P := Axis.Busy)]
  simp [State.axesBusy, Axis.busy_iff]

theorem State.axesBusy_false {s : State} (free : ∀ a, ¬ (s.axis a).Busy) : s.axesBusy = false := by
  rw [← Bool.not_eq_true, State.axesBusy_iff]
  rintro ⟨a, busy⟩
  exact free a busy

theorem State.refIsOrient_of_view {s : State} {k : SlotId} {kind : BitVec 6} {tag : BitVec 8} {taken : Bool} {h : Holder}
    (ref : s.placement.ref = some k) (view : s.view k = .part kind tag taken h) : s.refIsOrient = (kind == Kind.orient.number) := by
  unfold State.refIsOrient
  rw [ref]
  dsimp only
  rw [view]

/-- What the checks make of a PLACE: the first that fails refuses it (R6). -/
inductive State.PlaceFails (s : State) (x y : Int) : ResCode → Prop where
  | early {code : ResCode} (check : s.placeCheck = some code) : s.PlaceFails x y code
  | orient (check : s.placeCheck = none) (runs : s.placementRuns = true) (orient : s.refIsOrient = true) : s.PlaceFails x y .placementBusy
  | busy (check : s.placeCheck = none) (free : (s.placementRuns && s.refIsOrient) = false) (busy : s.axesBusy = true) :
    s.PlaceFails x y .axisBusy
  | range (check : s.placeCheck = none) (free : (s.placementRuns && s.refIsOrient) = false) (rest : s.axesBusy = false)
    (split : s.split s.placement.orientation x y = none) : s.PlaceFails x y .outOfRange
  | mesh {sp : Split} (check : s.placeCheck = none) (free : (s.placementRuns && s.refIsOrient) = false) (rest : s.axesBusy = false)
    (split : s.split s.placement.orientation x y = some sp) (invalid : meshValid (s.splitMesh s.placement.orientation sp) = false) :
    s.PlaceFails x y .meshLimit

theorem State.takePlace_refused {s : State} {k : SlotId} {w1 w2 : Word} {code : ResCode} (fails : s.PlaceFails w1.toInt w2.toInt code) :
    s.takePlace k [w1, w2] = s.complete k (refusedWith code) [] := by
  show (match s.placeCheck with
    | some c => s.complete k (refusedWith c) []
    | none => _) = _
  cases fails with
  | early check => rw [check]
  | orient check runs orient =>
    rw [check]
    exact if_pos (by rw [runs, orient]; rfl)
  | busy check free busy =>
    rw [check]
    exact (if_neg (by rw [free]; decide)).trans (if_pos busy)
  | range check free rest split =>
    rw [check]
    refine (if_neg (by rw [free]; decide)).trans ((if_neg (by rw [rest]; decide)).trans ?_)
    show (match s.split s.placement.orientation w1.toInt w2.toInt with
      | none => s.complete k (refusedWith .outOfRange) []
      | some p => _) = _
    rw [split]
  | mesh check free rest split invalid =>
    rw [check]
    refine (if_neg (by rw [free]; decide)).trans ((if_neg (by rw [rest]; decide)).trans ?_)
    show (match s.split s.placement.orientation w1.toInt w2.toInt with
      | none => _
      | some p => if meshValid (s.splitMesh s.placement.orientation p) then s.startPlace k w1.toInt w2.toInt p
        else s.complete k (refusedWith .meshLimit) []) = _
    rw [split]
    exact if_neg (by rw [invalid]; decide)

theorem State.takePlace_starts {s : State} {k : SlotId} {w1 w2 : Word} {sp : Split} (check : s.placeCheck = none)
    (free : (s.placementRuns && s.refIsOrient) = false) (rest : s.axesBusy = false)
    (split : s.split s.placement.orientation w1.toInt w2.toInt = some sp)
    (valid : meshValid (s.splitMesh s.placement.orientation sp) = true) :
    s.takePlace k [w1, w2] = s.startPlace k w1.toInt w2.toInt sp := by
  show (match s.placeCheck with
    | some c => s.complete k (refusedWith c) []
    | none => _) = _
  rw [check]
  refine (if_neg (by rw [free]; decide)).trans ((if_neg (by rw [rest]; decide)).trans ?_)
  show (match s.split s.placement.orientation w1.toInt w2.toInt with
    | none => _
    | some p => if meshValid (s.splitMesh s.placement.orientation p) then s.startPlace k w1.toInt w2.toInt p
      else s.complete k (refusedWith .meshLimit) []) = _
  rw [split]
  exact if_pos valid

/-! ### The settled answer (R7, R11) -/

/-- Completions that all have a body wait, and no slot's view changes, while the part settles (R165). -/
theorem State.settle_bodies {x : State} (quiet : x.HostQuiet) (writer : x.slots.writer = Initial.progress)
    (bodies : ∀ c ∈ x.slots.queue, c.body ≠ []) : x.settle.slots.queue = x.slots.queue ∧ ∀ k, x.settle.view k = x.view k := by
  cases queue : x.slots.queue with
  | nil =>
    have same := State.settle_slots x quiet queue
    exact ⟨(congrArg SlotUnit.queue same).trans queue, State.view_congr same⟩
  | cons c rest =>
    have waits := State.settle_headWaits queue (bodies c (by simp [queue])) writer quiet
    exact ⟨waits.queue.trans queue, waits.view⟩

/-- A placement has been taken out of a ready state, and the part has settled. -/
structure State.PlacementStands (s z t : State) (kind : Kind) (p : Post) : Prop where
  handsOver : s.HandsOver t kind p
  queue : t.slots.queue = z.slots.queue
  view : ∀ k, t.view k = z.view k
  axes : t.axes = z.axes
  placement : t.placement = z.placement
  core : t.mesh.core = z.mesh.core
  cooling : z.SameCooling t
  time : s.SameTime t
  news : s.SameNews t

theorem State.Ready.placementStands {s z : State} {kind : Kind} {p : Post} (h : s.Ready) (outer : z.outer = (s.taken kind p).outer)
    (writer : z.slots.writer = s.slots.writer) (bodies : ∀ c ∈ z.slots.queue, c.body ≠ []) (events : z.events = s.events)
    (notice : z.notice = s.notice) : s.PlacementStands z z.settle kind p := by
  obtain ⟨_, _, _, _, host, mem, time⟩ := h.takenPath outer
  have quiet : z.HostQuiet := .inl host
  have keeps := State.settle_keeps z quiet
  obtain ⟨mem', time', ⟨axes, placement, _⟩, cooling, notice', p', c', lost, full⟩ := keeps.blocks
  obtain ⟨queue, view⟩ := State.settle_bodies quiet (writer.trans h.writer) bodies
  refine ⟨h.handsOver (mem'.trans mem), queue, view, axes, placement, congrArg (fun i => i.2.2.2.2.2.2.2.2.1) keeps.inner, cooling,
    time.trans time', notice'.trans notice, ?_⟩
  rw [events] at p' c' lost full
  exact ⟨p', c', lost, full⟩

/-- The requested value stands in the record; an earlier request may have ended. -/
def State.requested (s : State) (slots : SlotUnit) (x y : Int) : State :=
  { s with slots := slots, placement := { s.placement with reqX := x, reqY := y } }

theorem State.startPlace_supersedes {s : State} {j : SlotId} (runs : s.placementRuns = true) (ref : s.placement.ref = some j)
    (k : SlotId) (x y : Int) (sp : Split) : s.startPlace k x y sp
      = ((((s.requested (s.complete j (endedWith .superseded) s.positions).slots x y).takeSplit s.placement.orientation sp k).placeAxis
        .h).placeAxis .v).maybeApply := by
  have ended : s.completeRef s.placement.ref (endedWith .superseded) s.positions
      = { s with slots := (s.complete j (endedWith .superseded) s.positions).slots } := by
    rw [ref]
    exact State.complete_eq _ _ _ _
  unfold State.startPlace
  dsimp only
  rw [if_pos runs, ended]
  rfl

/-- A PLACE that passes its checks, with an earlier one ended or none (R7, R11). -/
theorem State.Ready.placed {s : State} {p : Post} {w1 w2 : Word} {sp : Split} {slots : SlotUnit} (h : s.Ready) (posted : s.Posted p [w1, w2])
    (static : staticOk .place [w1, w2] = true)
    (routes : (s.taken .place p).route p.slot .place [w1, w2]
      = (((((s.taken .place p).requested slots w1.toInt w2.toInt).takeSplit s.placement.orientation sp p.slot).placeAxis .h).placeAxis
        .v).maybeApply)
    (writer : slots.writer = s.slots.writer) (bodies : ∀ c ∈ slots.queue, c.body ≠ []) :
    ∃ t, exec (.place p) s = .next t ∧ s.HandsOver t .place p ∧ t.slots.queue = slots.queue
      ∧ (∀ k, t.view k = (((s.taken .place p).requested slots w1.toInt w2.toInt).setHolder p.slot .placement).view k)
      ∧ s.SplitTaken t s.placement.orientation sp p.slot w1.toInt w2.toInt ∧ s.SameTime t ∧ s.SameCooling t ∧ s.SameNews t := by
  have good : postCheck .place false [w1, w2] = none := postCheck_passes rfl static
  obtain ⟨split, _, only⟩ := State.splitTaken (v := (s.taken .place p).requested slots w1.toInt w2.toInt) (o := s.placement.orientation) (sp := sp)
    (k := p.slot) rfl (State.blocks_withMesh (((((s.taken .place p).requested slots w1.toInt w2.toInt).takeSplit s.placement.orientation sp
      p.slot).placeAxis .h).placeAxis .v))
  rw [← routes] at split only
  have row := State.postRow_routed .place h posted good
  generalize (s.taken .place p).route p.slot .place [w1, w2] = z at *
  have slots' : z.slots = (((s.taken .place p).requested slots w1.toInt w2.toInt).setHolder p.slot .placement).slots := by rw [only]
  have t := h.placementStands (z := z) (kind := .place) (p := p) (by rw [only]; rfl)
    (by rw [slots', State.setHolder_writer]; exact writer)
    (by rw [slots', State.setHolder_queue]; exact bodies) (by rw [only]; rfl) (by rw [only]; rfl)
  have cooling : s.SameCooling z := by
    rw [only]
    exact ⟨rfl, rfl, rfl⟩
  exact ⟨_, congrArg Host.Outcome.next row, t.handsOver, t.queue.trans (by rw [slots', State.setHolder_queue]; rfl),
    fun k => (t.view k).trans (State.view_congr slots' k),
    (State.SplitTaken.of_same (s := s) (u := (s.taken .place p).requested slots w1.toInt w2.toInt) (fun a => .refl (s.axis a))
      split).settled t.axes t.placement ((congrArg Mesh.applied t.core).trans rfl), t.time,
    cooling.trans t.cooling, t.news⟩

theorem State.Ready.view_taken_other {s : State} (h : s.Ready) (kind : Kind) {p : Post} {body : List Word} (posted : s.Posted p body)
    {k : SlotId} {code : BitVec 6} {tag : BitVec 8} {taken : Bool} {g : Holder} (view : s.view k = .part code tag taken g) :
    k ≠ p.slot ∧ (s.taken kind p).view k = .part code tag taken g := by
  have apart : k ≠ p.slot := fun same => by
    rw [same, posted.view] at view
    cases view
  exact ⟨apart, ((h.postTaken kind p).others k apart).trans view⟩

/-- No ORIENT is in the way of a PLACE that may be placed (R6 check 7). -/
theorem State.Ready.noOrient {s : State} (h : s.Ready) {p : Post} {body : List Word} (posted : s.Posted p body) (may : s.MayPlace) :
    ((s.taken .place p).placementRuns && (s.taken .place p).refIsOrient) = false := by
  cases runs : (s.taken .place p).placementRuns with
  | false => rfl
  | true =>
    obtain ⟨k, tag, taken, ref, view⟩ := may.noOrient runs
    obtain ⟨_, view'⟩ := h.view_taken_other .place posted view
    rw [State.refIsOrient_of_view (s := s.taken .place p) ref view']
    rfl

theorem State.Ready.placeFails {s : State} (h : s.Ready) {p : Post} {w1 w2 : Word} {code : ResCode} (posted : s.Posted p [w1, w2])
    (why : s.PlaceRefusal code
      ∨ (s.FreeToMove ∧ (∀ a, (s.axis a).st ≠ .fault ∧ (s.axis a).homed = true) ∧ s.placementRuns = true
          ∧ (∃ k tag taken, s.placement.ref = some k ∧ s.view k = .part 11 tag taken .placement)
          ∧ code = .placementBusy)
      ∨ (s.MayPlace ∧ (∃ a, (s.axis a).Busy) ∧ code = .axisBusy)
      ∨ (s.MayPlace ∧ (∀ a, ¬ (s.axis a).Busy)
          ∧ s.split s.placement.orientation w1.toInt w2.toInt = none ∧ code = .outOfRange)
      ∨ (s.MayPlace ∧ (∀ a, ¬ (s.axis a).Busy)
          ∧ (∃ sp, s.split s.placement.orientation w1.toInt w2.toInt = some sp
              ∧ meshValid (s.splitMesh s.placement.orientation sp) = false)
          ∧ code = .meshLimit)) :
    (s.taken .place p).PlaceFails w1.toInt w2.toInt code := by
  have passes (may : s.MayPlace) : (s.taken .place p).placeCheck = none :=
    State.placeCheck_none (s := s) may.toFreeToMove may.noFault may.homed
  rcases why with early | ⟨free, sound, runs, ⟨k, tag, taken, ref, view⟩, rfl⟩ | ⟨may, busy, rfl⟩ | ⟨may, rest, split, rfl⟩
    | ⟨may, rest, ⟨sp, split, invalid⟩, rfl⟩
  · exact .early (State.placeCheck_refused (s := s) early)
  · obtain ⟨_, view'⟩ := h.view_taken_other .place posted view
    exact .orient (State.placeCheck_none (s := s) free (fun a => (sound a).1) fun a => (sound a).2) runs
      (State.refIsOrient_of_view (s := s.taken .place p) ref view')
  · exact .busy (passes may) (h.noOrient posted may) (s.axesBusy_iff.mpr busy)
  · exact .range (passes may) (h.noOrient posted may) (State.axesBusy_false (s := s) rest) split
  · exact .mesh (passes may) (h.noOrient posted may) (State.axesBusy_false (s := s) rest) split invalid

/-- Settles O25: the checks in their order, the earlier request's end, and the axes one after the other; the split is R4's. -/
theorem placeAnswers : Obligations.PlaceAnswers := by
  refine ⟨⟨fun s p w1 w2 sp h posted static free still rest split valid => ?_, fun s p w1 w2 code h posted static why => ?_⟩,
    fun s p w1 w2 sp k tag taken h posted static may rest runs ref view split valid => ?_, fun c q sp => splitAxis_some,
    fun c q => splitAxis_none, fun s o x y sp e => ?_⟩
  · have routes : (s.taken .place p).takePlace p.slot [w1, w2] = (s.taken .place p).startPlace p.slot w1.toInt w2.toInt sp := by
      refine State.takePlace_starts (s := s.taken .place p) ?_ ?_ ?_ split valid
      · exact State.placeCheck_none (s := s) free (fun a => by rw [(rest a).1]; decide) fun a => (rest a).2.1
      · rw [show (s.taken .place p).placementRuns = false from still]
        rfl
      · exact State.axesBusy_false (s := s) fun a => Axis.notBusy_of_rest (rest a).1 (rest a).2.2.1 (rest a).2.2.2
    have starts : (s.taken .place p).startPlace p.slot w1.toInt w2.toInt sp
        = (((((s.taken .place p).requested (s.taken .place p).slots w1.toInt w2.toInt).takeSplit s.placement.orientation sp p.slot).placeAxis
          .h).placeAxis .v).maybeApply := by
      unfold State.startPlace
      rw [if_neg (show ¬ (s.taken .place p).placementRuns = true by
        rw [show (s.taken .place p).placementRuns = false from still]
        decide)]
      rfl
    obtain ⟨t, row, hands, queue, views, stands, time, cooling, news⟩ := h.placed (slots := (s.taken .place p).slots) posted static
      (routes.trans starts) rfl (by
        rw [show (s.taken .place p).slots.queue = [] from h.queue]
        exact nofun)
    refine ⟨t, row, hands, (views p.slot).trans ?_, queue.trans h.queue, stands.reqX, stands.reqY, stands.holds, stands.firstFailure,
      stands.noisy, fun a => stands.takesAxis (rest a).1, stands.applies, time, cooling, news⟩
    exact State.view_setHolder_self .placement (State.view_setView_self (s.handed 8 p) p.slot _)
  · have t := h.answer posted (postCheck_passes rfl static) (.of_taken s .place p) (State.takePlace_refused (h.placeFails posted why))
      (by simp)
    obtain ⟨_, time, lens, cooling, news⟩ := t.keeps.blocks
    exact ⟨_, rfl, t.handsOver, t.ends, time, lens, cooling, t.mesh, news⟩
  · obtain ⟨apart, view'⟩ := h.view_taken_other .place posted view
    have routes : (s.taken .place p).takePlace p.slot [w1, w2] = (s.taken .place p).startPlace p.slot w1.toInt w2.toInt sp :=
      State.takePlace_starts (s := s.taken .place p) (State.placeCheck_none (s := s) may.toFreeToMove may.noFault may.homed)
        (h.noOrient posted may) (State.axesBusy_false (s := s) rest) split valid
    obtain ⟨queue₀, writer₀⟩ := State.complete_queue (s.taken .place p) k (endedWith .superseded) s.positions
    have self : ((s.taken .place p).complete k (endedWith .superseded) s.positions).view k = .part 8 tag taken .completing :=
      State.view_setHolder_self .completing view'
    have other := State.view_complete_other (s.taken .place p) k p.slot (endedWith .superseded) s.positions apart.symm
    have starts : (s.taken .place p).startPlace p.slot w1.toInt w2.toInt sp
        = (((((s.taken .place p).requested ((s.taken .place p).complete k (endedWith .superseded) s.positions).slots w1.toInt
          w2.toInt).takeSplit s.placement.orientation sp p.slot).placeAxis .h).placeAxis .v).maybeApply :=
      State.startPlace_supersedes (s := s.taken .place p) runs ref _ _ _ _
    generalize ((s.taken .place p).complete k (endedWith .superseded) s.positions) = e at *
    rw [show (s.taken .place p).slots.queue = [] from h.queue] at queue₀
    obtain ⟨t, row, hands, queue, views, stands, time, cooling, news⟩ := h.placed (slots := e.slots) posted static (routes.trans starts)
      writer₀ (by
        rw [queue₀]
        simp [State.positions])
    refine ⟨t, row, hands, (views p.slot).trans ?_, (views k).trans ?_, queue.trans queue₀, stands.reqX, stands.reqY, stands.holds,
      stands.firstFailure, stands.noisy, fun a m move kind st => ?_, fun a idle => stands.takesAxis idle, stands.applies, time, cooling,
      news⟩
    · exact State.view_setHolder_self .placement ((State.view_congr (s := e) rfl p.slot).trans
        (other.trans (State.view_setView_self (s.handed 8 p) p.slot _)))
    · exact (State.view_setHolder_other _ p.slot k .placement apart).trans ((State.view_congr (s := e) rfl k).trans self)
    · have runsIt : (s.axis a).runsPlacement = true := by
        unfold Axis.runsPlacement
        rw [move]
        exact decide_eq_true kind
      obtain ⟨same, unsettled⟩ := (stands.axis a).retargets runsIt st
      rw [same.eq]
      exact ⟨rfl, rfl, congrArg (Option.map _) move, unsettled⟩
  · obtain ⟨h, v⟩ := State.split_some e
    rw [← sign_mul, ← sign_mul]
    exact ⟨h, v, sign_mul o _, sign_mul o _, rfl⟩

end Sys2Proof.Machine
end

section
/-! SUPPORT for O26. ORIENT: what it does in each status (R14, R15). -/

namespace Sys2Proof.Machine

/-! ### The new orientation in DETACHED or FAILED (R14) -/

/-- The new orientation is in force; the fans have not followed. -/
def State.oriented (s : State) (o : Orientation) : State := { s with placement := { s.placement with orientation := o } }

theorem State.setOrientation_only (s : State) (o : Orientation) : FansOnly (s.oriented o) (s.setOrientation o) :=
  (s.oriented o).refreshFans_only

theorem FansOnly.same {s t : State} (f : FansOnly s t) (a : AxisId) : (s.axis a).SameButDrive (t.axis a) := by
  obtain ⟨h, v⟩ := f.axes
  cases a
  · exact h
  · exact v

theorem State.setOrientation_commanded (s : State) (o : Orientation) (f : FanId) (awake : s.power.mode ≠ .standby) :
    (s.fan f).commanded ≤ ((s.setOrientation o).fan f).commanded := by
  obtain ⟨_, commanded, _⟩ := (s.oriented o).refreshFans_commanded f
  show (s.fan f).commanded ≤ ((s.oriented o).refreshFans.fan f).commanded
  rw [commanded, if_neg (show ¬ (s.oriented o).power.mode = .standby from awake)]
  exact Nat.le_max_left _ _

/-- The request waits for the mesh; the generator has not acted on the change. -/
def State.awaitsMesh (s : State) (k : SlotId) : State :=
  { s with
    slots := (s.setHolder k .meshWait).slots
    mesh := { s.mesh with waiting := s.mesh.waiting ++ [{ slot := k, needed := s.mesh.neededGen }], dirty := true } }

theorem State.orientOnly_eq (s : State) (k : SlotId) (o : Orientation) :
    s.orientOnly k o = ((s.setOrientation o).awaitsMesh k).meshRun := by
  have joined := (s.setOrientation o).setHolder_mesh { (s.setOrientation o).mesh with
    waiting := (s.setOrientation o).mesh.waiting ++ [{ slot := k, needed := (s.setOrientation o).mesh.neededGen }] } k .meshWait
  exact congrArg (fun u : State => State.meshRun { u with mesh := { u.mesh with dirty := true } }) joined

/-! ### The re-run in SETTLED (R15) -/

/-- What the checks make of an ORIENT in SETTLED: the first that fails refuses it (R6, R15). -/
inductive State.RerunFails (s : State) (o : Orientation) : ResCode → Prop where
  | early {code : ResCode} (check : s.placeCheck = some code) : s.RerunFails o code
  | busy (check : s.placeCheck = none) (busy : s.axesBusy = true) : s.RerunFails o .axisBusy
  | range (check : s.placeCheck = none) (rest : s.axesBusy = false)
    (split : s.split o s.placement.reqX s.placement.reqY = none) : s.RerunFails o .outOfRange
  | mesh {sp : Split} (check : s.placeCheck = none) (rest : s.axesBusy = false)
    (split : s.split o s.placement.reqX s.placement.reqY = some sp) (invalid : meshValid (s.splitMesh o sp) = false) :
    s.RerunFails o .meshLimit

theorem State.orientRerun_refused {s : State} {k : SlotId} {o : Orientation} {code : ResCode} (fails : s.RerunFails o code) :
    s.orientRerun k o = s.complete k (refusedWith code) [] := by
  unfold State.orientRerun
  cases fails with
  | early check => rw [check]
  | busy check busy =>
    rw [check]
    exact if_pos busy
  | range check rest split =>
    rw [check, split]
    exact if_neg (by rw [rest]; decide)
  | mesh check rest split invalid =>
    rw [check, split]
    exact (if_neg (by rw [rest]; decide)).trans (if_neg (by rw [invalid]; decide))

/-- The axes have been taken, and the change of a mesh parameter is marked (R15, R70). -/
def State.rerun (s : State) (o : Orientation) (sp : Split) (k : SlotId) : State :=
  (((s.takeSplit o sp k).placeAxis .h).placeAxis .v).markDirty

theorem State.orientRerun_starts {s : State} {k : SlotId} {o : Orientation} {sp : Split} (check : s.placeCheck = none)
    (rest : s.axesBusy = false) (split : s.split o s.placement.reqX s.placement.reqY = some sp)
    (valid : meshValid (s.splitMesh o sp) = true) :
    s.orientRerun k o = ((s.setOrientation o).rerun o sp k).maybeApply := by
  unfold State.orientRerun
  rw [check, split]
  exact (if_neg (by rw [rest]; decide)).trans (if_pos valid)

/-- The mesh generator after a re-run: marked dirty, and at work on the build if it was idle with a free bank. -/
structure State.RerunMesh (v w : State) (o : Orientation) : Prop where
  kept : w.mesh.corners = v.mesh.corners ∧ w.mesh.applied = v.mesh.applied ∧ w.mesh.gen = v.mesh.gen ∧ w.mesh.waiting = v.mesh.waiting
  builds : v.mesh.st = .idle → v.mesh.awaitRead = false → v.mesh.mark v.mesh.target = .free →
    w.mesh.Filling { params := { v.meshParams with orientation := o }, gen := v.mesh.gen + 1, bank := v.mesh.target }
  busy : v.mesh.st = .building ∨ v.mesh.st = .flipPending → w.mesh = { v.mesh with dirty := true }

theorem State.rerun_mesh {v : State} {o : Orientation} (sp : Split) (k : SlotId) (orientation : v.placement.orientation = o) :
    v.RerunMesh (v.rerun o sp k) o
      ∧ v.rerun o sp k = { ((v.takeSplit o sp k).placeAxis .h).placeAxis .v with mesh := (v.rerun o sp k).mesh } := by
  have placed := (v.takeSplit o sp k).bothPlaced
  have split := v.takeSplit_eq o sp k
  unfold State.rerun
  generalize v.takeSplit o sp k = u at *
  have lens := placed.blocks
  have placement := placed.placement
  unfold State.LensOnly at lens
  generalize (u.placeAxis .h).placeAxis .v = x at *
  have mesh : x.mesh = v.mesh := by rw [lens, split]
  have orientation' : x.placement.orientation = o := by
    rw [placement, split]
    exact orientation
  have marked : x.markDirty = State.meshRun { x with mesh := { v.mesh with dirty := true } } := by
    rw [← mesh]
    rfl
  have keeps := State.meshRun_keeps { x with mesh := { v.mesh with dirty := true } }
  have only := State.meshRun_eq { x with mesh := { v.mesh with dirty := true } }
  rw [← marked] at keeps only
  refine ⟨⟨keeps, fun idle read free => ?_, fun busy => ?_⟩, only⟩
  · rw [marked, State.meshRun_begins (s := { x with mesh := { v.mesh with dirty := true } }) idle rfl read free, ← orientation']
    exact ⟨rfl, rfl, rfl⟩
  · rw [marked, State.meshRun_busy (s := { x with mesh := { v.mesh with dirty := true } }) busy]

/-- The apply changes the applied translation and the dirty flag of a generator that is at work (R8, R70). -/
theorem State.maybeApply_mesh (w : State) :
    (w.maybeApply.mesh.corners = w.mesh.corners ∧ w.maybeApply.mesh.gen = w.mesh.gen ∧ w.maybeApply.mesh.waiting = w.mesh.waiting)
      ∧ (w.mesh.st = .building ∨ w.mesh.st = .flipPending → w.maybeApply.mesh = w.mesh
        ∨ w.maybeApply.mesh = { w.mesh with applied := { dx := w.placement.remX, dy := w.placement.remY }, dirty := true }) := by
  unfold State.maybeApply
  split
  · obtain ⟨corners, _, gen, waiting⟩ := State.meshRun_keeps
      { w with
        mesh := { w.mesh with applied := { dx := w.placement.remX, dy := w.placement.remY }, dirty := true }
        placement := { w.placement with status := .applying, needed := w.mesh.neededGen } }
    refine ⟨⟨corners, gen, waiting⟩, fun busy => .inr ?_⟩
    have still := State.meshRun_busy (s := { w with
        mesh := { w.mesh with applied := { dx := w.placement.remX, dy := w.placement.remY }, dirty := true }
        placement := { w.placement with status := .applying, needed := w.mesh.neededGen } }) busy
    exact congrArg State.mesh still
  · exact ⟨⟨rfl, rfl, rfl⟩, fun _ => .inl rfl⟩

end Sys2Proof.Machine
end

section
/-! SUPPORT for O26. ORIENT: the settled answers (R14, R15). -/

namespace Sys2Proof.Machine

/-- The fans follow a new orientation; the lens but for the drives, and all else, stays (R2, R82). -/
theorem State.setOrientation_blocks (s : State) (o : Orientation) :
    (s.setOrientation o).outer = s.outer ∧ (s.setOrientation o).placement = { s.placement with orientation := o }
      ∧ (s.setOrientation o).mesh = s.mesh ∧ (s.setOrientation o).slots = s.slots ∧ (s.setOrientation o).events = s.events
      ∧ (s.setOrientation o).notice = s.notice ∧ (s.setOrientation o).thermal = s.thermal ∧ (s.setOrientation o).power = s.power
      ∧ ∀ a, (s.axis a).SameButDrive ((s.setOrientation o).axis a) := by
  have only := s.setOrientation_only o
  exact ⟨only.outer, only.placement, only.mesh, only.slots, only.events, only.notice, only.thermal, only.power, fun a => only.same a⟩

/-- An ORIENT in DETACHED or FAILED has been taken (R14). -/
structure State.OrientWaits (s t : State) (p : Post) (o : Orientation) : Prop where
  handsOver : s.HandsOver t .orient p
  view : t.view p.slot = .part 11 p.tag false .meshWait
  queue : t.slots.queue = []
  placement : t.placement = { s.placement with orientation := o }
  waiting : t.mesh.waiting = s.mesh.waiting ++ [{ slot := p.slot, needed := s.mesh.neededGen }]
  mesh : t.mesh.gen = s.mesh.gen ∧ t.mesh.corners = s.mesh.corners ∧ t.mesh.applied = s.mesh.applied
  fans : ∀ f, s.power.mode ≠ .standby → (s.fan f).commanded ≤ (t.fan f).commanded
  thermal : t.thermal = s.thermal
  power : t.power = s.power
  axis : ∀ a, (s.axis a).SameButDrive (t.axis a)
  time : s.SameTime t
  news : s.SameNews t

theorem State.Ready.orientWaits {s z : State} {p : Post} {o : Orientation} (h : s.Ready)
    (takes : z = (((s.taken .orient p).setOrientation o).awaitsMesh p.slot).meshRun) : s.OrientWaits z.settle p o := by
  obtain ⟨outer, placement, mesh, slots, events, notice, thermal, power, axis⟩ := (s.taken .orient p).setOrientation_blocks o
  have commanded := (s.taken .orient p).setOrientation_commanded o
  generalize (s.taken .orient p).setOrientation o = u at *
  have only := (u.awaitsMesh p.slot).meshRun_eq
  obtain ⟨corners, applied, gen, waiting⟩ := (u.awaitsMesh p.slot).meshRun_keeps
  rw [← takes] at only corners applied gen waiting
  have slots' : z.slots = (u.setHolder p.slot .meshWait).slots := by rw [only]; rfl
  have queue : z.slots.queue = [] := by
    rw [slots', State.setHolder_queue, slots]
    exact h.queue
  have t := h.placementStands (z := z) (kind := .orient) (p := p) (Eq.trans (by rw [only]; rfl) outer)
    (by rw [slots', State.setHolder_writer, slots]; rfl) (by rw [queue]; exact nofun) (Eq.trans (by rw [only]; rfl) events)
    (Eq.trans (by rw [only]; rfl) notice)
  obtain ⟨fans, thermal', power'⟩ := t.cooling
  have view : u.view p.slot = .part 11 p.tag false .completing :=
    (State.view_congr slots p.slot).trans (State.view_setView_self (s.handed 11 p) p.slot _)
  refine ⟨t.handsOver, (t.view p.slot).trans ((State.view_congr slots' _).trans (State.view_setHolder_self .meshWait view)),
    t.queue.trans queue, t.placement.trans (Eq.trans (by rw [only]; rfl) placement),
    (congrArg Mesh.waiting t.core).trans (waiting.trans ?_), ⟨(congrArg Mesh.gen t.core).trans (gen.trans ?_),
      (congrArg Mesh.corners t.core).trans (corners.trans ?_), (congrArg Mesh.applied t.core).trans (applied.trans ?_)⟩,
    fun f awake => ?_, thermal'.trans (Eq.trans (by rw [only]; rfl) thermal), power'.trans (Eq.trans (by rw [only]; rfl) power),
    fun a => ?_, t.time, t.news⟩
  · show u.mesh.waiting ++ _ = _
    rw [mesh]
    rfl
  · exact (congrArg Mesh.gen mesh :)
  · exact (congrArg Mesh.corners mesh :)
  · exact (congrArg Mesh.applied mesh :)
  · rw [State.fan_congr fans, show z.fan f = u.fan f by rw [only]; rfl]
    exact commanded f awake
  · rw [State.axis_of_axes t.axes, show z.axis a = u.axis a by rw [only]; rfl]
    exact axis a

/-- An ORIENT in SETTLED has been taken (R15). -/
structure State.OrientReruns (s t : State) (p : Post) (o : Orientation) (sp : Split) : Prop where
  handsOver : s.HandsOver t .orient p
  view : t.view p.slot = .part 11 p.tag false .placement
  queue : t.slots.queue = []
  split : s.SplitTaken t o sp p.slot s.placement.reqX s.placement.reqY
  waits : t.placement.status = .moving → t.mesh.applied = s.mesh.applied
  builds : s.mesh.st = .idle → s.mesh.awaitRead = false → s.mesh.mark s.mesh.target = .free →
    t.mesh.Filling { params := { s.meshParams with orientation := o }, gen := s.mesh.gen + 1, bank := s.mesh.target }
  busy : s.mesh.st = .building ∨ s.mesh.st = .flipPending → t.mesh.dirty = true
  mesh : t.mesh.gen = s.mesh.gen ∧ t.mesh.corners = s.mesh.corners ∧ t.mesh.waiting = s.mesh.waiting
  thermal : t.thermal = s.thermal
  power : t.power = s.power
  time : s.SameTime t
  news : s.SameNews t

theorem State.Ready.orientReruns {s z : State} {p : Post} {o : Orientation} {sp : Split} (h : s.Ready)
    (takes : z = (((s.taken .orient p).setOrientation o).rerun o sp p.slot).maybeApply) : s.OrientReruns z.settle p o sp := by
  obtain ⟨outer, placement, mesh, slots, events, notice, thermal, power, axis⟩ := (s.taken .orient p).setOrientation_blocks o
  generalize (s.taken .orient p).setOrientation o = v at *
  obtain ⟨rerun, blocks⟩ := v.rerun_mesh (o := o) sp p.slot (by rw [placement])
  obtain ⟨split, applies, only⟩ := State.splitTaken (o := o) (sp := sp) (k := p.slot) (by rw [placement]) blocks
  obtain ⟨⟨corners, gen, waiting⟩, works⟩ := (v.rerun o sp p.slot).maybeApply_mesh
  generalize v.rerun o sp p.slot = w at *
  rw [← takes] at split applies only corners gen waiting works
  rw [show v.placement.reqX = s.placement.reqX by rw [placement]; rfl, show v.placement.reqY = s.placement.reqY by rw [placement]; rfl]
    at split
  obtain ⟨corners', applied', gen', waiting'⟩ := rerun.kept
  have slots' : z.slots = (v.setHolder p.slot .placement).slots := by rw [only]
  have queue : z.slots.queue = [] := by
    rw [slots', State.setHolder_queue, slots]
    exact h.queue
  have t := h.placementStands (z := z) (kind := .orient) (p := p) (Eq.trans (by rw [only]; rfl) outer)
    (by rw [slots', State.setHolder_writer, slots]; rfl) (by rw [queue]; exact nofun) (Eq.trans (by rw [only]) events)
    (Eq.trans (by rw [only]) notice)
  obtain ⟨_, thermal', power'⟩ := t.cooling
  have view : v.view p.slot = .part 11 p.tag false .completing :=
    (State.view_congr slots p.slot).trans (State.view_setView_self (s.handed 11 p) p.slot _)
  refine ⟨t.handsOver, (t.view p.slot).trans ((State.view_congr slots' _).trans (State.view_setHolder_self .placement view)),
    t.queue.trans queue, (State.SplitTaken.of_same (s := s) axis split).settled t.axes t.placement
      ((congrArg Mesh.applied t.core).trans rfl), fun moving => ?_, fun idle read free => ?_, fun busy => ?_,
    ⟨(congrArg Mesh.gen t.core).trans (gen.trans (gen'.trans (congrArg Mesh.gen mesh))),
      (congrArg Mesh.corners t.core).trans (corners.trans (corners'.trans (congrArg Mesh.corners mesh))),
      (congrArg Mesh.waiting t.core).trans (waiting.trans (waiting'.trans (congrArg Mesh.waiting mesh)))⟩,
    thermal'.trans (Eq.trans (by rw [only]) thermal), power'.trans (Eq.trans (by rw [only]) power), t.time, t.news⟩
  · rw [t.placement] at moving
    exact (congrArg Mesh.applied t.core).trans
      ((congrArg Mesh.applied (applies.waits moving)).trans (applied'.trans (congrArg Mesh.applied mesh)))
  · have fills := rerun.builds (by rw [mesh]; exact idle) (by rw [mesh]; exact read) (by rw [mesh]; exact free)
    have params : { v.meshParams with orientation := o } = { s.meshParams with orientation := o } := by
      show MeshParams.mk v.mesh.corners (meshTerms v.mesh.applied.dx v.mesh.applied.dy) o = _
      rw [mesh]
      rfl
    rw [params, mesh] at fills
    refine State.settle_filling ?_
    rcases works (.inl fills.building) with same | same <;> rw [same]
    · exact fills
    · exact ⟨fills.building, fills.snapshot, fills.held⟩
  · have marked := rerun.busy (by rw [mesh]; exact busy)
    refine (congrArg Mesh.dirty t.core).trans (show z.mesh.dirty = true from ?_)
    rcases works (by rw [marked, mesh]; exact busy) with same | same <;> rw [same]
    rw [marked]

/-- Settles O26: one case for each status, and in SETTLED one for the first check that fails and one for the re-run. -/
theorem orient : Obligations.Orient := by
  intro s p o h posted
  have good : postCheck .orient false [orientationWord o] = none := postCheck_passes rfl (by cases o <;> rfl)
  have routes : (s.taken .orient p).route p.slot .orient [orientationWord o]
      = if o = s.placement.orientation then (s.taken .orient p).complete p.slot doneAlready [] else
        match s.placement.status with
        | .moving => (s.taken .orient p).complete p.slot (refusedWith .placementBusy) []
        | .applying => (s.taken .orient p).complete p.slot (refusedWith .placementBusy) []
        | .detached => (s.taken .orient p).orientOnly p.slot o
        | .failed => (s.taken .orient p).orientOnly p.slot o
        | .settled => (s.taken .orient p).orientRerun p.slot o := by
    have word : orientationOfWord (bodyWord [orientationWord o] 1) = o := orientationOfWord_orientationWord o
    show (s.taken .orient p).takeOrient p.slot [orientationWord o] = _
    unfold State.takeOrient
    rw [word]
    rfl
  have answer (r : Result) (completes : (s.taken .orient p).route p.slot .orient [orientationWord o]
      = (s.taken .orient p).complete p.slot r []) : ∃ t, exec (.orient p) s = .next t ∧ s.HandsOver t .orient p
        ∧ t.Ends .orient p r [] ∧ s.SameTime t ∧ s.SameLens t ∧ s.SameCooling t ∧ s.SameMesh t ∧ s.SameNews t := by
    have t := h.answer posted good (.of_taken s .orient p) completes (by simp)
    obtain ⟨_, time, lens, cooling, news⟩ := t.keeps.blocks
    exact ⟨_, rfl, t.handsOver, t.ends, time, lens, cooling, t.mesh, news⟩
  refine ⟨fun same => ?_, fun other runs => ?_, fun other free => ?_, fun code other settled why => ?_,
    fun sp other settled may rest split valid => ?_⟩
  · exact answer _ (routes.trans (if_pos same))
  · refine answer _ (routes.trans ((if_neg other).trans ?_))
    unfold State.placementRuns at runs
    cases status : s.placement.status with
    | moving => rfl
    | applying => rfl
    | detached => rw [status] at runs; cases runs
    | failed => rw [status] at runs; cases runs
    | settled => rw [status] at runs; cases runs
  · have route : (s.taken .orient p).route p.slot .orient [orientationWord o]
        = (((s.taken .orient p).setOrientation o).awaitsMesh p.slot).meshRun := by
      rw [routes, if_neg other, ← State.orientOnly_eq]
      rcases free with status | status <;> rw [status]
    have t := h.orientWaits route
    obtain ⟨gen, corners, applied⟩ := t.mesh
    exact ⟨_, congrArg Host.Outcome.next (State.postRow_routed .orient h posted good), t.handsOver, t.view, t.queue, t.placement, t.waiting,
      gen, corners, applied, t.fans, t.thermal, t.power, ⟨t.axis .h, t.axis .v⟩, t.time, t.news⟩
  · refine answer _ (routes.trans ((if_neg other).trans ?_))
    have passes (may : s.MayPlace) : (s.taken .orient p).placeCheck = none :=
      State.placeCheck_none (s := s) may.toFreeToMove may.noFault may.homed
    rw [settled]
    refine State.orientRerun_refused (s := s.taken .orient p) ?_
    rcases why with early | ⟨may, busy, rfl⟩ | ⟨may, rest, split, rfl⟩ | ⟨may, rest, ⟨sp, split, invalid⟩, rfl⟩
    · exact .early (State.placeCheck_refused (s := s) early)
    · exact .busy (passes may) (s.axesBusy_iff.mpr busy)
    · exact .range (passes may) (State.axesBusy_false (s := s) rest) split
    · exact .mesh (passes may) (State.axesBusy_false (s := s) rest) split invalid
  · have route : (s.taken .orient p).route p.slot .orient [orientationWord o]
        = (((s.taken .orient p).setOrientation o).rerun o sp p.slot).maybeApply := by
      rw [routes, if_neg other, settled]
      refine State.orientRerun_starts (s := s.taken .orient p)
        (State.placeCheck_none (s := s) may.toFreeToMove may.noFault may.homed)
        (State.axesBusy_false (s := s) fun a => Axis.notBusy_of_rest (rest a).1 (rest a).2.1 (rest a).2.2) split valid
    have t := h.orientReruns route
    obtain ⟨gen, corners, waiting⟩ := t.mesh
    exact ⟨_, congrArg Host.Outcome.next (State.postRow_routed .orient h posted good), t.handsOver, t.view, t.queue, t.split.reqX,
      t.split.reqY, t.split.holds, t.split.firstFailure, t.split.noisy, fun a => t.split.takesAxis (rest a).1, t.split.applies, t.waits,
      fun idle read free => ⟨(t.builds idle read free).building, (t.builds idle read free).snapshot⟩, t.busy, gen, corners, waiting,
      t.thermal, t.power, t.time, t.news⟩

end Sys2Proof.Machine
end

section
/-! SUPPORT for O49. The level after a reading, the terms of a fan's demand, and what an event leaves pending (R82, R100, R169,
R178). -/

namespace Sys2Proof.Machine

/-! ### The level after a valid reading (R100) -/

/-- A reading at or above the threshold of a higher level raises the level to the highest reached (R100). -/
theorem nextLevel_rises {t : Thresholds} {old : Level} {r : Int} (rises : old.rank < (t.reached r).rank) :
    nextLevel t old r = t.reached r := if_pos rises

/-- A level other than NORMAL falls by one below its threshold less the hysteresis, and else holds (R100). -/
theorem nextLevel_falls {t : Thresholds} {old : Level} {r : Int} (reached : (t.reached r).rank ≤ old.rank) :
    nextLevel t old r = if old ≠ .normal ∧ r < t.at old - t.hyst then old.lower else old := if_neg (Nat.not_lt.mpr reached)

theorem Thresholds.reached_critical {t : Thresholds} {r : Int} (above : t.critical ≤ r) : t.reached r = .critical := if_pos above

theorem Thresholds.reached_hot {t : Thresholds} {r : Int} (above : t.hot ≤ r) (below : r < t.critical) : t.reached r = .hot :=
  (if_neg (Int.not_le.mpr below)).trans (if_pos above)

theorem Thresholds.reached_warm {t : Thresholds} {r : Int} (above : t.warm ≤ r) (below : r < t.hot) (order : t.hot < t.critical) :
    t.reached r = .warm :=
  (if_neg (by omega)).trans ((if_neg (Int.not_le.mpr below)).trans (if_pos above))

theorem Thresholds.reached_normal {t : Thresholds} {r : Int} (below : r < t.warm) (low : t.warm < t.hot) (order : t.hot < t.critical) :
    t.reached r = .normal :=
  (if_neg (by omega)).trans ((if_neg (by omega)).trans (if_neg (Int.not_le.mpr below)))

theorem Thresholds.reached_below_hot {t : Thresholds} {r : Int} (below : r < t.hot) (order : t.hot < t.critical) :
    (t.reached r).rank ≤ Level.warm.rank := by
  unfold Thresholds.reached
  rw [if_neg (by omega), if_neg (Int.not_le.mpr below)]
  split <;> decide

theorem Thresholds.reached_below_critical {t : Thresholds} {r : Int} (below : r < t.critical) : (t.reached r).rank ≤ Level.hot.rank := by
  unfold Thresholds.reached
  rw [if_neg (Int.not_le.mpr below)]
  split
  · decide
  · split <;> decide

theorem nextLevel_rules {t : Thresholds} {r : Int} (low : t.warm < t.hot) (order : t.hot < t.critical) (hyst : 0 ≤ t.hyst) :
    (t.critical ≤ r → ∀ old, nextLevel t old r = .critical)
      ∧ (t.hot ≤ r → r < t.critical → nextLevel t .normal r = .hot ∧ nextLevel t .warm r = .hot ∧ nextLevel t .hot r = .hot)
      ∧ (t.warm ≤ r → r < t.hot → nextLevel t .normal r = .warm ∧ nextLevel t .warm r = .warm)
      ∧ (r < t.warm → nextLevel t .normal r = .normal)
      ∧ (r < t.warm → t.warm - t.hyst ≤ r → nextLevel t .warm r = .warm)
      ∧ (r < t.warm - t.hyst → nextLevel t .warm r = .normal)
      ∧ (r < t.hot → t.hot - t.hyst ≤ r → nextLevel t .hot r = .hot)
      ∧ (r < t.hot - t.hyst → nextLevel t .hot r = .warm)
      ∧ (r < t.critical → t.critical - t.hyst ≤ r → nextLevel t .critical r = .critical)
      ∧ (r < t.critical - t.hyst → nextLevel t .critical r = .hot) := by
  have holds {old : Level} (reached : (t.reached r).rank ≤ old.rank) (above : t.at old - t.hyst ≤ r) : nextLevel t old r = old :=
    (nextLevel_falls reached).trans (if_neg fun q => absurd q.2 (Int.not_lt.mpr above))
  have falls {old : Level} (reached : (t.reached r).rank ≤ old.rank) (warm : old ≠ .normal) (below : r < t.at old - t.hyst) :
      nextLevel t old r = old.lower := (nextLevel_falls reached).trans (if_pos ⟨warm, below⟩)
  refine ⟨fun above old => ?_, fun above below => ?_, fun above below => ?_, fun below => ?_, fun below near => ?_, fun below => ?_,
    fun below near => ?_, fun below => ?_, fun below near => ?_, fun below => ?_⟩
  · have reached := Thresholds.reached_critical above
    by_cases already : old = .critical
    · rw [already]
      exact holds (by rw [reached]) (by show t.critical - t.hyst ≤ r; omega)
    · have rises : old.rank < Level.critical.rank := by
        cases old with
        | critical => exact absurd rfl already
        | _ => decide
      rw [nextLevel_rises (by rw [reached]; exact rises), reached]
  · have reached := Thresholds.reached_hot above below
    refine ⟨(nextLevel_rises (by rw [reached]; decide)).trans reached, (nextLevel_rises (by rw [reached]; decide)).trans reached, ?_⟩
    exact holds (by rw [reached]) (by show t.hot - t.hyst ≤ r; omega)
  · have reached := Thresholds.reached_warm above below order
    refine ⟨(nextLevel_rises (by rw [reached]; decide)).trans reached, ?_⟩
    exact holds (by rw [reached]) (by show t.warm - t.hyst ≤ r; omega)
  · have reached := Thresholds.reached_normal below low order
    exact (nextLevel_falls (by rw [reached])).trans (if_neg fun q => q.1 rfl)
  · exact holds (by rw [Thresholds.reached_normal below low order]; decide) near
  · exact falls (by rw [Thresholds.reached_normal (by omega) low order]; decide) (by decide) below
  · exact holds ((Thresholds.reached_below_hot below order).trans (by decide)) near
  · exact falls ((Thresholds.reached_below_hot (by omega) order).trans (by decide)) (by decide) below
  · exact holds ((Thresholds.reached_below_critical below).trans (by decide)) near
  · exact falls ((Thresholds.reached_below_critical (by omega)).trans (by decide)) (by decide) below

/-! ### The largest term (R82) -/

theorem foldl_max_le {l : List Nat} {n m : Nat} (start : n ≤ m) (all : ∀ v ∈ l, v ≤ m) : l.foldl max n ≤ m := by
  induction l generalizing n with
  | nil => exact start
  | cons x l ih =>
    exact ih (Nat.max_le.mpr ⟨start, all x List.mem_cons_self⟩) fun v mem => all v (List.mem_cons_of_mem x mem)

theorem Level.floor_term (s : State) (f : FanId) : s.DemandTerm f s.thermal.overall.floor := by
  unfold State.DemandTerm
  cases level : s.thermal.overall <;> simp [Level.floor]

theorem State.term_le_largest {s : State} {f : FanId} {v : Nat} (term : s.DemandTerm f v) : v ≤ s.largestTerm f := by
  unfold State.largestTerm State.governing State.autonomous
  rcases term with rfl | rfl | ⟨_, rfl⟩ | ⟨level, rfl⟩ | ⟨level, rfl⟩ | ⟨level, rfl⟩ | ⟨mode, rfl⟩ | ⟨fault, rfl⟩ | ⟨lost, rfl⟩ | ⟨seen, rfl⟩
  · exact le_foldl_max (.inr (by simp))
  · exact le_foldl_max (.inr (by simp))
  · exact Nat.zero_le _
  · exact le_foldl_max (.inr (by simp [level, Level.floor]))
  · exact le_foldl_max (.inr (by simp [level, Level.floor]))
  · exact le_foldl_max (.inr (by simp [level, Level.floor]))
  · exact le_foldl_max (.inr (by simp [mode, Config.cooldownDuty]))
  · exact le_foldl_max (.inr (by simp [fault]))
  · exact le_foldl_max (.inr (by simp [lost]))
  · exact le_foldl_max (.inr (by simp [seen, Config.blindDuty]))

theorem State.largestTerm_le {s : State} {f : FanId} {m : Nat} (bound : ∀ v, s.DemandTerm f v → v ≤ m) : s.largestTerm f ≤ m := by
  have optional {c : Prop} [Decidable c] {v : Nat} (term : c → s.DemandTerm f v) : (if c then v else 0) ≤ m := by
    split
    · next holds => exact bound v (term holds)
    · exact Nat.zero_le m
  refine foldl_max_le (Nat.zero_le m) fun v mem => ?_
  simp only [List.mem_cons, List.not_mem_nil, or_false] at mem
  rcases mem with rfl | rfl | rfl | rfl | rfl | rfl | rfl
  · exact bound _ (.inl rfl)
  · exact bound _ (Level.floor_term s f)
  · exact optional fun mode => .inr (.inr (.inr (.inr (.inr (.inr (.inl ⟨mode, rfl⟩))))))
  · exact bound _ (.inr (.inl rfl))
  · exact optional fun fault => .inr (.inr (.inr (.inr (.inr (.inr (.inr (.inl ⟨fault, rfl⟩)))))))
  · exact optional fun lost => .inr (.inr (.inr (.inr (.inr (.inr (.inr (.inr (.inl ⟨of_decide_eq_true lost, rfl⟩))))))))
  · split
    · exact Nat.zero_le m
    · next unseen =>
      exact bound _ (.inr (.inr (.inr (.inr (.inr (.inr (.inr (.inr (.inr ⟨Bool.not_eq_true _ ▸ unseen, rfl⟩)))))))))

theorem State.demandOf_largest {s : State} {f : FanId} {m : Nat} (mode : s.power.mode ≠ .standby) (term : s.DemandTerm f m)
    (largest : ∀ v, s.DemandTerm f v → v ≤ m) : s.demandOf f = if m = 0 then 0 else max m 20 := by
  unfold State.demandOf
  rw [if_neg mode, Nat.le_antisymm (State.largestTerm_le largest) (State.term_le_largest term)]
  rfl

/-! ### What an event leaves pending (R169, R178) -/

/-- Of the pending flags only that of EVENT may differ. -/
def Notice.SameButEvent (m n : Notice) : Prop := ∀ x : NoticeSource, x ≠ .event → n.pend.getLsbD x.prio = m.pend.getLsbD x.prio

theorem Notice.SameButEvent.of_eq {m n : Notice} (e : n = m) : m.SameButEvent n := fun _ _ => by rw [e]

theorem Notice.SameButEvent.trans {m n o : Notice} (a : m.SameButEvent n) (b : n.SameButEvent o) : m.SameButEvent o :=
  fun x other => (b x other).trans (a x other)

theorem State.raiseNotice_event (s : State) : s.notice.SameButEvent (s.raiseNotice .event).notice := by
  unfold State.raiseNotice
  split
  · intro x other
    show (s.notice.pend ||| NoticeSource.event.bit).getLsbD x.prio = _
    have apart : NoticeSource.event.bit.getLsbD x.prio = false := by
      cases x with
      | event => exact absurd rfl other
      | _ => rfl
    rw [BitVec.getLsbD_or, apart, Bool.or_false]
  · exact .of_eq rfl

theorem State.loseEvent_event (s : State) : s.notice.SameButEvent s.loseEvent.notice := by
  unfold State.loseEvent
  dsimp only
  split
  · exact .of_eq rfl
  · exact State.raiseNotice_event { s with events := { s.events with lost := satSucc s.events.lost, overrun := true } }

theorem State.raiseCode_event (s : State) (code : Half) (va vb : Word) : s.notice.SameButEvent (s.raiseCode code va vb).notice := by
  unfold State.raiseCode
  split
  · exact .of_eq rfl
  · split
    · exact s.loseEvent_event
    · split
      · show s.notice.SameButEvent (if 32 ≤ s.reportOverrun.events.occupancy then s.reportOverrun.loseEvent
          else s.reportOverrun.placeRecord code va vb).notice
        split
        · exact s.reportOverrun.loseEvent_event
        · exact .of_eq rfl
      · exact .of_eq rfl

end Sys2Proof.Machine
end

section
/-! SUPPORT for O49. A reading up to the overall level (R99 to R106, R109). -/

namespace Sys2Proof.Machine

/-! ### The channel, the fault and the curves (R99, R102, R109) -/

/-- The channel's record after a reading, its interval started anew. -/
def State.takenChannel (s : State) (c : ChannelId) (code : Int) : Channel :=
  { (s.channel c).take code with timer := s.power.mode.interval }

/-- The reading puts the channel in FAULT. -/
def State.faultRises (s : State) (c : ChannelId) (code : Int) : Bool := ((s.channel c).take code).fault && !(s.channel c).fault

/-- The channel has its record, and a new fault has been told. -/
def State.faultTold (s : State) (c : ChannelId) (code : Int) : State :=
  if s.faultRises c code then
    (s.setChannel c (s.takenChannel c code)).raiseEvent .channelFault (channelNumber c) (signedWord ((s.channel c).take code).latest)
      (signedWord ((s.channel c).take code).reading)
  else s.setChannel c (s.takenChannel c code)

/-- The fans that the channel governs have the curve's duty too; no demand has been formed anew. -/
def State.readingTaken (s : State) (c : ChannelId) (code : Int) : State :=
  if validCode code then (s.faultTold c code).handCurves c else s.faultTold c code

theorem State.channelReading_eq (s : State) (c : ChannelId) (code : Int) :
    s.channelReading c code = (s.readingTaken c code).refreshFans.updateOverall (channelNumber c) := rfl

/-- What the fault's event changes. -/
theorem State.faultTold_news (s : State) (c : ChannelId) (code : Int) :
    (s.setChannel c (s.takenChannel c code)).NewsOnly (s.faultTold c code) := by
  unfold State.faultTold
  split
  · exact State.raiseCode_news _ _ _ _
  · exact .refl _

/-- What a reading changes before the demands are formed anew. -/
structure State.ReadingTaken (s v : State) (c : ChannelId) (code : Int) : Prop where
  cooling : s.CoolingOnly v
  thermal : v.thermal = { s.thermal with channels := s.thermal.channels.set c (s.takenChannel c code) }
  curve : ∀ f, (v.fan f).curve =
    if validCode code = true ∧ (s.curveOf f).channel = c then curveAt (s.curveOf f).points code else (s.fan f).curve
  fan : ∀ f, v.fan f = { s.fan f with curve := (v.fan f).curve }
  axes : v.axes = s.axes
  notice : s.notice.SameButEvent v.notice
  silent : s.faultRises c code = false → v.events = s.events
  told : s.faultRises c code = true → s.hold = .running → s.RingOpen →
    v.events = (s.placeRecord (eventCode .channelFault (channelNumber c)) (signedWord ((s.channel c).take code).latest)
      (signedWord ((s.channel c).take code).reading)).events

theorem State.faultTold_rules (s : State) (c : ChannelId) (code : Int) :
    s.notice.SameButEvent (s.faultTold c code).notice
      ∧ (s.faultRises c code = false → (s.faultTold c code).events = s.events)
      ∧ (s.faultRises c code = true → s.hold = .running → s.RingOpen →
        (s.faultTold c code).events = (s.placeRecord (eventCode .channelFault (channelNumber c))
          (signedWord ((s.channel c).take code).latest) (signedWord ((s.channel c).take code).reading)).events) := by
  unfold State.faultTold
  cases rises : s.faultRises c code with
  | false =>
    rw [if_neg Bool.false_ne_true]
    exact ⟨.of_eq rfl, fun _ => rfl, nofun⟩
  | true =>
    rw [if_pos rfl]
    refine ⟨State.raiseCode_event (s.setChannel c (s.takenChannel c code)) _ _ _, nofun, fun _ run room => ?_⟩
    have placed := State.raiseCode_open (s := s.setChannel c (s.takenChannel c code)) run room (eventCode .channelFault (channelNumber c))
      (signedWord ((s.channel c).take code).latest) (signedWord ((s.channel c).take code).reading)
    exact (congrArg State.events placed).trans rfl

theorem Channel.take_valid {x : Channel} {code : Int} (valid : validCode code = true) : x.take code =
    { x with
      latest := code
      latestValid := true
      reading := code
      seen := true
      invalidStreak := 0
      validStreak := min 4 (x.validStreak + 1)
      fault := x.fault && decide (min 4 (x.validStreak + 1) < 4)
      level := nextLevel x.thr x.level code } := if_pos valid

theorem Channel.take_invalid {x : Channel} {code : Int} (invalid : validCode code = false) : x.take code =
    { x with
      latest := code
      latestValid := false
      validStreak := 0
      invalidStreak := min 2 (x.invalidStreak + 1)
      fault := x.fault || decide (min 2 (x.invalidStreak + 1) = 2) } := if_neg (by rw [invalid]; decide)

theorem State.curveDemand_eq {s u : State} {c : ChannelId} {code : Int} (valid : validCode code = true)
    (channel : u.channel c = s.takenChannel c code) (curves : ∀ f, u.curveOf f = s.curveOf f) (fans : u.fans = s.fans) (f : FanId) :
    u.curveDemand c f = if (s.curveOf f).channel = c then curveAt (s.curveOf f).points code else (s.fan f).curve := by
  unfold State.curveDemand
  rw [curves, channel, State.fan_congr fans]
  unfold State.takenChannel
  rw [Channel.take_valid valid]

theorem State.readingTaken_rules (s : State) (c : ChannelId) (code : Int) : s.ReadingTaken (s.readingTaken c code) c code := by
  have news := s.faultTold_news c code
  obtain ⟨fans, thermal, power, placement, axes, budget⟩ := news.blocks
  obtain ⟨notice, silent, told⟩ := s.faultTold_rules c code
  have cooling : s.CoolingOnly (s.faultTold c code) := State.CoolingOnly.trans (t := s.setChannel c (s.takenChannel c code)) rfl news.cooling
  have channel : (s.faultTold c code).channel c = s.takenChannel c code := by
    unfold State.channel
    rw [thermal]
    exact State.channel_setChannel_self s c _
  have curves (f : FanId) : (s.faultTold c code).curveOf f = s.curveOf f := by
    unfold State.curveOf
    rw [thermal, placement]
    rfl
  unfold State.readingTaken
  cases valid : validCode code with
  | false =>
    rw [if_neg Bool.false_ne_true]
    refine ⟨cooling, thermal, fun f => ?_, fun f => ?_, axes, notice, silent, told⟩
    · rw [State.fan_congr fans, if_neg (fun q => Bool.false_ne_true (valid.symm.trans q.1))]
      rfl
    · rw [State.fan_congr fans]
      rfl
  | true =>
    rw [if_pos rfl]
    have demand := State.curveDemand_eq valid channel curves fans
    refine ⟨cooling.trans rfl, thermal, fun f => ?_, fun f => ?_, axes, notice, silent, told⟩
    · rw [show (((s.faultTold c code).handCurves c).fan f).curve = (s.faultTold c code).curveDemand c f by cases f <;> rfl, demand]
      exact if_congr (by simp [valid]) rfl rfl
    · rw [show ((s.faultTold c code).handCurves c).fan f = { (s.faultTold c code).fan f with
        curve := (((s.faultTold c code).handCurves c).fan f).curve } by cases f <;> rfl, State.fan_congr fans]
      rfl

end Sys2Proof.Machine
end

section
/-! SUPPORT for O49. The demands formed anew and the overall level that follows (R82, R83, R103, R104, R106). -/

namespace Sys2Proof.Machine

/-- A fan's demand depends on its curve and floor, the channels, the level and the mode, and not on the cut latch (R82). -/
theorem State.demandOf_of_terms {s t : State} {f : FanId} (curve : (t.fan f).curve = (s.fan f).curve)
    (floor : (t.fan f).floor = (s.fan f).floor) (thermal : t.thermal = { s.thermal with cutLatch := t.thermal.cutLatch })
    (power : t.power = s.power) (placement : t.placement = s.placement) : t.demandOf f = s.demandOf f := by
  unfold State.demandOf State.largestTerm State.governing State.curveOf State.channel State.autonomous
  dsimp only
  rw [curve, floor, thermal, power, placement]
  rfl

theorem Fan.takeDemand_off {x : Fan} (off : x.st = .off) (d : Nat) : (Fan.takeDemand true d x).st = .off := by
  unfold Fan.takeDemand Fan.follow
  rw [off]
  rfl

theorem State.Stopped.of_move {s y t : State} {a : AxisId} {c : ResCode} (move : (y.axis a).move = (s.axis a).move)
    (h : y.Stopped t a c) : s.Stopped t a c := by
  unfold State.Stopped at h ⊢
  rwa [move] at h

theorem State.withOverall_self (s : State) : s.withOverall s.thermal.overall = s := rfl

/-- What new demands and the overall level that follows leave of a state. -/
structure State.Levelled (v w : State) (subject : Nat) : Prop where
  cooling : v.CoolingOnly w
  thermal : w.thermal = { v.thermal with overall := w.thermal.overall, cutLatch := w.thermal.cutLatch }
  overall : w.thermal.overall = w.overallNow
  curve : ∀ f, (w.fan f).curve = (v.fan f).curve
  awake : v.power.mode ≠ .standby → ∀ f, (v.fan f).commanded ≤ (w.fan f).commanded ∧ (w.fan f).demand ≤ (w.fan f).commanded
    ∧ (w.fan f).demand = w.demandOf f
  same : v.power.mode ≠ .standby → w.thermal.overall = v.thermal.overall →
    ∀ f, (w.fan f).commanded = max (v.fan f).commanded (w.fan f).demand
  asleep : v.power.mode = .standby → ∀ f, (w.fan f).demand = 0 ∧ ((v.fan f).st = .off → (w.fan f).st = .off)
  critical : w.thermal.overall = .critical → v.thermal.overall ≠ .critical → v.hold = .running →
    w.thermal.cutLatch = true ∧ w.notice.pend.getLsbD 0 = true ∧ (∀ a, (w.axis a).st.active = false)
      ∧ ∀ a, (v.axis a).st.active = true → v.Stopped w a .thermalBlock
  calm : w.thermal.overall ≠ .critical → w.thermal.cutLatch = v.thermal.cutLatch ∧ v.notice.SameButEvent w.notice
  silent : w.thermal.overall = v.thermal.overall → w.events = v.events
  told : w.thermal.overall ≠ v.thermal.overall → v.hold = .running → v.RingOpen →
    w.events = (v.placeRecord (eventCode .thermalLevel subject) (natWord w.thermal.overall.rank) (natWord v.thermal.overall.rank)).events

section
variable (u : State) (subject : Nat)

theorem State.levelMoved_news :
    u.notice.SameButEvent (u.levelMoved subject).notice ∧ (∀ a, (u.axis a).SameButDrive ((u.levelMoved subject).axis a))
      ∧ (u.hold = .running → u.RingOpen → (u.levelMoved subject).events = (u.placeRecord (eventCode .thermalLevel subject)
        (natWord u.overallNow.rank) (natWord u.thermal.overall.rank)).events) := by
  have only := State.refreshFans_only ((u.withOverall u.overallNow).raiseCode (eventCode .thermalLevel subject)
    (natWord u.overallNow.rank) (natWord u.thermal.overall.rank))
  obtain ⟨_, _, _, _, axes, _⟩ := ((u.withOverall u.overallNow).raiseCode_news (eventCode .thermalLevel subject)
    (natWord u.overallNow.rank) (natWord u.thermal.overall.rank)).blocks
  refine ⟨?_, fun a => ?_, fun run room => ?_⟩
  · exact ((u.withOverall u.overallNow).raiseCode_event _ _ _).trans (.of_eq only.notice)
  · have same := only.same a
    rw [State.axis_of_axes axes a] at same
    exact same
  · have placed := State.raiseCode_open (s := u.withOverall u.overallNow) run room (eventCode .thermalLevel subject)
      (natWord u.overallNow.rank) (natWord u.thermal.overall.rank)
    exact only.events.trans ((congrArg State.events placed).trans rfl)

/-- Entering CRITICAL stops the axes and raises THERMAL (R106). -/
theorem State.enterCritical_rules :
    u.enterCritical.events = u.events ∧ u.enterCritical.axes = (State.stopBoth { u with
        thermal := { u.thermal with cutLatch := true } } .thermalBlock).axes
      ∧ (u.hold = .running → u.enterCritical.notice.pend.getLsbD 0 = true) := by
  have stops := State.stopBoth_only { u with thermal := { u.thermal with cutLatch := true } } .thermalBlock
  obtain ⟨_, _, _, _, _, events⟩ := stops.blocks
  have hold := stops.cooling.same.hold
  unfold State.enterCritical
  generalize State.stopBoth { u with thermal := { u.thermal with cutLatch := true } } .thermalBlock = x at *
  refine ⟨?_, ?_, fun run => ?_⟩
  · exact Eq.trans (by unfold State.raiseNotice; split <;> rfl) events
  · unfold State.raiseNotice
    split <;> rfl
  · exact State.raiseNotice_sets (hold.trans run) .thermal

end

/-- What a change of the overall level does to the axes, the notices and the event writer. -/
structure State.OverallMoves (u w : State) (subject : Nat) : Prop where
  critical : u.overallNow = .critical → u.hold = .running →
    w.notice.pend.getLsbD 0 = true ∧ (∀ a, (w.axis a).st.active = false)
      ∧ ∀ a, (u.axis a).st.active = true → u.Stopped w a .thermalBlock
  calm : u.overallNow ≠ .critical → u.notice.SameButEvent w.notice
  told : u.hold = .running → u.RingOpen → w.events = (u.placeRecord (eventCode .thermalLevel subject) (natWord u.overallNow.rank)
    (natWord u.thermal.overall.rank)).events

theorem State.overallMoves {u : State} (moved : u.overallNow ≠ u.thermal.overall) (subject : Nat) :
    u.OverallMoves (u.updateOverall subject) subject := by
  obtain ⟨notice, axis, told⟩ := u.levelMoved_news subject
  have hold := (u.levelMoved_cooling subject).same.hold
  rw [State.updateOverall_eq, if_neg moved]
  split
  · next critical =>
    generalize u.levelMoved subject = x at *
    obtain ⟨events, axes, notified⟩ := x.enterCritical_rules
    have stops := State.stopBoth_axis { x with thermal := { x.thermal with cutLatch := true } } .thermalBlock
    refine ⟨fun _ run => ⟨notified (hold.trans run), fun a => ?_, fun a active => ?_⟩, fun other => absurd critical other, fun run room =>
      events.trans (told run room)⟩
    · rw [State.axis_of_axes axes]
      cases active : (x.axis a).st.active with
      | true =>
        obtain ⟨stopping, _⟩ := (stops a).1 active
        rw [stopping]
        rfl
      | false => exact ((stops a).2 active).active.trans active
    · have stopped := (stops a).1 ((axis a).active.trans active)
      refine (State.Stopped.of_move ?_ stopped).of_settled axes
      show (x.axis a).move = _
      rw [(axis a).eq]
  · next other => exact ⟨fun critical => absurd critical other, fun _ => notice, told⟩

/-- The fans after new demands and the overall level that follows (R82, R83, R85). -/
structure State.FansLevelled (v w : State) : Prop where
  curve : ∀ f, (w.fan f).curve = (v.fan f).curve
  demand : ∀ f, (w.fan f).demand = w.demandOf f
  awake : v.power.mode ≠ .standby → ∀ f, (v.fan f).commanded ≤ (w.fan f).commanded ∧ (w.fan f).demand ≤ (w.fan f).commanded
  off : v.power.mode = .standby → ∀ f, (v.fan f).st = .off → (w.fan f).st = .off

theorem State.fansLevelled (v : State) (subject : Nat) : v.FansLevelled (v.refreshFans.updateOverall subject) := by
  have only := v.refreshFans_only
  have refreshed := v.refreshFans_fan
  generalize v.refreshFans = u at *
  have same := (u.updateOverall_cooling subject).same
  have thermal := u.updateOverall_thermal subject
  have fan := u.updateOverall_fan subject
  generalize u.updateOverall subject = w at *
  have standby : u.standby = v.standby := State.standby_congr _ _ only.power
  have terms (f : FanId) : (u.fan f).curve = (v.fan f).curve ∧ (u.fan f).floor = (v.fan f).floor := by
    rw [refreshed]
    exact ⟨(Fan.takeDemand_commanded _ _ _).2.2.2, (Fan.takeDemand_commanded _ _ _).2.2.1⟩
  have terms' (f : FanId) : (w.fan f).curve = (v.fan f).curve ∧ (w.fan f).floor = (v.fan f).floor := by
    obtain ⟨curve, floor⟩ := terms f
    rw [fan, ← curve, ← floor]
    split
    · exact ⟨rfl, rfl⟩
    · exact ⟨(Fan.takeDemand_commanded _ _ _).2.2.2, (Fan.takeDemand_commanded _ _ _).2.2.1⟩
  refine ⟨fun f => (terms' f).1, fun f => ?_, fun awake f => ?_, fun asleep f off => ?_⟩
  · rw [State.demandOf_of_terms (s := u.withOverall u.overallNow) ((terms' f).1.trans (terms f).1.symm)
      ((terms' f).2.trans (terms f).2.symm) (by rw [thermal]; rfl) same.power same.placement, fan]
    split
    · next e =>
      rw [refreshed, (Fan.takeDemand_commanded _ _ _).1, e, State.withOverall_self]
      exact (State.demandOf_of_terms (s := v) (terms f).1 (terms f).2 (by rw [only.thermal]) only.power only.placement).symm
    · exact (Fan.takeDemand_commanded _ _ _).1
  · have notOff : v.standby = false := decide_eq_false awake
    obtain ⟨first, raised, _⟩ := Fan.takeDemand_commanded v.standby (v.demandOf f) (v.fan f)
    rw [← refreshed f] at first raised
    rw [notOff, if_neg Bool.false_ne_true] at raised
    rw [fan]
    split
    · rw [first, raised]
      exact ⟨Nat.le_max_left _ _, Nat.le_max_right _ _⟩
    · obtain ⟨second, again, _⟩ := Fan.takeDemand_commanded u.standby ((u.withOverall u.overallNow).demandOf f) (u.fan f)
      rw [standby, notOff, if_neg Bool.false_ne_true] at again
      rw [standby, notOff] at second ⊢
      rw [second, again, raised]
      exact ⟨(Nat.le_max_left _ _).trans (Nat.le_max_left _ _), Nat.le_max_right _ _⟩
  · have isOff : v.standby = true := decide_eq_true asleep
    have first : (u.fan f).st = .off := by
      rw [refreshed, isOff]
      exact Fan.takeDemand_off off _
    rw [fan]
    split
    · exact first
    · rw [standby, isOff]
      exact Fan.takeDemand_off first _

theorem State.levelled (v : State) (subject : Nat) : v.Levelled (v.refreshFans.updateOverall subject) subject := by
  have fans := v.fansLevelled subject
  have only := v.refreshFans_only
  have refreshed := v.refreshFans_fan
  have cooling := v.refreshFans_cooling
  generalize v.refreshFans = u at *
  have cooling' := u.updateOverall_cooling subject
  have thermal := u.updateOverall_thermal subject
  have failed := u.updateOverall_failed subject
  have kept : u.overallNow = u.thermal.overall → u.updateOverall subject = u := fun same => by
    rw [State.updateOverall_eq, if_pos same]
  have moves : u.overallNow ≠ u.thermal.overall → u.OverallMoves (u.updateOverall subject) subject := fun moved =>
    State.overallMoves moved subject
  generalize u.updateOverall subject = w at *
  have now : w.overallNow = u.overallNow := State.overallNow_congr (by rw [thermal]) failed
  have overall : w.thermal.overall = u.overallNow := by rw [thermal]
  have same : w.thermal.overall = v.thermal.overall → w = u := fun e => kept (by rw [← overall, e, only.thermal])
  have moved (e : w.thermal.overall ≠ v.thermal.overall) : u.OverallMoves w subject :=
    moves (by rw [← overall, only.thermal]; exact e)
  have hold : u.hold = v.hold := cooling.same.hold
  have power : w.power = v.power := cooling'.same.power.trans only.power
  refine ⟨cooling.trans cooling', by rw [thermal, only.thermal], overall.trans now.symm, fans.curve, fun awake f =>
    ⟨(fans.awake awake f).1, (fans.awake awake f).2, fans.demand f⟩, fun awake e f => ?_, fun asleep f => ⟨?_, fans.off asleep f⟩,
    fun critical calm run => ?_, fun calm => ?_, fun e => ?_, fun e run room => ?_⟩
  · obtain ⟨first, raised, _⟩ := Fan.takeDemand_commanded v.standby (v.demandOf f) (v.fan f)
    rw [show v.standby = false from decide_eq_false awake, if_neg Bool.false_ne_true] at raised
    rw [same e, refreshed, show v.standby = false from decide_eq_false awake, raised, (Fan.takeDemand_commanded _ _ _).1]
  · rw [fans.demand]
    exact State.demandOf_standby (by rw [power]; exact asleep)
  · have away : w.thermal.overall ≠ v.thermal.overall := by rw [critical]; exact calm.symm
    obtain ⟨notified, still, stopped⟩ := (moved away).critical (overall.symm.trans critical) (hold.trans run)
    refine ⟨?_, notified, still, fun a active => ?_⟩
    · rw [thermal, only.thermal]
      exact if_pos ⟨by rw [← overall]; exact away, overall.symm.trans critical⟩
    · refine State.Stopped.of_move ?_ (stopped a ((only.same a).active.trans active))
      rw [(only.same a).eq]
  · refine ⟨?_, ?_⟩
    · rw [thermal, only.thermal]
      exact if_neg fun q => calm (overall.trans q.2)
    · by_cases e : w.thermal.overall = v.thermal.overall
      · rw [same e]
        exact .of_eq only.notice
      · exact (Notice.SameButEvent.of_eq only.notice).trans ((moved e).calm (by rw [← overall]; exact calm))
  · rw [same e, only.events]
  · have told := (moved e).told (hold.trans run) (by unfold State.RingOpen; rw [only.events]; exact room)
    rw [told, ← overall, only.thermal]
    unfold State.placeRecord
    rw [only.events, ((State.outer_iff _ _).mp only.outer).2.2.1]

end Sys2Proof.Machine
end

section
/-! SUPPORT for O49. A reading after the time to it has passed, and what settles out of it (R98 to R106). -/

namespace Sys2Proof.Machine

/-! ### The time to the reading (log 6) -/

theorem State.pass_channel (s : State) (us : Nat) (d : ChannelId) : ∃ ms, (s.pass us).channel d = (s.channel d).pass ms := by
  obtain ⟨us', ms, e⟩ := s.pass_aged us
  rw [e]
  refine ⟨ms, ?_⟩
  cases d <;> rfl

/-- Of the thermal monitor only timers move with time. -/
theorem State.pass_thermal (s : State) (us : Nat) :
    (s.pass us).thermal.overall = s.thermal.overall ∧ (s.pass us).thermal.cutLatch = s.thermal.cutLatch
      ∧ (s.pass us).thermal.hb = s.thermal.hb ∧ ∀ f, (s.pass us).curveOf f = s.curveOf f := by
  obtain ⟨us', ms, e⟩ := s.pass_aged us
  rw [e]
  exact ⟨rfl, rfl, rfl, fun _ => rfl⟩

theorem Channel.take_pass (y : Channel) (ms n : Nat) (code : Int) :
    { (y.pass ms).take code with timer := n } = { y.take code with timer := n } := by
  cases valid : validCode code with
  | true =>
    rw [Channel.take_valid valid, Channel.take_valid valid]
    rfl
  | false =>
    rw [Channel.take_invalid valid, Channel.take_invalid valid]
    rfl

theorem State.takenChannel_pass (s : State) (us : Nat) (c : ChannelId) (code : Int) :
    (s.pass us).takenChannel c code = { (s.channel c).take code with timer := s.power.mode.interval } := by
  obtain ⟨ms, channel⟩ := s.pass_channel us c
  unfold State.takenChannel
  rw [channel, (s.pass_power us).1]
  exact Channel.take_pass _ _ _ _

theorem State.faultRises_pass (s : State) (us : Nat) (c : ChannelId) (code : Int) :
    (s.pass us).faultRises c code = s.faultRises c code := by
  obtain ⟨ms, channel⟩ := s.pass_channel us c
  have taken := Channel.take_pass (s.channel c) ms 0 code
  unfold State.faultRises
  rw [channel, show ((s.channel c).pass ms).fault = (s.channel c).fault from rfl]
  exact (congrArg (fun y : Channel => y.fault && !(s.channel c).fault) taken :)

theorem State.placeRecord_events {s t : State} (events : t.events = s.events) (clock : t.clock = s.clock) (code : Half) (va vb : Word) :
    (t.placeRecord code va vb).events = (s.placeRecord code va vb).events := by
  unfold State.placeRecord
  rw [events, clock]

/-! ### The reading (R99 to R106) -/

/-- What a reading makes of a state that the time to it has brought from s, up to the overall level. -/
structure State.ReadOver (s w : State) (c : ChannelId) (code : Int) : Prop where
  cooling : (s.passMs (s.channel c).timer).CoolingOnly w
  waits : s.WaitsAlike (w.withEvents s.events)
  channel : w.channel c = { (s.channel c).take code with timer := s.power.mode.interval }
  hb : w.thermal.hb = s.thermal.hb
  curve : ∀ f, (w.fan f).curve =
    if validCode code = true ∧ (s.curveOf f).channel = c then curveAt (s.curveOf f).points code else (s.fan f).curve
  overall : w.thermal.overall = w.overallNow
  awake : s.power.mode ≠ .standby → ∀ f, (s.fan f).commanded ≤ (w.fan f).commanded ∧ (w.fan f).demand ≤ (w.fan f).commanded
    ∧ (w.fan f).demand = w.demandOf f
  same : s.power.mode ≠ .standby → w.thermal.overall = s.thermal.overall →
    ∀ f, (w.fan f).commanded = max (s.fan f).commanded (w.fan f).demand
  asleep : s.power.mode = .standby → ∀ f, (w.fan f).demand = 0 ∧ ((s.fan f).st = .off → (w.fan f).st = .off)
  critical : w.thermal.overall = .critical → s.thermal.overall ≠ .critical → s.hold = .running →
    w.thermal.cutLatch = true ∧ w.notice.pend.getLsbD 0 = true ∧ (∀ a, (w.axis a).st.active = false)
      ∧ ∀ a, (s.axis a).st.active = true → s.Stopped w a .thermalBlock
  calm : w.thermal.overall ≠ .critical → w.thermal.cutLatch = s.thermal.cutLatch ∧ s.notice.SameButEvent w.notice
  silent : s.faultRises c code = false → w.thermal.overall = s.thermal.overall → w.events = s.events
  moved : s.faultRises c code = false → w.thermal.overall ≠ s.thermal.overall → s.hold = .running → s.RingOpen →
    w.events = (State.placeRecord { s with clock := w.clock } (eventCode .thermalLevel (channelNumber c))
      (natWord w.thermal.overall.rank) (natWord s.thermal.overall.rank)).events
  faulted : s.faultRises c code = true → w.thermal.overall = s.thermal.overall → s.hold = .running → s.RingOpen →
    w.events = (State.placeRecord { s with clock := w.clock } (eventCode .channelFault (channelNumber c))
      (signedWord ((s.channel c).take code).latest) (signedWord ((s.channel c).take code).reading)).events

theorem State.readOver (s : State) (c : ChannelId) (code : Int) :
    s.ReadOver ((s.passMs (s.channel c).timer).channelReading c code) c code := by
  rw [State.channelReading_eq]
  have passes := s.pass_waits (1000 * (s.channel c).timer)
  obtain ⟨hold, pins, mem, slots, placement, budget, notice, events⟩ := s.pass_blocks (1000 * (s.channel c).timer)
  obtain ⟨overall, latch, hb, curves⟩ := s.pass_thermal (1000 * (s.channel c).timer)
  have mode := (s.pass_power (1000 * (s.channel c).timer)).1
  have axis := s.pass_axis (1000 * (s.channel c).timer)
  have taken := s.takenChannel_pass (1000 * (s.channel c).timer) c code
  have rises := s.faultRises_pass (1000 * (s.channel c).timer) c code
  have take : (((s.pass (1000 * (s.channel c).timer)).channel c).take code).latest = ((s.channel c).take code).latest
      ∧ (((s.pass (1000 * (s.channel c).timer)).channel c).take code).reading = ((s.channel c).take code).reading :=
    ⟨(congrArg Channel.latest taken :), (congrArg Channel.reading taken :)⟩
  have fan (f : FanId) : ((s.pass (1000 * (s.channel c).timer)).fan f).curve = (s.fan f).curve
      ∧ ((s.pass (1000 * (s.channel c).timer)).fan f).commanded = (s.fan f).commanded
      ∧ ((s.pass (1000 * (s.channel c).timer)).fan f).st = (s.fan f).st := by
    obtain ⟨_, _, e⟩ := s.pass_fan (1000 * (s.channel c).timer) f
    rw [e]
    exact ⟨rfl, rfl, rfl⟩
  have reads := (s.pass (1000 * (s.channel c).timer)).readingTaken_rules c code
  unfold State.passMs
  generalize passed : s.pass (1000 * (s.channel c).timer) = x at *
  have levelled := (x.readingTaken c code).levelled (channelNumber c)
  generalize x.readingTaken c code = v at *
  generalize v.refreshFans.updateOverall (channelNumber c) = w at *
  have cooling : x.CoolingOnly w := reads.cooling.trans levelled.cooling
  have same := reads.cooling.same
  have vMode : v.power.mode = s.power.mode := (congrArg Power.mode same.power).trans mode
  have vOverall : v.thermal.overall = s.thermal.overall := Eq.trans (by rw [reads.thermal]) overall
  have vHold : v.hold = s.hold := same.hold.trans hold
  have vFan (f : FanId) : (v.fan f).commanded = (s.fan f).commanded ∧ (v.fan f).st = (s.fan f).st := by
    obtain ⟨_, commanded, st⟩ := fan f
    rw [reads.fan]
    exact ⟨commanded, st⟩
  have vAxis (a : AxisId) : (v.axis a).st = (s.axis a).st ∧ (v.axis a).move = (s.axis a).move := by
    rw [State.axis_of_axes reads.axes]
    exact axis a
  have clock : w.clock = x.clock := cooling.same.clock
  refine ⟨by unfold State.passMs; rw [passed]; exact cooling, ?_, ?_, ?_, fun f => ?_, levelled.overall, fun awake f => ?_, fun awake e f => ?_, fun asleep f => ?_,
    fun critical calm run => ?_, fun calm => ?_, fun quiet e => ?_, fun quiet e run room => ?_, fun loud e run room => ?_⟩
  · refine passes.trans ?_
    rw [← events]
    unfold State.CoolingOnly at cooling
    rw [cooling]
    exact .of_blocks rfl rfl rfl rfl rfl
  · unfold State.channel
    rw [levelled.thermal, reads.thermal, taken]
    exact PerChannel.get_set_self _ _ _
  · rw [levelled.thermal, reads.thermal]
    exact hb
  · rw [levelled.curve, reads.curve, curves, (fan f).1]
  · obtain ⟨rise, within, demand⟩ := levelled.awake (by rw [vMode]; exact awake) f
    exact ⟨(vFan f).1 ▸ rise, within, demand⟩
  · rw [← (vFan f).1]
    exact levelled.same (by rw [vMode]; exact awake) (e.trans vOverall.symm) f
  · obtain ⟨demand, off⟩ := levelled.asleep (by rw [vMode]; exact asleep) f
    exact ⟨demand, fun e => off ((vFan f).2.trans e)⟩
  · obtain ⟨cut, told, still, stopped⟩ := levelled.critical critical (by rw [vOverall]; exact calm) (vHold.trans run)
    exact ⟨cut, told, still, fun a active => (stopped a ((congrArg AxisState.active (vAxis a).1).trans active)).of_move (vAxis a).2⟩
  · obtain ⟨cut, told⟩ := levelled.calm calm
    exact ⟨cut.trans (Eq.trans (by rw [reads.thermal]) latch), (Notice.SameButEvent.of_eq notice).trans (reads.notice.trans told)⟩
  · exact (levelled.silent (e.trans vOverall.symm)).trans ((reads.silent (rises.trans quiet)).trans events)
  · have vEvents := (reads.silent (rises.trans quiet)).trans events
    rw [levelled.told (by rw [vOverall]; exact e) (vHold.trans run) (by unfold State.RingOpen; rw [vEvents]; exact room), vOverall]
    exact State.placeRecord_events (s := { s with clock := w.clock }) vEvents (same.clock.trans clock.symm) _ _ _
  · rw [levelled.silent (e.trans vOverall.symm), reads.told (rises.trans loud) (hold.trans run) (by
      unfold State.RingOpen
      rw [events]
      exact room), take.1, take.2]
    exact State.placeRecord_events (s := { s with clock := w.clock }) events clock.symm _ _ _

end Sys2Proof.Machine
end

section
/-! SUPPORT for O49. The commands of a reading in RUN, in a cool-down and in STANDBY (R98, R131, R134). -/

namespace Sys2Proof.Machine

/-! ### Settling after the thermal side has acted (log 10) -/

/-- Out of a quiet state, whatever has been told: no slot moves while the part settles. -/
theorem State.Quiet.settle_slots {s w : State} (h : s.Quiet) (waits : s.WaitsAlike (w.withEvents s.events)) :
    w.HostQuiet ∧ w.settle.slots = s.slots := by
  have quiet : w.HostQuiet := by
    rcases h.hostQuiet with host | port
    · exact .inl (waits.host.trans host)
    · exact .inr (waits.port.trans port)
  have noAction := waits.nextAction h.running (Option.isNone_iff_eq_none.mp h.still)
  obtain ⟨noClaim, _⟩ := (State.nextAction_none_iff (s := w.withEvents s.events) (waits.hold.trans h.running)).mp noAction
  refine ⟨quiet, ?_⟩
  rcases (State.nextClaim_none_iff _).mp noClaim with full | ⟨slot, _, _⟩
  · exact (State.settle_noClaim quiet ((State.nextClaim_none_iff w).mpr (.inl full))).2.1.trans waits.slots
  · exact (State.settleFor_slots w 24 quiet (State.slotClaim_none_congr (w.withEvents s.events) w rfl slot)).trans waits.slots

theorem State.pass_power_still {s : State} (mode : s.power.mode ≠ .cooldown) (us : Nat) : (s.pass us).power = s.power := by
  unfold State.pass
  split
  · rfl
  · dsimp only
    split
    · rfl
    · exact if_neg mode

theorem State.coolDone_of_mode {s : State} (mode : s.power.mode ≠ .cooldown) : s.coolDone = false := by simp [State.coolDone, mode]

theorem State.checkCooldown_of_mode {s : State} (mode : s.power.mode ≠ .cooldown) : s.checkCooldown = s :=
  if_neg fun q => by
    rw [State.coolDone_of_mode mode] at q
    exact Bool.false_ne_true q.2

/-- The reading before a cool-down is checked and a re-cool begins. -/
def State.readTo (s : State) (c : ChannelId) (code : Int) : State := (s.passMs (s.channel c).timer).channelReading c code

theorem State.ReadOver.power {s w : State} {c : ChannelId} {code : Int} (r : s.ReadOver w c code) :
    w.power = (s.passMs (s.channel c).timer).power := r.cooling.same.power

theorem State.readingExpiry_awake {s : State} (run : s.hold = .running) (mode : s.power.mode ≠ .standby) (c : ChannelId) (code : Int) :
    s.readingExpiry c code = if c = .source then (s.readTo c code).checkCooldown else s.readTo c code := by
  have running : (s.passMs (s.channel c).timer).hold = .running := (s.pass_blocks _).1.trans run
  unfold State.readingExpiry
  rw [if_neg (by rw [run]; decide)]
  unfold State.takeReading
  rw [if_neg (fun q => q running)]
  exact if_neg fun q => mode ((s.pass_power _).1.symm.trans q.1)

theorem State.readingExpiry_standby {s : State} (run : s.hold = .running) (mode : s.power.mode = .standby) (c : ChannelId) (code : Int) :
    s.readingExpiry c code
      = if s.highestLevel ≠ (s.readTo c code).highestLevel ∧ Level.hot.rank ≤ (s.readTo c code).highestLevel.rank then
          (s.readTo c code).recool
        else s.readTo c code := by
  have running : (s.passMs (s.channel c).timer).hold = .running := (s.pass_blocks _).1.trans run
  have passed : (s.passMs (s.channel c).timer).power.mode = .standby := (s.pass_power _).1.trans mode
  have level : (s.passMs (s.channel c).timer).highestLevel = s.highestLevel := State.highestLevel_congr fun d => by
    obtain ⟨ms, e⟩ := s.pass_channel (1000 * (s.channel c).timer) d
    unfold State.passMs
    rw [e]
    rfl
  have unchecked : (if c = .source then (s.readTo c code).checkCooldown else s.readTo c code) = s.readTo c code := by
    split
    · refine State.checkCooldown_of_mode ?_
      rw [show (s.readTo c code).power = _ from (s.readOver c code).power, passed]
      decide
    · rfl
  unfold State.readingExpiry
  rw [if_neg (by rw [run]; decide)]
  unfold State.takeReading
  rw [if_neg (fun q => q running)]
  dsimp only
  rw [show (s.passMs (s.channel c).timer).channelReading c code = s.readTo c code from rfl, unchecked, level]
  exact if_congr (and_iff_right passed) rfl rfl

/-! ### In RUN (R99 to R106) -/

/-- What settles out of a reading that ends no cool-down and begins none. -/
structure State.ReadSettled (s w t : State) : Prop where
  axes : t.axes = w.axes
  fans : t.fans = w.fans
  thermal : t.thermal = w.thermal
  power : t.power = w.power
  placement : t.placement = s.placement
  mem : t.mem = s.mem
  slots : t.slots = s.slots
  clock : t.clock = w.clock
  notice : t.notice = w.notice
  silent : s.RingInv → w.events = s.events → s.NoEvent t
  told : s.RingInv → ∀ code va vb, w.events = (State.placeRecord { s with clock := w.clock } code va vb).events → s.Raises t code va vb

theorem State.Quiet.readSettled {s w : State} {c : ChannelId} {code : Int} (h : s.Quiet) (r : s.ReadOver w c code) :
    s.ReadSettled w w.settle := by
  obtain ⟨quiet, slots⟩ := h.settle_slots r.waits
  obtain ⟨mem, ⟨clock, _, _⟩, ⟨axes, placement, _⟩, ⟨fans, thermal, power⟩, notice, p, c', _⟩ := (State.settle_keeps w quiet).blocks
  obtain ⟨_, _, mem', _, placement', _⟩ := s.pass_blocks (1000 * (s.channel c).timer)
  have same := r.cooling.same
  refine ⟨axes, fans, thermal, power, placement.trans (same.placement.trans placement'), mem.trans (same.mem.trans mem'), slots, clock,
    notice, fun inv events => ⟨?_, by rw [p, events], by rw [c', events]⟩, fun inv code va vb events =>
      (h.settle_told inv.fedOk events r.waits).raises⟩
  rw [(State.settle_ring w quiet (by rw [events]; exact inv.fedOk)).1]
  unfold State.ringTraffic
  rw [events, show w.path.buffer = s.path.buffer from r.waits.buffer]

end Sys2Proof.Machine
end

section
/-! SUPPORT for O49. The commands of a reading in each mode, as the rules say them (R98 to R106, R131, R134). -/

namespace Sys2Proof.Machine

theorem validCode_iff (code : Int) : validCode code = true ↔ -80 ≤ code ∧ code ≤ 300 := inRange_iff _ _ _

theorem validCode_false {code : Int} (outside : code < -80 ∨ 300 < code) : validCode code = false := by
  rw [← Bool.not_eq_true, validCode_iff]
  omega

/-! ### In a cool-down (R131, R133) -/

/-- The end of a cool-down leaves of the channels all but their timers (R98, R133). -/
theorem State.CooledDown.channel {y t : State} {k : SlotId} {r : Result} (h : y.CooledDown t k r) (d : ChannelId) :
    ∃ n, t.channel d = { y.channel d with timer := n } := by
  unfold State.channel
  rw [h.thermal]
  unfold State.cooledThermal
  dsimp only
  split
  · exact ⟨_, rfl⟩
  · refine ⟨Config.readingStandbyMs, ?_⟩
    cases d <;> rfl

/-- A cool-down that ends with no channel HOT ends in STANDBY (R133). -/
theorem State.CooledDown.standsBy {y t : State} {k : SlotId} {r : Result} (h : y.CooledDown t k r)
    (cold : y.highestLevel.rank < Level.hot.rank) :
    t.power = { y.power with mode := .standby, ref := none } ∧ t.release = true ∧ (∀ d, (t.channel d).timer = 2000)
      ∧ ∀ f, (t.fan f).demand = 0 ∧ (t.fan f).commanded = 0 := by
  have notHot : ¬ Level.hot.rank ≤ y.highestLevel.rank := Nat.not_le.mpr cold
  have standby : y.cooledPower = { y.power with mode := .standby, ref := none } := if_neg notHot
  have slow : y.cooledThermal.channels = y.thermal.channels.map (fun c => { c with timer := Config.readingStandbyMs }) := if_neg notHot
  have mode : (y.cooled k r).power.mode = .standby := congrArg Power.mode standby
  refine ⟨h.power.trans standby, ?_, fun d => ?_, fun f => ?_⟩
  · exact (State.release_iff _).mpr (by rw [h.power, standby])
  · unfold State.channel
    rw [h.thermal, slow]
    cases d <;> rfl
  · rw [h.fan, (State.standby_iff _).mpr mode]
    refine ⟨?_, (Fan.takeDemand_atRest _ _).1⟩
    rw [(Fan.takeDemand_commanded _ _ _).1]
    exact State.demandOf_standby mode

/-- The three conditions of R131 in words. -/
theorem State.coolDone_iff {s : State} (mode : s.power.mode = .cooldown) : s.coolDone = true ↔
    s.power.minMet = true ∧ (s.channel .source).fault = false ∧ (s.channel .source).reading ≤ 90
      ∧ s.power.park.h ≠ .waiting ∧ s.power.park.v ≠ .waiting := by
  constructor
  · intro done
    simp only [State.coolDone, Bool.and_eq_true, decide_eq_true_iff, Bool.not_eq_true'] at done
    obtain ⟨⟨⟨⟨⟨_, minMet⟩, sound⟩, cool⟩, h⟩, v⟩ := done
    exact ⟨minMet, sound, cool, h, v⟩
  · rintro ⟨minMet, sound, cool, h, v⟩
    exact State.coolDone_eq_true mode minMet cool sound h v

/-! ### In STANDBY (R134) -/

theorem Fan.takeDemand_kicks {x : Fan} (off : x.st = .off) {d : Nat} (some_ : 0 < d) : (Fan.takeDemand false d x).st = .kick := by
  have above : ¬ max x.commanded d = 0 := by omega
  unfold Fan.takeDemand Fan.follow
  rw [off]
  exact congrArg Fan.st (if_neg above)

/-- A re-cool has begun, and the part has settled. -/
structure State.Recooled (w t : State) : Prop where
  power : t.power = recoolPower
  channel : ∀ d, t.channel d = { w.channel d with timer := 250 }
  hb : t.thermal.hb = w.thermal.hb
  fan : ∀ f, 60 ≤ (t.fan f).demand ∧ (t.fan f).demand ≤ (t.fan f).commanded ∧ (t.fan f).demand = t.demandOf f
    ∧ ((w.fan f).st = .off → (t.fan f).st = .kick)
  notice : t.notice.pend.getLsbD 4 = true

theorem State.recool_cooling {w : State} (run : w.hold = .running) :
    w.recool = { w with
      axes := w.recool.axes, fans := w.recool.fans, budget := w.recool.budget
      thermal := { w.thermal with channels := w.thermal.channels.map (fun c => { c with timer := 250 }) }
      power := recoolPower
      notice := { w.notice with pend := w.notice.pend ||| NoticeSource.power.bit } }
    ∧ ∀ f, w.recool.fan f = (w.fan f).takeDemand false
        ((State.restartTimers { w with power := recoolPower } Config.readingMs).demandOf f) := by
  have only := (State.restartTimers { w with power := recoolPower } Config.readingMs).refreshFans_only
  have cooling := (State.restartTimers { w with power := recoolPower } Config.readingMs).refreshFans_cooling
  have fan := (State.restartTimers { w with power := recoolPower } Config.readingMs).refreshFans_fan
  have eq : w.recool = (State.restartTimers { w with power := recoolPower } Config.readingMs).refreshFans.raiseNotice .power := rfl
  rw [State.raiseNotice_running (cooling.same.hold.trans run)] at eq
  unfold State.CoolingOnly at cooling
  have thermal := only.thermal
  have notice := only.notice
  have events := only.events
  generalize (State.restartTimers { w with power := recoolPower } Config.readingMs).refreshFans = u at *
  refine ⟨?_, fun f => ?_⟩
  · rw [eq, cooling, thermal, notice, events]
    rfl
  · rw [eq]
    exact fan f

theorem State.recooled {w : State} (run : w.hold = .running) (quiet : w.recool.HostQuiet) : w.Recooled w.recool.settle := by
  obtain ⟨blocks, fan⟩ := State.recool_cooling run
  obtain ⟨_, _, _, ⟨fans, thermal, power⟩, notice, _⟩ := (State.settle_keeps _ quiet).blocks
  have placement : w.recool.settle.placement = w.placement := Eq.trans (State.settle_keeps _ quiet).blocks.2.2.1.2.1 (by rw [blocks])
  generalize w.recool.settle = t at *
  have thermal' : t.thermal = { w.thermal with channels := w.thermal.channels.map (fun c => { c with timer := 250 }) } :=
    thermal.trans (by rw [blocks])
  have power' : t.power = recoolPower := power.trans (by rw [blocks])
  refine ⟨power', fun d => ?_, by rw [thermal'], fun f => ?_, ?_⟩
  · unfold State.channel
    rw [thermal']
    cases d <;> rfl
  · have demand : 60 ≤ (State.restartTimers { w with power := recoolPower } Config.readingMs).demandOf f :=
      State.le_demandOf (show recoolPower.mode ≠ .standby by decide) (le_foldl_max (.inr (by
        simp [State.restartTimers, recoolPower, Config.cooldownDuty])))
    obtain ⟨first, raised, floor, curve⟩ := Fan.takeDemand_commanded false
      ((State.restartTimers { w with power := recoolPower } Config.readingMs).demandOf f) (w.fan f)
    have same : t.demandOf f = (State.restartTimers { w with power := recoolPower } Config.readingMs).demandOf f :=
      State.demandOf_of_terms (by rw [State.fan_congr fans, fan]; exact curve) (by rw [State.fan_congr fans, fan]; exact floor)
        (by rw [thermal']; rfl) power' placement
    rw [same, State.fan_congr fans, fan, first, raised, if_neg Bool.false_ne_true]
    exact ⟨demand, Nat.le_max_right _ _, rfl, fun off => Fan.takeDemand_kicks off (by omega)⟩
  · rw [notice, blocks]
    show (w.notice.pend ||| NoticeSource.power.bit).getLsbD 4 = true
    rw [BitVec.getLsbD_or]
    exact Bool.or_true _

end Sys2Proof.Machine
end

section
/-! SUPPORT for O49. The whole of a completed reading (R82, R98 to R106, R131, R134). -/

namespace Sys2Proof.Machine

/-- A reading in RUN: the channel, the curves, the overall level and the demands, and the one event that is told. -/
theorem State.Quiet.reads {s : State} (h : s.Quiet) (mode : s.power.mode = .run) (c : ChannelId) (code : Int) :
    s.ReadOver (s.readTo c code) c code ∧ s.ReadSettled (s.readTo c code) (s.readTo c code).settle
      ∧ exec (.temperatureReading c code) s = .next (s.readTo c code).settle ∧ (s.readTo c code).power = s.power := by
  have reads := s.readOver c code
  have power : (s.readTo c code).power = s.power := reads.power.trans (State.pass_power_still (by rw [mode]; decide) _)
  refine ⟨reads, h.readSettled reads, congrArg (fun u : State => Host.Outcome.next u.settle) ?_, power⟩
  rw [State.readingExpiry_awake h.running (by rw [mode]; decide)]
  split
  · exact State.checkCooldown_of_mode (by rw [power, mode]; decide)
  · rfl

/-- Settles O49: the reading in each of the three modes, the largest term of the demand, and the level after a valid reading. -/
theorem temperatures : Obligations.Temperatures := by
  refine ⟨fun s c code h mode => ?_, fun s code k now h mode ref passed => ?_, fun s c code h mode => ?_,
    fun s f => ⟨State.demandOf_standby, fun m awake term largest => State.demandOf_largest awake term largest⟩,
    fun t r low order hyst => nextLevel_rules low order hyst⟩
  · obtain ⟨reads, settled, row, power⟩ := h.reads mode c code
    generalize s.readTo c code = w at *
    generalize w.settle = t at *
    have channel : t.channel c = { (s.channel c).take code with timer := 250 } := by
      have taken := reads.channel
      rw [mode] at taken
      unfold State.channel at taken ⊢
      rw [settled.thermal]
      exact taken
    have awake : s.power.mode ≠ .standby := by rw [mode]; decide
    have fan (f : FanId) : t.fan f = w.fan f := State.fan_congr settled.fans f
    have overall : t.thermal.overall = w.thermal.overall := congrArg Thermal.overall settled.thermal
    have fault : (t.channel c).fault = ((s.channel c).take code).fault := by rw [channel]
    refine ⟨t, row, by rw [channel], ?_, ?_, fun low high => ?_, fun outside => ?_, ?_, fun critical calm => ?_, fun calm => ?_,
      fun f => ?_, fun same f => ?_, fun room inv => ⟨fun quiet => ?_, fun sound faulted same => ?_⟩, settled.power.trans power,
      settled.placement, settled.mem, settled.slots, settled.clock.trans reads.cooling.same.clock⟩
    · rw [channel]
      cases valid : validCode code with
      | true => rw [Channel.take_valid valid]
      | false => rw [Channel.take_invalid valid]
    · rw [channel]
      cases valid : validCode code with
      | true => rw [Channel.take_valid valid]
      | false => rw [Channel.take_invalid valid]
    · have valid := (validCode_iff code).mpr ⟨low, high⟩
      rw [channel, Channel.take_valid valid]
      refine ⟨rfl, rfl, rfl, rfl, rfl, congrArg ((s.channel c).fault && ·) (decide_eq_decide.mpr (by omega)), rfl, fun f => ?_⟩
      rw [fan, reads.curve]
      exact if_congr (and_iff_right valid) rfl rfl
    · have invalid := validCode_false outside
      rw [channel, Channel.take_invalid invalid]
      refine ⟨rfl, rfl, rfl, rfl, rfl, congrArg ((s.channel c).fault || ·) (decide_eq_decide.mpr (by omega)), rfl, fun f => ?_⟩
      rw [fan, reads.curve, if_neg fun q => Bool.false_ne_true (invalid.symm.trans q.1)]
    · rw [overall, reads.overall]
      exact (State.overallNow_congr (by rw [settled.thermal]) fun f => by rw [fan]).symm
    · obtain ⟨cut, told, still, stopped⟩ := reads.critical (overall.symm.trans critical) calm h.running
      refine ⟨(congrArg Thermal.cutLatch settled.thermal).trans cut, by rw [settled.notice]; exact told, fun a => ?_, fun a active => ?_⟩
      · rw [State.axis_of_axes settled.axes]
        exact still a
      · exact (stopped a active).of_settled settled.axes
    · obtain ⟨cut, told⟩ := reads.calm (by rw [← overall]; exact calm)
      exact ⟨(congrArg Thermal.cutLatch settled.thermal).trans cut, fun x other => by rw [settled.notice]; exact told x other⟩
    · rw [fan, State.demandOf_congr w t f (fan f) settled.thermal settled.power (settled.placement.trans ?_)]
      · exact reads.awake awake f
      · exact (reads.cooling.same.placement.trans (s.pass_blocks _).2.2.2.2.1).symm
    · rw [fan]
      exact reads.same awake (overall.symm.trans same) f
    · have unrisen : s.faultRises c code = false := by
        unfold State.faultRises
        rw [← fault]
        rcases quiet with same | none_
        · rw [same]
          exact Bool.and_not_self _
        · rw [none_]
          rfl
      rw [overall]
      exact ⟨fun same => settled.silent inv (reads.silent unrisen same),
        fun moved => settled.told inv _ _ _ (reads.moved unrisen moved h.running room)⟩
    · have rises : s.faultRises c code = true := by
        unfold State.faultRises
        rw [← fault, faulted, sound]
        rfl
      have invalid : validCode code = false := by
        cases valid : validCode code with
        | false => rfl
        | true =>
          rw [fault, Channel.take_valid valid, sound] at faulted
          cases faulted
      have told := reads.faulted rises (overall.symm.trans same) h.running room
      rw [Channel.take_invalid invalid] at told
      exact settled.told inv _ _ _ told
  · have reads := s.readOver .source code
    have settled := h.toQuiet.readSettled reads
    have row : exec (.temperatureReading .source code) s = .next (s.readTo .source code).checkCooldown.settle :=
      congrArg (fun u : State => Host.Outcome.next u.settle)
        ((State.readingExpiry_awake h.running (by rw [mode]; decide) .source code).trans (if_pos rfl))
    have power : (s.readTo .source code).power = now := reads.power.trans passed.symm
    have path : (s.readTo .source code).path = s.path := reads.cooling.same.path.trans (h.pass_path _)
    have slots : (s.readTo .source code).slots = s.slots := reads.waits.slots
    have run : (s.readTo .source code).hold = .running := reads.waits.hold.trans h.running
    have mode' : now.mode = .cooldown := by
      rw [passed]
      exact (s.pass_power _).1.trans mode
    have ref' : now.ref = some k := by
      rw [passed]
      exact (s.pass_power _).2.2.1.trans ref
    change s.ReadOver (s.readTo .source code) .source code at reads
    change s.ReadSettled (s.readTo .source code) (s.readTo .source code).settle at settled
    generalize s.readTo .source code = w at *
    subst power
    by_cases done : w.coolDone = true
    · have cools := State.settle_endCooldown (y := w) (k := k) doneOk ref' run (by rw [path]; exact h.host)
        (by rw [slots]; exact h.queue) (by rw [slots]; exact h.writer)
      have ends : w.checkCooldown = w.endCooldown doneOk := if_pos ⟨run, done⟩
      rw [ends] at row
      obtain ⟨n, channel⟩ := cools.channel .source
      obtain ⟨minMet, sound, cool, parkH, parkV⟩ := (State.coolDone_iff mode').mp done
      refine ⟨_, row, fun _ cold => ?_, fun why => ?_⟩
      · have level : (w.endCooldown doneOk).settle.highestLevel = w.highestLevel := State.highestLevel_congr fun d => by
          obtain ⟨n, e⟩ := cools.channel d
          rw [e]
        rw [level] at cold
        obtain ⟨power, release, timers, fans⟩ := cools.standsBy cold
        refine ⟨power, release, cools.queue, ?_, timers, fans⟩
        rw [cools.notice]
        show (w.notice.pend ||| NoticeSource.power.bit).getLsbD 4 = true
        rw [BitVec.getLsbD_or]
        exact Bool.or_true _
      · rw [channel] at why
        rcases why with unmet | fault | hot | waits | waits
        · rw [minMet] at unmet; cases unmet
        · rw [show (w.channel .source).fault = true from fault] at sound; cases sound
        · exact absurd cool (Int.not_le.mpr hot)
        · exact absurd waits parkH
        · exact absurd waits parkV
    · have same : w.checkCooldown = w := if_neg fun q => done q.2
      rw [same] at row
      have channel : w.settle.channel .source = w.channel .source := by
        unfold State.channel
        rw [settled.thermal]
      refine ⟨_, row, fun cool _ => ?_, fun _ => ⟨settled.power, settled.slots, ?_⟩⟩
      · rw [channel] at cool
        exact absurd ((State.coolDone_iff mode').mpr cool) done
      · rw [channel, reads.channel, mode]
        rfl
  · have reads := s.readOver c code
    have settled := h.readSettled reads
    have row := State.readingExpiry_standby h.running mode c code
    have still : (s.readTo c code).power = s.power := reads.power.trans (State.pass_power_still (by rw [mode]; decide) _)
    have run : (s.readTo c code).hold = .running := reads.waits.hold.trans h.running
    have placement : (s.readTo c code).placement = s.placement :=
      reads.cooling.same.placement.trans (s.pass_blocks (1000 * (s.channel c).timer)).2.2.2.2.1
    have mem : (s.readTo c code).mem = s.mem := reads.cooling.same.mem.trans (s.pass_blocks (1000 * (s.channel c).timer)).2.2.1
    change s.ReadOver (s.readTo c code) c code at reads
    change s.ReadSettled (s.readTo c code) (s.readTo c code).settle at settled
    generalize s.readTo c code = w at *
    by_cases recools : s.highestLevel ≠ w.highestLevel ∧ Level.hot.rank ≤ w.highestLevel.rank
    · rw [if_pos recools] at row
      obtain ⟨blocks, _⟩ := State.recool_cooling run
      have waits : s.WaitsAlike (w.recool.withEvents s.events) := by
        refine reads.waits.trans ?_
        rw [blocks]
        exact .of_blocks rfl rfl rfl rfl rfl
      obtain ⟨quiet, slots⟩ := h.settle_slots waits
      have t := State.recooled run quiet
      obtain ⟨mem', _, ⟨_, placement', _⟩, _⟩ := (State.settle_keeps _ quiet).blocks
      have level : w.recool.settle.highestLevel = w.highestLevel := State.highestLevel_congr fun d => by rw [t.channel]
      refine ⟨_, congrArg (fun u : State => Host.Outcome.next u.settle) row, fun why => ?_, fun _ _ => ⟨t.power, ?_, ?_, fun d => by
        rw [t.channel], fun f => ?_, t.notice⟩, t.hb.trans reads.hb, placement'.trans (Eq.trans (by rw [blocks]) placement),
        mem'.trans (Eq.trans (by rw [blocks]) mem), slots⟩
      · rw [level] at why
        exact (why.elim (fun same => recools.1 same.symm) fun cold => absurd recools.2 (Nat.not_le.mpr cold)).elim
      · unfold State.release
        rw [t.power]
        rfl
      · exact (State.cut_iff _).mpr (.inr (by rw [t.power]; decide))
      · obtain ⟨enough, within, demand, kicks⟩ := t.fan f
        exact ⟨enough, within, demand, fun off => kicks ((reads.asleep mode f).2 off)⟩
    · rw [if_neg recools] at row
      have level : w.settle.highestLevel = w.highestLevel := by
        unfold State.highestLevel
        rw [settled.thermal]
      refine ⟨_, congrArg (fun u : State => Host.Outcome.next u.settle) row, fun _ => ⟨settled.power.trans still, ?_, fun f => ?_⟩,
        fun moved hot => ?_, (congrArg Thermal.hb settled.thermal).trans reads.hb, settled.placement, settled.mem, settled.slots⟩
      · unfold State.channel
        rw [settled.thermal]
        show (w.channel c).timer = 2000
        rw [reads.channel, mode]
        rfl
      · rw [State.fan_congr settled.fans]
        exact (reads.asleep mode f).1
      · rw [level] at moved hot
        exact absurd ⟨moved.symm, hot⟩ recools

end Sys2Proof.Machine
end

section
/-! SUPPORT for O5. The release of RESET: what the blocks are when it is over, and the first claim and grant (R155, R179). -/

namespace Sys2Proof.Machine

/-! ### The blocks at the release -/

/-- What a release of RESET leaves of the blocks as long as no cool-down ends with it. -/
structure State.Released (s t : State) : Prop where
  hold : t.hold = .running
  mem : t.mem = s.mem
  clock : t.clock = s.clock
  power : t.power = s.power
  notice : t.notice = s.notice
  placement : t.placement = s.placement
  thermal : t.thermal = s.thermal
  capacity : t.budget.capacity = if s.pins.supplyLow then 40 else 64
  fan : ∀ f, t.fan f = (s.fan f).takeDemand s.standby (s.demandOf f)
  axis : ∀ a, (s.unheld.axis a).SameButDrive (t.axis a)

/-- The change at the release reaches neither what a demand is formed from nor any block that outlasts it. -/
theorem State.unheld_blocks (s : State) :
    s.unheld.slots = s.slots ∧ s.unheld.power = s.power ∧ s.unheld.placement = s.placement ∧ s.unheld.thermal = s.thermal
      ∧ s.unheld.mesh = s.mesh ∧ s.unheld.fans = s.fans ∧ s.unheld.budget.capacity = if s.pins.supplyLow then 40 else 64 := by
  unfold State.unheld
  split <;> exact ⟨rfl, rfl, rfl, rfl, rfl, rfl, rfl⟩

theorem State.refreshFans_capacity (s : State) : s.refreshFans.budget.capacity = s.budget.capacity := rfl

theorem State.released (s : State) : s.Released s.unheld.refreshFans := by
  obtain ⟨_, clock, mem, notice, _, hold, _⟩ := s.released_keeps
  obtain ⟨_, power, placement, thermal, _, fans, capacity⟩ := s.unheld_blocks
  have only := s.unheld.refreshFans_only
  have fan := State.fan_congr fans
  refine ⟨hold, mem, clock, only.power.trans power, notice, only.placement.trans placement, only.thermal.trans thermal,
    capacity, fun f => ?_, only.same⟩
  rw [s.unheld.refreshFans_fan, State.standby_congr s _ power, fan,
    State.demandOf_of_terms (s := s) (t := s.unheld) (by rw [fan]) (by rw [fan]) (by rw [thermal]) power placement]

theorem State.Released.settle {s x : State} (h : s.Released x) (quiet : x.HostQuiet) : s.Released x.settle := by
  obtain ⟨mem, ⟨clock, _, hold⟩, ⟨axes, placement, budget⟩, ⟨fans, thermal, power⟩, notice, _⟩ := (x.settle_keeps quiet).blocks
  exact ⟨hold.trans h.hold, mem.trans h.mem, clock.trans h.clock, power.trans h.power, notice.trans h.notice,
    placement.trans h.placement, thermal.trans h.thermal, (congrArg Budget.capacity budget).trans h.capacity,
    fun f => (State.fan_congr fans f).trans (h.fan f), fun a => by
      rw [State.axis_of_axes axes]
      exact h.axis a⟩

/-! ### The row of the release -/

theorem State.arrive_none {s : State} (host : s.path.host = none) : s.arrive = s := by
  unfold State.arrive
  rw [host]
  split <;> rfl

theorem State.checkTimeout_of_mode {s : State} (mode : s.power.mode ≠ .cooldown) : s.checkTimeout = s :=
  if_neg fun due => mode due.1

theorem State.unheld_host (s : State) : s.unheld.refreshFans.path.host = s.path.host := by
  obtain ⟨_, _, _, _, path, _⟩ := s.released_keeps
  rw [path]

/-- With no host access waiting a release is the demands formed anew and the two checks of the cool-down (R137). -/
theorem State.releases {s x : State} (held : s.hold ≠ .running) (checked : s.unheld.refreshFans.checkCooldown.checkTimeout = x)
    (host : x.path.host = none) : exec .resetRelease s = .next x.settle := by
  have row : exec .resetRelease s = .next s.unheld.refreshFans.checkCooldown.checkTimeout.arrive.settle :=
    congrArg Host.Outcome.next (if_neg held)
  rw [row, checked, State.arrive_none host]

/-- Outside COOLDOWN there is nothing to check. -/
theorem State.releases_awake {s : State} (held : s.hold ≠ .running) (host : s.path.host = none) (mode : s.power.mode ≠ .cooldown) :
    exec .resetRelease s = .next s.unheld.refreshFans.settle ∧ s.Released s.unheld.refreshFans.settle := by
  have released := s.released
  have host' := s.unheld_host.trans host
  have awake : s.unheld.refreshFans.power.mode ≠ .cooldown := by rw [released.power]; exact mode
  refine ⟨State.releases held ?_ host', released.settle (.inl host')⟩
  rw [State.checkCooldown_of_mode awake, State.checkTimeout_of_mode awake]

/-! ### The first claim and the first grant (R155, R179) -/

/-- The event writer's claim for P = 0 stands in the buffer. -/
def State.zeroQueued (x : State) : State :=
  { x.queueEntry 0x100 0 (.eventWriter false) with events := { x.events with claimZero := false, q := 0 } }

theorem State.eventClaim_zero {x : State} (zero : x.events.claimZero = true) : x.eventClaim = some x.zeroQueued := by
  unfold State.eventClaim State.zeroQueued
  dsimp only
  rw [if_pos zero]

/-- No block has anything to claim. -/
theorem State.nextClaim_none_of_idle {x : State} (queue : x.slots.queue = []) (zero : x.events.claimZero = false)
    (out : x.events.out = []) (snapshot : x.mesh.snapshot = none) : x.nextClaim = none := by
  refine (State.nextClaim_none_iff x).mpr (.inr ⟨x.slotClaim_none_of_queue queue, ?_, ?_⟩)
  · simp [State.eventClaim, zero, out]
  · simp [State.meshClaim, snapshot]

theorem State.settle_granted {x y : State} (run : x.hold = .running) (claim : x.nextClaim = none) (grant : x.nextGrant = some y)
    (still : y.nextAction = none) : x.settle = y := by
  have action : x.nextAction = some y := by
    unfold State.nextAction
    rw [if_neg (by rw [run]; decide), claim, grant]
    rfl
  rw [State.settle_of_nextAction action, State.settle_still _ still]

theorem State.nextGrant_selector {x : State} (port : x.path.port = none) (pending : x.path.selPending = true) :
    x.nextGrant = some (State.beginCycle { x with path := { x.path with selPending := false } } .selector) := by
  unfold State.nextGrant
  rw [port, pending]
  rfl

theorem State.nextAction_none_of_port {x : State} {c : Cycle} (run : x.hold = .running) (claim : x.nextClaim = none)
    (port : x.path.port = some c) : x.nextAction = none :=
  (State.nextAction_none_iff run).mpr ⟨claim, (State.nextGrant_none_iff x).mpr (.inl (by
    rw [port]
    exact Option.some_ne_none c))⟩

/-- After a reset the claim for P = 0 is the only one, and the selector read takes the port as soon as it is free. -/
theorem State.settle_afterReset {x : State} (run : x.hold = .running) (buffer : x.path.buffer = []) (queue : x.slots.queue = [])
    (zero : x.events.claimZero = true) (out : x.events.out = []) (pending : x.path.selPending = true)
    (snapshot : x.mesh.snapshot = none) :
    x.settle.path.buffer = [{ offset := 0x100, data := 0, producer := .eventWriter false }] ∧ x.settle.slots = x.slots
      ∧ (x.path.port = none → x.settle.path.port = some { kind := .selector, left := 10 })
      ∧ ∀ c, x.path.port = some c → x.settle.path.port = some c ∧ x.settle.path.selPending = true := by
  have claimed : x.settle = x.zeroQueued.settle :=
    State.settle_eventClaim run (by rw [buffer]; decide) (x.slotClaim_none_of_queue queue) (State.eventClaim_zero zero)
  have first : x.zeroQueued.path.buffer = [{ offset := 0x100, data := 0, producer := .eventWriter false }] := by
    show x.path.buffer ++ _ = _
    rw [buffer]
    rfl
  have still (p : PathUnit) : State.nextClaim { x.zeroQueued with path := p } = none :=
    State.nextClaim_none_of_idle queue rfl out snapshot
  have run' : x.zeroQueued.hold = .running := run
  have slots : x.zeroQueued.slots = x.slots := rfl
  have port' : x.zeroQueued.path.port = x.path.port := rfl
  have pending' : x.zeroQueued.path.selPending = true := pending
  rw [claimed, ← slots, ← port']
  generalize x.zeroQueued = y at *
  cases port : y.path.port with
  | some c =>
    rw [State.settle_still y (State.nextAction_none_of_port run' (still y.path) port)]
    exact ⟨first, rfl, nofun, fun d same => ⟨port.trans same, pending'⟩⟩
  | none =>
    rw [State.settle_granted run' (still y.path) (State.nextGrant_selector port pending')
      (State.nextAction_none_of_port run' (still _) rfl)]
    exact ⟨first, rfl, fun _ => rfl, nofun⟩

/-! ### A fan that is released -/

/-- A fan that is OFF kicks as soon as it is commanded (R86, R87). -/
theorem Fan.takeDemand_starts {x : Fan} (off : x.st = .off) {d : Nat} (some_ : 0 < d) :
    (Fan.takeDemand false d x).drive = 100 ∧ (Fan.takeDemand false d x).kickTimer = some 500 := by
  have above : ¬ max x.commanded d = 0 := by omega
  unfold Fan.takeDemand Fan.follow
  rw [off]
  exact ⟨congrArg Fan.drive (if_neg above), congrArg Fan.kickTimer (if_neg above)⟩

end Sys2Proof.Machine
end

section
/-! SUPPORT for O5. The checks of the cool-down at the release of RESET (R131, R132, R133, R137), and the whole of the release. -/

namespace Sys2Proof.Machine

/-! ### A cool-down that ends with no POWER_DOWN to complete -/

/-- The cool-down has ended; the fans have not yet taken their demand. -/
def State.endedCooling (s : State) : State := { s with power := s.cooledPower, thermal := s.cooledThermal }

theorem State.endCooldown_unasked {s : State} (ref : s.power.ref = none) (r : Result) :
    s.endCooldown r = s.endedCooling.refreshFans.raiseNotice .power := by
  have level : State.highestLevel { s with power := { s.power with ref := none } } = s.highestLevel := rfl
  unfold State.endCooldown State.endedCooling State.cooledPower State.cooledThermal
  rw [ref]
  dsimp only [State.completeRef]
  rw [level]
  by_cases hot : Level.hot.rank ≤ s.highestLevel.rank
  · rw [if_pos hot, if_pos hot, if_pos hot]
    rfl
  · rw [if_neg hot, if_neg hot, if_neg hot]
    rfl

/-- What the end of such a cool-down leaves of a state. -/
structure State.CoolingOver (y t : State) : Prop where
  hold : t.hold = .running
  mem : t.mem = y.mem
  clock : t.clock = y.clock
  power : t.power = y.cooledPower
  notice : t.notice = { y.notice with pend := y.notice.pend ||| NoticeSource.power.bit }
  placement : t.placement = y.placement
  slots : t.slots = y.slots
  fan : ∀ f, t.fan f = (y.fan f).takeDemand y.endedCooling.standby (y.endedCooling.demandOf f)

theorem State.coolingOver {y : State} (run : y.hold = .running) (ref : y.power.ref = none) (r : Result) :
    y.CoolingOver (y.endCooldown r) ∧ (y.endCooldown r).path = y.path := by
  have only := y.endedCooling.refreshFans_only
  have fan := y.endedCooling.refreshFans_fan
  obtain ⟨_, _, clock, hold, _, mem, path, _⟩ := (State.outer_iff _ _).mp only.outer
  have run' : y.endedCooling.refreshFans.hold = .running := hold.trans run
  rw [State.endCooldown_unasked ref, State.raiseNotice_running run']
  have power := only.power
  have notice := only.notice
  have placement := only.placement
  have slots := only.slots
  generalize y.endedCooling.refreshFans = w at *
  refine ⟨⟨run', mem, clock, power, ?_, placement, slots, fun f => fan f⟩, path⟩
  rw [notice]
  rfl

theorem State.CoolingOver.settle {y x : State} (h : y.CoolingOver x) (host : x.path.host = none) (queue : y.slots.queue = []) :
    y.CoolingOver x.settle := by
  have quiet : x.HostQuiet := .inl host
  have slots := x.settle_slots quiet (by rw [h.slots]; exact queue)
  obtain ⟨mem, ⟨clock, _, hold⟩, ⟨_, placement, _⟩, ⟨fans, _, power⟩, notice, _⟩ := (x.settle_keeps quiet).blocks
  exact ⟨hold.trans h.hold, mem.trans h.mem, clock.trans h.clock, power.trans h.power, notice.trans h.notice,
    placement.trans h.placement, slots.trans h.slots, fun f => (State.fan_congr fans f).trans (h.fan f)⟩

/-- With no channel HOT the part stands by (R133). -/
theorem State.CoolingOver.standsBy {y t : State} (h : y.CoolingOver t) (ref : y.power.ref = none)
    (cold : y.highestLevel.rank < Level.hot.rank) :
    t.power = { y.power with mode := .standby } ∧ t.release = true ∧ ∀ f, (t.fan f).demand = 0 ∧ (t.fan f).commanded = 0 := by
  have standby : y.cooledPower = { y.power with mode := .standby } :=
    (if_neg (Nat.not_le.mpr cold)).trans (by rw [← ref])
  have mode : y.endedCooling.power.mode = .standby := congrArg Power.mode standby
  refine ⟨h.power.trans standby, (State.release_iff _).mpr (by rw [h.power, standby]), fun f => ?_⟩
  rw [h.fan, (State.standby_iff _).mpr mode, State.demandOf_standby mode]
  exact ⟨(Fan.takeDemand_commanded _ _ _).1, (Fan.takeDemand_atRest _ _).1⟩

/-! ### The two checks (R131, R132) -/

/-- After a cool-down no maximum has been reached: the part stands by, or a re-cool has only begun. -/
theorem State.cooledPower_fresh (s : State) : ¬ (s.cooledPower.mode = .cooldown ∧ 300000 ≤ s.cooledPower.elapsed) := by
  unfold State.cooledPower
  split
  · exact fun late => absurd late.2 (by decide)
  · exact fun late => nomatch late.1

theorem State.checks_end {y : State} (run : y.hold = .running) (mode : y.power.mode = .cooldown) (ref : y.power.ref = none)
    (park : y.power.park = { h := .notAsked, v := .notAsked }) (due : y.coolDone = true ∨ 300000 ≤ y.power.elapsed) :
    ∃ r, y.checkCooldown.checkTimeout = y.endCooldown r := by
  by_cases done : y.coolDone = true
  · refine ⟨doneOk, ?_⟩
    rw [show y.checkCooldown = y.endCooldown doneOk from if_pos ⟨run, done⟩]
    refine if_neg ?_
    rw [(State.coolingOver run ref doneOk).1.power]
    exact y.cooledPower_fresh
  · refine ⟨endedWith .cooldownTimeout, ?_⟩
    rw [show y.checkCooldown = y from if_neg fun q => done q.2]
    have ended : y.parksEnded .cooldownTimeout = y := State.parksEnded_of_none (by rw [park]; decide) (by rw [park]; decide) _
    have expiry : y.checkTimeout = (y.parksEnded .cooldownTimeout).endCooldown (endedWith .cooldownTimeout) :=
      if_pos ⟨mode, due.resolve_left done⟩
    rw [expiry, ended]

theorem State.checks_pass {y : State} (undone : y.coolDone ≠ true) (early : y.power.elapsed < 300000) :
    y.checkCooldown.checkTimeout = y := by
  rw [show y.checkCooldown = y from if_neg fun q => undone q.2]
  exact if_neg fun q => absurd q.2 (Nat.not_le.mpr early)

/-! ### The fans after a reset (R82, R96) -/

theorem State.powerOn_demand (s : State) (pins : PinLevels) (f : FanId) : (s.powerOn pins).demandOf f = 40 := by
  have channel (c : ChannelId) : (s.powerOn pins).channel c = Initial.channel c := by cases c <;> rfl
  have fan : (s.powerOn pins).fan f = Initial.fan := by cases f <;> rfl
  unfold State.demandOf State.largestTerm State.governing
  rw [channel, fan]
  rfl

theorem State.assertReset_fan {s : State} (running : s.hold = .running) (straps : Straps) (f : FanId) :
    (s.assertReset straps).fan f = Fan.systemReset s.standby (s.fan f) := by
  rw [State.assertReset_eq straps running]
  cases f <;> rfl

theorem State.assertReset_axis {s : State} (running : s.hold = .running) (straps : Straps) (a : AxisId) :
    (s.assertReset straps).axis a = (s.axis a).systemReset := by
  rw [State.assertReset_eq straps running]
  cases a <;> rfl

/-- No channel has been read since the reset (R116), so that the blind duty applies. -/
theorem State.assertReset_blind {s : State} (running : s.hold = .running) (mode : s.power.mode = .run) (straps : Straps) (f : FanId) :
    40 ≤ (s.assertReset straps).demandOf f := by
  have unseen (c : ChannelId) : ((s.assertReset straps).channel c).seen = false := by
    rw [State.assertReset_eq straps running]
    cases c <;> rfl
  have mode' : (s.assertReset straps).power.mode = .run := by
    rw [State.assertReset_eq straps running]
    exact mode
  exact State.le_demandOf (by rw [mode']; decide)
    (State.term_le_largest (by simp [State.DemandTerm, unseen]))

theorem State.standby_false {s : State} (awake : s.power.mode ≠ .standby) : s.standby = false :=
  Bool.eq_false_iff.mpr fun q => awake (s.standby_iff.mp q)

/-! ### The whole of the release (O5) -/

/-- After power-on the filtered levels are the pin levels (R36) and every fan kicks at the blind duty (R96). -/
theorem State.powerOn_released {s t : State} {pins : PinLevels} (h : (s.powerOn pins).Released t) :
    (∀ f, (t.fan f).st = .kick ∧ (t.fan f).demand = 40 ∧ (t.fan f).commanded = 40 ∧ (t.fan f).drive = 100
        ∧ (t.fan f).kickTimer = some 500)
      ∧ ∀ a, (t.axis a).enc.a.filtered = (t.axis a).enc.a.raw ∧ (t.axis a).enc.b.filtered = (t.axis a).enc.b.raw
          ∧ (t.axis a).enc.i.filtered = (t.axis a).enc.i.raw ∧ (t.axis a).counter = 0 := by
  refine ⟨fun f => ?_, fun a => ?_⟩
  · have fan : (s.powerOn pins).fan f = Initial.fan := by cases f <;> rfl
    have awake : (s.powerOn pins).standby = false := rfl
    rw [h.fan, s.powerOn_demand, fan, awake]
    and_intros <;> rfl
  · rw [(h.axis a).eq]
    cases a <;> and_intros <;> rfl

/-- After a system reset in RUN the axes keep their counts (R60), and every fan that is not FAILED kicks (R96). -/
theorem State.assertReset_released {s t : State} {straps : Straps} (running : s.hold = .running) (mode : s.power.mode = .run)
    (h : (s.assertReset straps).Released t) :
    (∀ f, (s.fan f).st ≠ .failed → (t.fan f).st = .kick ∧ 40 ≤ (t.fan f).commanded ∧ (t.fan f).drive = 100)
      ∧ (∀ f, (s.fan f).st = .failed → (t.fan f).st = .failed ∧ (t.fan f).drive = 100)
      ∧ ∀ a, (t.axis a).counter = (s.axis a).counter ∧ (t.axis a).homed = (s.axis a).homed ∧ (t.axis a).cfg = (s.axis a).cfg := by
  have awake : (s.assertReset straps).standby = false := by
    rw [State.assertReset_eq straps running]
    exact State.standby_false (s := s) (by rw [mode]; decide)
  have fan := State.assertReset_fan running straps
  refine ⟨fun f sound => ?_, fun f failed => ?_, fun a => ?_⟩
  · have blind := State.assertReset_blind running mode straps f
    have off : ((s.assertReset straps).fan f).st = .off := by
      rw [fan]
      exact if_neg sound
    rw [h.fan, awake]
    refine ⟨Fan.takeDemand_kicks off (by omega), ?_, (Fan.takeDemand_starts off (by omega)).1⟩
    rw [(Fan.takeDemand_commanded _ _ _).2.1, if_neg Bool.false_ne_true]
    exact Nat.le_trans blind (Nat.le_max_right _ _)
  · have failed' : ((s.assertReset straps).fan f).st = .failed := by
      rw [fan]
      exact if_pos failed
    rw [h.fan, awake]
    exact Fan.takeDemand_failed false _ _ failed'
  · have unheld : (s.assertReset straps).unheld.axis a = (s.axis a).systemReset := by
      rw [← State.assertReset_axis running, State.assertReset_eq straps running]
      rfl
    rw [(h.axis a).eq, unheld]
    exact ⟨rfl, rfl, rfl⟩

/-- In STANDBY no fan moves (R85, R86). -/
theorem State.Released.fan_standby {u t : State} (h : u.Released t) (mode : u.power.mode = .standby) (f : FanId) :
    (t.fan f).demand = 0 ∧ (t.fan f).commanded = 0
      ∧ ((u.fan f).st = .off ∨ (u.fan f).st = .failed → (t.fan f).st = (u.fan f).st ∧ (t.fan f).drive = 0) := by
  rw [h.fan, (u.standby_iff).mpr mode, State.demandOf_standby mode]
  obtain ⟨commanded, drive⟩ := Fan.takeDemand_atRest 0 (u.fan f)
  refine ⟨(Fan.takeDemand_commanded _ _ _).1, commanded, fun kind => ⟨?_, drive⟩⟩
  rcases kind with off | failed
  · rw [Fan.takeDemand_off off, off]
  · rw [(Fan.takeDemand_failed _ _ _ failed).1, failed]

/-- A release in COOLDOWN that ends the cool-down, or does not (R137). -/
theorem State.releases_cooling {u : State} (hold : u.hold = .system) (host : u.path.host = none) (queue : u.slots.queue = [])
    (mode : u.power.mode = .cooldown) (ref : u.power.ref = none) (park : u.power.park = { h := .notAsked, v := .notAsked }) :
    ∃ t, exec .resetRelease u = .next t
      ∧ ((u.coolDone = true ∨ 300000 ≤ u.power.elapsed) → u.unheld.refreshFans.CoolingOver t)
      ∧ (¬ (u.coolDone = true ∨ 300000 ≤ u.power.elapsed) → u.Released t ∧ t.slots = u.slots) := by
  have held : u.hold ≠ .running := by rw [hold]; decide
  have released := u.released
  have host' := u.unheld_host.trans host
  have slots : u.unheld.refreshFans.slots = u.slots := u.unheld.refreshFans_only.slots.trans u.unheld_blocks.1
  have row := fun x => State.releases (x := x) held
  generalize u.unheld.refreshFans = y at *
  have done : y.coolDone = u.coolDone := by
    unfold State.coolDone
    rw [released.power, released.thermal]
  have ref' : y.power.ref = none := by rw [released.power]; exact ref
  by_cases due : u.coolDone = true ∨ 300000 ≤ u.power.elapsed
  · obtain ⟨r, ends⟩ := State.checks_end released.hold (by rw [released.power]; exact mode) ref'
      (by rw [released.power]; exact park) (by rw [done, released.power]; exact due)
    obtain ⟨cools, path⟩ := State.coolingOver released.hold ref' r
    have free : (y.endCooldown r).path.host = none := by rw [path]; exact host'
    exact ⟨_, row _ ends free, fun _ => cools.settle free (by rw [slots]; exact queue), fun q => absurd due q⟩
  · obtain ⟨undone, early⟩ := not_or.mp due
    have passes := State.checks_pass (y := y) (by rw [done]; exact undone)
      (by rw [released.power]; exact Nat.not_le.mp early)
    exact ⟨_, row _ passes host', fun q => absurd q due, fun _ => ⟨released.settle (.inl host'),
      (y.settle_slots (.inl host') (by rw [slots]; exact queue)).trans slots⟩⟩

end Sys2Proof.Machine
end

section
/-! SUPPORT for O5. The release of RESET in each of the states it may find (R36, R96, R125, R137, R155, R179). -/

namespace Sys2Proof.Machine

/-- What a release finds of the path, the slots, the event writer and the mesh generator after either reset. -/
structure State.FreshHost (s : State) : Prop where
  held : s.hold ≠ .running
  host : s.path.host = none
  buffer : s.path.buffer = []
  queue : s.slots.queue = []
  events : s.events = Initial.events
  snapshot : s.mesh.snapshot = none
  mode : s.power.mode ≠ .cooldown

theorem State.freshHost_powerOn (s : State) (pins : PinLevels) : (s.powerOn pins).FreshHost :=
  ⟨nofun, rfl, rfl, rfl, rfl, rfl, nofun⟩

theorem State.freshHost_assertReset {s : State} (running : s.hold = .running) (mode : s.power.mode = .run) (straps : Straps) :
    (s.assertReset straps).FreshHost := by
  rw [State.assertReset_eq straps running]
  exact ⟨nofun, rfl, rfl, rfl, rfl, rfl, fun q => nomatch mode.symm.trans q⟩

/-- The claim for P = 0 and the selector read are all that a release after a reset sets going. -/
theorem State.FreshHost.releases {s : State} (h : s.FreshHost) :
    ∃ t, exec .resetRelease s = .next t ∧ s.Released t ∧ t.slots = s.slots
      ∧ t.path.buffer = [{ offset := 0x100, data := 0, producer := .eventWriter false }]
      ∧ (s.path.port = none → t.path.port = some { kind := .selector, left := 10 })
      ∧ ∀ c, s.path.port = some c → t.path.port = some c ∧ t.path.selPending = true := by
  obtain ⟨row, released⟩ := State.releases_awake h.held h.host h.mode
  obtain ⟨_, _, _, _, path, run, events⟩ := s.released_keeps
  have only := s.unheld.refreshFans_only
  have slots : s.unheld.refreshFans.slots = s.slots := only.slots.trans s.unheld_blocks.1
  have mesh : s.unheld.refreshFans.mesh = s.mesh := only.mesh.trans s.unheld_blocks.2.2.2.2.1
  obtain ⟨buffer, kept, grants, waits⟩ := State.settle_afterReset run (by rw [path]; exact h.buffer) (by rw [slots]; exact h.queue)
    (by rw [events]) (by rw [events, h.events]; rfl) (by rw [path]) (by rw [mesh]; exact h.snapshot)
  rw [path] at grants waits
  exact ⟨_, row, released, kept.trans slots, buffer, grants, waits⟩

/-- Settles O5: the release after power-on, after a system reset in RUN, in STANDBY, in COOLDOWN, and while the part runs. -/
theorem resetRelease : Obligations.ResetRelease := by
  refine ⟨fun s pins => ?_, fun s straps running mode => ?_, fun u hold host mode => ?_,
    fun u hold host queue mode ref park => ?_, fun s running => congrArg Host.Outcome.next (if_pos running)⟩
  · obtain ⟨t, row, released, _, buffer, grants, _⟩ := (s.freshHost_powerOn pins).releases
    obtain ⟨fans, axes⟩ := State.powerOn_released released
    exact ⟨t, row, released.hold, grants rfl, buffer, fans, axes, released.mem, released.clock⟩
  · obtain ⟨t, row, released, slots, buffer, grants, waits⟩ := (State.freshHost_assertReset running mode straps).releases
    obtain ⟨sound, failed, axes⟩ := State.assertReset_released running mode released
    have port : (s.assertReset straps).path.port = s.path.port.map fun c => { c with kind := .orphan } := by
      rw [State.assertReset_eq straps running]
      rfl
    have supply : (s.assertReset straps).pins.supplyLow = s.pins.supplyLow := by
      rw [State.assertReset_eq straps running]
      rfl
    have capacity := released.capacity
    rw [supply] at capacity
    rw [port] at grants waits
    refine ⟨t, row, released.hold, capacity, fun free => grants (by rw [free]; rfl), fun c busy => waits _ (by rw [busy]; rfl),
      buffer, sound, failed, axes, released.mem, ?_, slots, released.notice⟩
    exact released.clock.trans (s.assertReset_clock straps)
  · obtain ⟨row, released⟩ := State.releases_awake (by rw [hold]; decide) host (by rw [mode]; decide)
    exact ⟨_, row, released.hold, released.power, (State.release_iff _).mpr (by rw [released.power]; exact mode),
      released.fan_standby mode, released.capacity, released.mem, released.clock, released.notice, released.placement⟩
  · obtain ⟨t, row, ends, goesOn⟩ := State.releases_cooling hold host queue mode ref park
    have released := u.released
    have slots : u.unheld.refreshFans.slots = u.slots :=
      u.unheld.refreshFans_only.slots.trans u.unheld_blocks.1
    have done := State.coolDone_iff mode
    rw [park] at done
    by_cases due : u.coolDone = true ∨ 300000 ≤ u.power.elapsed
    · have cools := ends due
      refine ⟨t, row, cools.hold, by rw [cools.slots, slots], fun why => ?_, fun _ cold => ?_, cools.mem.trans released.mem,
        cools.clock.trans released.clock, cools.placement.trans released.placement⟩
      · obtain ⟨why, early⟩ := why
        obtain ⟨minMet, sound, cool, _⟩ := done.mp (due.resolve_right (Nat.not_le.mpr early))
        rcases why with unmet | fault | hot
        · exact nomatch minMet.symm.trans unmet
        · exact nomatch Eq.trans (Eq.symm sound) fault
        · exact absurd cool (Int.not_le.mpr hot)
      · have level : u.unheld.refreshFans.highestLevel = u.highestLevel := by
          unfold State.highestLevel
          rw [released.thermal]
        obtain ⟨power, release, fans⟩ := cools.standsBy (by rw [released.power]; exact ref) (by rw [level]; exact cold)
        exact ⟨by rw [power, released.power], release, by rw [cools.notice, released.notice], fans⟩
    · obtain ⟨stays, kept⟩ := goesOn due
      refine ⟨t, row, stays.hold, by rw [kept], fun _ => ⟨stays.power, stays.notice, ?_, fun f => ?_⟩, fun why => absurd ?_ due,
        stays.mem, stays.clock, stays.placement⟩
      · have cooling : t.power.mode = .cooldown := by rw [stays.power, mode]
        exact Bool.eq_false_iff.mpr fun q => nomatch cooling.symm.trans ((State.release_iff t).mp q)
      · have fan : t.fan f = u.unheld.refreshFans.fan f := (stays.fan f).trans (released.fan f).symm
        obtain ⟨enough, commanded⟩ := State.cooled_demand (u := u.unheld) (by rw [u.unheld_blocks.2.1]; exact mode) f
        rw [fan, commanded]
        exact Nat.le_trans enough (Nat.le_max_right _ _)
      · exact why.imp_left fun ⟨minMet, sound, cool⟩ => done.mpr ⟨minMet, sound, cool, by decide, by decide⟩

end Sys2Proof.Machine
end
